-- ==== Sys2Proof/Word.lean ====
section
/-! DEFINITION. The words of the machine: 64-bit registers, bytes, register numbers (00_scope.md R8, R11). -/

namespace Sys2Proof

/-- A general register, a virtual address, a doubleword: 64 bits. -/
abbrev Word := BitVec 64

/-- A byte: 8 bits, the smallest addressable unit (20_memory.md R101). -/
abbrev Byte := BitVec 8

/-- A 5-bit register field of an instruction (30_encoding.md R162). -/
abbrev RegNum := BitVec 5

/-- A physical address: 40 bits (20_memory.md R112). -/
abbrev PhysAddr := BitVec 40

/-- The 32 bytes of a cache line, the byte at the lowest address in bits 7:0 (10_state.md R60). -/
abbrev Line := BitVec 256

end Sys2Proof
end

