-- ==== Sys2Proof/Syntax.lean ====
section
/-! DEFINITION. The instructions of the processor, one constructor for each row of spec/opcode_table.json, with
the row's fields as operands (30_encoding.md R160 to R174), and the reasons a word can fail to decode. -/

namespace Sys2Proof

/-- An instruction. The constructor names follow the mnemonics; each field is the bit vector the encoding holds. -/
inductive Instr where
  /-- LB, rule R202. -/
  | lb (base : BitVec 5) (rt : BitVec 5) (offset : BitVec 16)
  /-- LBU, rule R203. -/
  | lbu (base : BitVec 5) (rt : BitVec 5) (offset : BitVec 16)
  /-- LH, rule R204. -/
  | lh (base : BitVec 5) (rt : BitVec 5) (offset : BitVec 16)
  /-- LHU, rule R205. -/
  | lhu (base : BitVec 5) (rt : BitVec 5) (offset : BitVec 16)
  /-- LW, rule R206. -/
  | lw (base : BitVec 5) (rt : BitVec 5) (offset : BitVec 16)
  /-- LWU, rule R207. -/
  | lwu (base : BitVec 5) (rt : BitVec 5) (offset : BitVec 16)
  /-- LD, rule R208. -/
  | ld (base : BitVec 5) (rt : BitVec 5) (offset : BitVec 16)
  /-- LWL, rule R209. -/
  | lwl (base : BitVec 5) (rt : BitVec 5) (offset : BitVec 16)
  /-- LWR, rule R210. -/
  | lwr (base : BitVec 5) (rt : BitVec 5) (offset : BitVec 16)
  /-- LDL, rule R211. -/
  | ldl (base : BitVec 5) (rt : BitVec 5) (offset : BitVec 16)
  /-- LDR, rule R212. -/
  | ldr (base : BitVec 5) (rt : BitVec 5) (offset : BitVec 16)
  /-- LL, rule R214. -/
  | ll (base : BitVec 5) (rt : BitVec 5) (offset : BitVec 16)
  /-- LLD, rule R215. -/
  | lld (base : BitVec 5) (rt : BitVec 5) (offset : BitVec 16)
  /-- SB, rule R216. -/
  | sb (base : BitVec 5) (rt : BitVec 5) (offset : BitVec 16)
  /-- SH, rule R217. -/
  | sh (base : BitVec 5) (rt : BitVec 5) (offset : BitVec 16)
  /-- SW, rule R218. -/
  | sw (base : BitVec 5) (rt : BitVec 5) (offset : BitVec 16)
  /-- SD, rule R219. -/
  | sd (base : BitVec 5) (rt : BitVec 5) (offset : BitVec 16)
  /-- SWL, rule R220. -/
  | swl (base : BitVec 5) (rt : BitVec 5) (offset : BitVec 16)
  /-- SWR, rule R221. -/
  | swr (base : BitVec 5) (rt : BitVec 5) (offset : BitVec 16)
  /-- SDL, rule R222. -/
  | sdl (base : BitVec 5) (rt : BitVec 5) (offset : BitVec 16)
  /-- SDR, rule R223. -/
  | sdr (base : BitVec 5) (rt : BitVec 5) (offset : BitVec 16)
  /-- SC, rule R226. -/
  | sc (base : BitVec 5) (rt : BitVec 5) (offset : BitVec 16)
  /-- SCD, rule R227. -/
  | scd (base : BitVec 5) (rt : BitVec 5) (offset : BitVec 16)
  /-- LWC1, rule R224. -/
  | lwc1 (base : BitVec 5) (ft : BitVec 5) (offset : BitVec 16)
  /-- LDC1, rule R225. -/
  | ldc1 (base : BitVec 5) (ft : BitVec 5) (offset : BitVec 16)
  /-- SWC1, rule R228. -/
  | swc1 (base : BitVec 5) (ft : BitVec 5) (offset : BitVec 16)
  /-- SDC1, rule R229. -/
  | sdc1 (base : BitVec 5) (ft : BitVec 5) (offset : BitVec 16)
  /-- SYNC, rule R230. -/
  | sync
  /-- ADDI, rule R241. -/
  | addi (rs : BitVec 5) (rt : BitVec 5) (imm : BitVec 16)
  /-- DADDI, rule R242. -/
  | daddi (rs : BitVec 5) (rt : BitVec 5) (imm : BitVec 16)
  /-- ADDIU, rule R243. -/
  | addiu (rs : BitVec 5) (rt : BitVec 5) (imm : BitVec 16)
  /-- DADDIU, rule R244. -/
  | daddiu (rs : BitVec 5) (rt : BitVec 5) (imm : BitVec 16)
  /-- SLTI, rule R245. -/
  | slti (rs : BitVec 5) (rt : BitVec 5) (imm : BitVec 16)
  /-- SLTIU, rule R246. -/
  | sltiu (rs : BitVec 5) (rt : BitVec 5) (imm : BitVec 16)
  /-- ANDI, rule R247. -/
  | andi (rs : BitVec 5) (rt : BitVec 5) (imm : BitVec 16)
  /-- ORI, rule R248. -/
  | ori (rs : BitVec 5) (rt : BitVec 5) (imm : BitVec 16)
  /-- XORI, rule R249. -/
  | xori (rs : BitVec 5) (rt : BitVec 5) (imm : BitVec 16)
  /-- LUI, rule R250. -/
  | lui (rt : BitVec 5) (imm : BitVec 16)
  /-- ADD, rule R256. -/
  | add (rs : BitVec 5) (rt : BitVec 5) (rd : BitVec 5)
  /-- DADD, rule R257. -/
  | dadd (rs : BitVec 5) (rt : BitVec 5) (rd : BitVec 5)
  /-- ADDU, rule R258. -/
  | addu (rs : BitVec 5) (rt : BitVec 5) (rd : BitVec 5)
  /-- DADDU, rule R259. -/
  | daddu (rs : BitVec 5) (rt : BitVec 5) (rd : BitVec 5)
  /-- SUB, rule R260. -/
  | sub (rs : BitVec 5) (rt : BitVec 5) (rd : BitVec 5)
  /-- DSUB, rule R261. -/
  | dsub (rs : BitVec 5) (rt : BitVec 5) (rd : BitVec 5)
  /-- SUBU, rule R262. -/
  | subu (rs : BitVec 5) (rt : BitVec 5) (rd : BitVec 5)
  /-- DSUBU, rule R263. -/
  | dsubu (rs : BitVec 5) (rt : BitVec 5) (rd : BitVec 5)
  /-- SLT, rule R264. -/
  | slt (rs : BitVec 5) (rt : BitVec 5) (rd : BitVec 5)
  /-- SLTU, rule R265. -/
  | sltu (rs : BitVec 5) (rt : BitVec 5) (rd : BitVec 5)
  /-- AND, rule R266. -/
  | and (rs : BitVec 5) (rt : BitVec 5) (rd : BitVec 5)
  /-- OR, rule R267. -/
  | or (rs : BitVec 5) (rt : BitVec 5) (rd : BitVec 5)
  /-- XOR, rule R268. -/
  | xor (rs : BitVec 5) (rt : BitVec 5) (rd : BitVec 5)
  /-- NOR, rule R269. -/
  | nor (rs : BitVec 5) (rt : BitVec 5) (rd : BitVec 5)
  /-- MULT, rule R276. -/
  | mult (rs : BitVec 5) (rt : BitVec 5)
  /-- MULTU, rule R277. -/
  | multu (rs : BitVec 5) (rt : BitVec 5)
  /-- DMULT, rule R278. -/
  | dmult (rs : BitVec 5) (rt : BitVec 5)
  /-- DMULTU, rule R279. -/
  | dmultu (rs : BitVec 5) (rt : BitVec 5)
  /-- DIV, rule R280. -/
  | div (rs : BitVec 5) (rt : BitVec 5)
  /-- DIVU, rule R281. -/
  | divu (rs : BitVec 5) (rt : BitVec 5)
  /-- DDIV, rule R282. -/
  | ddiv (rs : BitVec 5) (rt : BitVec 5)
  /-- DDIVU, rule R283. -/
  | ddivu (rs : BitVec 5) (rt : BitVec 5)
  /-- MFHI, rule R284. -/
  | mfhi (rd : BitVec 5)
  /-- MTHI, rule R285. -/
  | mthi (rs : BitVec 5)
  /-- MFLO, rule R286. -/
  | mflo (rd : BitVec 5)
  /-- MTLO, rule R287. -/
  | mtlo (rs : BitVec 5)
  /-- MULTG, rule R289. -/
  | multg (rs : BitVec 5) (rt : BitVec 5) (rd : BitVec 5)
  /-- DMULTG, rule R290. -/
  | dmultg (rs : BitVec 5) (rt : BitVec 5) (rd : BitVec 5)
  /-- MULTUG, rule R291. -/
  | multug (rs : BitVec 5) (rt : BitVec 5) (rd : BitVec 5)
  /-- DMULTUG, rule R292. -/
  | dmultug (rs : BitVec 5) (rt : BitVec 5) (rd : BitVec 5)
  /-- DIVG, rule R293. -/
  | divg (rs : BitVec 5) (rt : BitVec 5) (rd : BitVec 5)
  /-- DDIVG, rule R294. -/
  | ddivg (rs : BitVec 5) (rt : BitVec 5) (rd : BitVec 5)
  /-- DIVUG, rule R295. -/
  | divug (rs : BitVec 5) (rt : BitVec 5) (rd : BitVec 5)
  /-- DDIVUG, rule R296. -/
  | ddivug (rs : BitVec 5) (rt : BitVec 5) (rd : BitVec 5)
  /-- MODG, rule R297. -/
  | modg (rs : BitVec 5) (rt : BitVec 5) (rd : BitVec 5)
  /-- DMODG, rule R298. -/
  | dmodg (rs : BitVec 5) (rt : BitVec 5) (rd : BitVec 5)
  /-- MODUG, rule R299. -/
  | modug (rs : BitVec 5) (rt : BitVec 5) (rd : BitVec 5)
  /-- DMODUG, rule R300. -/
  | dmodug (rs : BitVec 5) (rt : BitVec 5) (rd : BitVec 5)
  /-- J, rule R308. -/
  | j (target : BitVec 26)
  /-- JAL, rule R309. -/
  | jal (target : BitVec 26)
  /-- JR, rule R310. -/
  | jr (rs : BitVec 5)
  /-- JALR, rule R311. -/
  | jalr (rs : BitVec 5) (rd : BitVec 5)
  /-- BEQ, rule R312. -/
  | beq (rs : BitVec 5) (rt : BitVec 5) (imm : BitVec 16)
  /-- BNE, rule R313. -/
  | bne (rs : BitVec 5) (rt : BitVec 5) (imm : BitVec 16)
  /-- BLEZ, rule R314. -/
  | blez (rs : BitVec 5) (imm : BitVec 16)
  /-- BGTZ, rule R315. -/
  | bgtz (rs : BitVec 5) (imm : BitVec 16)
  /-- BLTZ, rule R316. -/
  | bltz (rs : BitVec 5) (imm : BitVec 16)
  /-- BGEZ, rule R317. -/
  | bgez (rs : BitVec 5) (imm : BitVec 16)
  /-- BLTZAL, rule R318. -/
  | bltzal (rs : BitVec 5) (imm : BitVec 16)
  /-- BGEZAL, rule R319. -/
  | bgezal (rs : BitVec 5) (imm : BitVec 16)
  /-- BEQL, rule R320. -/
  | beql (rs : BitVec 5) (rt : BitVec 5) (imm : BitVec 16)
  /-- BNEL, rule R321. -/
  | bnel (rs : BitVec 5) (rt : BitVec 5) (imm : BitVec 16)
  /-- BLEZL, rule R322. -/
  | blezl (rs : BitVec 5) (imm : BitVec 16)
  /-- BGTZL, rule R323. -/
  | bgtzl (rs : BitVec 5) (imm : BitVec 16)
  /-- BLTZL, rule R324. -/
  | bltzl (rs : BitVec 5) (imm : BitVec 16)
  /-- BGEZL, rule R325. -/
  | bgezl (rs : BitVec 5) (imm : BitVec 16)
  /-- BLTZALL, rule R326. -/
  | bltzall (rs : BitVec 5) (imm : BitVec 16)
  /-- BGEZALL, rule R327. -/
  | bgezall (rs : BitVec 5) (imm : BitVec 16)
  /-- SLL, rule R336. -/
  | sll (rt : BitVec 5) (rd : BitVec 5) (sa : BitVec 5)
  /-- SRL, rule R337. -/
  | srl (rt : BitVec 5) (rd : BitVec 5) (sa : BitVec 5)
  /-- SRA, rule R338. -/
  | sra (rt : BitVec 5) (rd : BitVec 5) (sa : BitVec 5)
  /-- DSLL, rule R342. -/
  | dsll (rt : BitVec 5) (rd : BitVec 5) (sa : BitVec 5)
  /-- DSRL, rule R343. -/
  | dsrl (rt : BitVec 5) (rd : BitVec 5) (sa : BitVec 5)
  /-- DSRA, rule R344. -/
  | dsra (rt : BitVec 5) (rd : BitVec 5) (sa : BitVec 5)
  /-- DSLL32, rule R348. -/
  | dsll32 (rt : BitVec 5) (rd : BitVec 5) (sa : BitVec 5)
  /-- DSRL32, rule R349. -/
  | dsrl32 (rt : BitVec 5) (rd : BitVec 5) (sa : BitVec 5)
  /-- DSRA32, rule R350. -/
  | dsra32 (rt : BitVec 5) (rd : BitVec 5) (sa : BitVec 5)
  /-- SLLV, rule R339. -/
  | sllv (rs : BitVec 5) (rt : BitVec 5) (rd : BitVec 5)
  /-- SRLV, rule R340. -/
  | srlv (rs : BitVec 5) (rt : BitVec 5) (rd : BitVec 5)
  /-- SRAV, rule R341. -/
  | srav (rs : BitVec 5) (rt : BitVec 5) (rd : BitVec 5)
  /-- DSLLV, rule R345. -/
  | dsllv (rs : BitVec 5) (rt : BitVec 5) (rd : BitVec 5)
  /-- DSRLV, rule R346. -/
  | dsrlv (rs : BitVec 5) (rt : BitVec 5) (rd : BitVec 5)
  /-- DSRAV, rule R347. -/
  | dsrav (rs : BitVec 5) (rt : BitVec 5) (rd : BitVec 5)
  /-- SYSCALL, rule R355. -/
  | syscall (code : BitVec 20)
  /-- BREAK, rule R356. -/
  | brk (code : BitVec 20)
  /-- TGE, rule R359. -/
  | tge (rs : BitVec 5) (rt : BitVec 5) (code : BitVec 10)
  /-- TGEU, rule R360. -/
  | tgeu (rs : BitVec 5) (rt : BitVec 5) (code : BitVec 10)
  /-- TLT, rule R361. -/
  | tlt (rs : BitVec 5) (rt : BitVec 5) (code : BitVec 10)
  /-- TLTU, rule R362. -/
  | tltu (rs : BitVec 5) (rt : BitVec 5) (code : BitVec 10)
  /-- TEQ, rule R363. -/
  | teq (rs : BitVec 5) (rt : BitVec 5) (code : BitVec 10)
  /-- TNE, rule R364. -/
  | tne (rs : BitVec 5) (rt : BitVec 5) (code : BitVec 10)
  /-- TGEI, rule R365. -/
  | tgei (rs : BitVec 5) (imm : BitVec 16)
  /-- TGEIU, rule R366. -/
  | tgeiu (rs : BitVec 5) (imm : BitVec 16)
  /-- TLTI, rule R367. -/
  | tlti (rs : BitVec 5) (imm : BitVec 16)
  /-- TLTIU, rule R368. -/
  | tltiu (rs : BitVec 5) (imm : BitVec 16)
  /-- TEQI, rule R369. -/
  | teqi (rs : BitVec 5) (imm : BitVec 16)
  /-- TNEI, rule R370. -/
  | tnei (rs : BitVec 5) (imm : BitVec 16)
  /-- MFC0, rule R376. -/
  | mfc0 (rt : BitVec 5) (rd : BitVec 5)
  /-- MTC0, rule R377. -/
  | mtc0 (rt : BitVec 5) (rd : BitVec 5)
  /-- DMFC0, rule R378. -/
  | dmfc0 (rt : BitVec 5) (rd : BitVec 5)
  /-- DMTC0, rule R385. -/
  | dmtc0 (rt : BitVec 5) (rd : BitVec 5)
  /-- TLBP, rule R380. -/
  | tlbp
  /-- TLBR, rule R381. -/
  | tlbr
  /-- TLBWI, rule R382. -/
  | tlbwi
  /-- TLBWR, rule R383. -/
  | tlbwr
  /-- ERET, rule R384. -/
  | eret
  /-- CACHE.INDEX_INVALIDATE_I, rule R388. -/
  | cacheIndexInvalidateI (base : BitVec 5) (offset : BitVec 16)
  /-- CACHE.INDEX_WRITEBACK_INVALIDATE_D, rule R389. -/
  | cacheIndexWritebackInvalidateD (base : BitVec 5) (offset : BitVec 16)
  /-- CACHE.INDEX_WRITEBACK_INVALIDATE_S, rule R390. -/
  | cacheIndexWritebackInvalidateS (base : BitVec 5) (offset : BitVec 16)
  /-- CACHE.INDEX_LOAD_TAG_D, rule R391. -/
  | cacheIndexLoadTagD (base : BitVec 5) (offset : BitVec 16)
  /-- CACHE.INDEX_LOAD_TAG_S, rule R392. -/
  | cacheIndexLoadTagS (base : BitVec 5) (offset : BitVec 16)
  /-- CACHE.INDEX_STORE_TAG_D, rule R393. -/
  | cacheIndexStoreTagD (base : BitVec 5) (offset : BitVec 16)
  /-- CACHE.INDEX_STORE_TAG_S, rule R394. -/
  | cacheIndexStoreTagS (base : BitVec 5) (offset : BitVec 16)
  /-- CACHE.HIT_INVALIDATE_D, rule R395. -/
  | cacheHitInvalidateD (base : BitVec 5) (offset : BitVec 16)
  /-- CACHE.HIT_INVALIDATE_S, rule R397. -/
  | cacheHitInvalidateS (base : BitVec 5) (offset : BitVec 16)
  /-- CACHE.HIT_WRITEBACK_INVALIDATE_D, rule R398. -/
  | cacheHitWritebackInvalidateD (base : BitVec 5) (offset : BitVec 16)
  /-- CACHE.HIT_WRITEBACK_INVALIDATE_S, rule R399. -/
  | cacheHitWritebackInvalidateS (base : BitVec 5) (offset : BitVec 16)
  /-- CACHE.INDEX_LOAD_DATA_D, rule R400. -/
  | cacheIndexLoadDataD (base : BitVec 5) (offset : BitVec 16)
  /-- CACHE.INDEX_LOAD_DATA_S, rule R401. -/
  | cacheIndexLoadDataS (base : BitVec 5) (offset : BitVec 16)
  /-- CACHE.INDEX_STORE_DATA_D, rule R403. -/
  | cacheIndexStoreDataD (base : BitVec 5) (offset : BitVec 16)
  /-- CACHE.INDEX_STORE_DATA_S, rule R404. -/
  | cacheIndexStoreDataS (base : BitVec 5) (offset : BitVec 16)
  /-- ADD.S, rule R426. -/
  | addS (ft : BitVec 5) (fs : BitVec 5) (fd : BitVec 5)
  /-- ADD.D, rule R426. -/
  | addD (ft : BitVec 5) (fs : BitVec 5) (fd : BitVec 5)
  /-- SUB.S, rule R427. -/
  | subS (ft : BitVec 5) (fs : BitVec 5) (fd : BitVec 5)
  /-- SUB.D, rule R427. -/
  | subD (ft : BitVec 5) (fs : BitVec 5) (fd : BitVec 5)
  /-- MUL.S, rule R428. -/
  | mulS (ft : BitVec 5) (fs : BitVec 5) (fd : BitVec 5)
  /-- MUL.D, rule R428. -/
  | mulD (ft : BitVec 5) (fs : BitVec 5) (fd : BitVec 5)
  /-- DIV.S, rule R429. -/
  | divS (ft : BitVec 5) (fs : BitVec 5) (fd : BitVec 5)
  /-- DIV.D, rule R429. -/
  | divD (ft : BitVec 5) (fs : BitVec 5) (fd : BitVec 5)
  /-- SQRT.S, rule R430. -/
  | sqrtS (fs : BitVec 5) (fd : BitVec 5)
  /-- SQRT.D, rule R430. -/
  | sqrtD (fs : BitVec 5) (fd : BitVec 5)
  /-- ABS.S, rule R431. -/
  | absS (fs : BitVec 5) (fd : BitVec 5)
  /-- ABS.D, rule R431. -/
  | absD (fs : BitVec 5) (fd : BitVec 5)
  /-- MOV.S, rule R432. -/
  | movS (fs : BitVec 5) (fd : BitVec 5)
  /-- MOV.D, rule R432. -/
  | movD (fs : BitVec 5) (fd : BitVec 5)
  /-- NEG.S, rule R433. -/
  | negS (fs : BitVec 5) (fd : BitVec 5)
  /-- NEG.D, rule R433. -/
  | negD (fs : BitVec 5) (fd : BitVec 5)
  /-- ROUND.L.S, rule R434. -/
  | roundLS (fs : BitVec 5) (fd : BitVec 5)
  /-- ROUND.L.D, rule R434. -/
  | roundLD (fs : BitVec 5) (fd : BitVec 5)
  /-- TRUNC.L.S, rule R435. -/
  | truncLS (fs : BitVec 5) (fd : BitVec 5)
  /-- TRUNC.L.D, rule R435. -/
  | truncLD (fs : BitVec 5) (fd : BitVec 5)
  /-- CEIL.L.S, rule R436. -/
  | ceilLS (fs : BitVec 5) (fd : BitVec 5)
  /-- CEIL.L.D, rule R436. -/
  | ceilLD (fs : BitVec 5) (fd : BitVec 5)
  /-- FLOOR.L.S, rule R437. -/
  | floorLS (fs : BitVec 5) (fd : BitVec 5)
  /-- FLOOR.L.D, rule R437. -/
  | floorLD (fs : BitVec 5) (fd : BitVec 5)
  /-- ROUND.W.S, rule R438. -/
  | roundWS (fs : BitVec 5) (fd : BitVec 5)
  /-- ROUND.W.D, rule R438. -/
  | roundWD (fs : BitVec 5) (fd : BitVec 5)
  /-- TRUNC.W.S, rule R439. -/
  | truncWS (fs : BitVec 5) (fd : BitVec 5)
  /-- TRUNC.W.D, rule R439. -/
  | truncWD (fs : BitVec 5) (fd : BitVec 5)
  /-- CEIL.W.S, rule R440. -/
  | ceilWS (fs : BitVec 5) (fd : BitVec 5)
  /-- CEIL.W.D, rule R440. -/
  | ceilWD (fs : BitVec 5) (fd : BitVec 5)
  /-- FLOOR.W.S, rule R441. -/
  | floorWS (fs : BitVec 5) (fd : BitVec 5)
  /-- FLOOR.W.D, rule R441. -/
  | floorWD (fs : BitVec 5) (fd : BitVec 5)
  /-- CVT.S.D, rule R442. -/
  | cvtSD (fs : BitVec 5) (fd : BitVec 5)
  /-- CVT.S.W, rule R442. -/
  | cvtSW (fs : BitVec 5) (fd : BitVec 5)
  /-- CVT.S.L, rule R442. -/
  | cvtSL (fs : BitVec 5) (fd : BitVec 5)
  /-- CVT.D.S, rule R443. -/
  | cvtDS (fs : BitVec 5) (fd : BitVec 5)
  /-- CVT.D.W, rule R443. -/
  | cvtDW (fs : BitVec 5) (fd : BitVec 5)
  /-- CVT.D.L, rule R443. -/
  | cvtDL (fs : BitVec 5) (fd : BitVec 5)
  /-- CVT.W.S, rule R444. -/
  | cvtWS (fs : BitVec 5) (fd : BitVec 5)
  /-- CVT.W.D, rule R444. -/
  | cvtWD (fs : BitVec 5) (fd : BitVec 5)
  /-- CVT.L.S, rule R445. -/
  | cvtLS (fs : BitVec 5) (fd : BitVec 5)
  /-- CVT.L.D, rule R445. -/
  | cvtLD (fs : BitVec 5) (fd : BitVec 5)
  /-- MFC1, rule R446. -/
  | mfc1 (rt : BitVec 5) (fs : BitVec 5)
  /-- DMFC1, rule R448. -/
  | dmfc1 (rt : BitVec 5) (fs : BitVec 5)
  /-- CFC1, rule R450. -/
  | cfc1 (rt : BitVec 5) (fs : BitVec 5)
  /-- MTC1, rule R447. -/
  | mtc1 (rt : BitVec 5) (fs : BitVec 5)
  /-- DMTC1, rule R449. -/
  | dmtc1 (rt : BitVec 5) (fs : BitVec 5)
  /-- CTC1, rule R451. -/
  | ctc1 (rt : BitVec 5) (fs : BitVec 5)
  /-- C.F.S, rule R453. -/
  | cFS (ft : BitVec 5) (fs : BitVec 5)
  /-- C.F.D, rule R453. -/
  | cFD (ft : BitVec 5) (fs : BitVec 5)
  /-- C.UN.S, rule R454. -/
  | cUnS (ft : BitVec 5) (fs : BitVec 5)
  /-- C.UN.D, rule R454. -/
  | cUnD (ft : BitVec 5) (fs : BitVec 5)
  /-- C.EQ.S, rule R455. -/
  | cEqS (ft : BitVec 5) (fs : BitVec 5)
  /-- C.EQ.D, rule R455. -/
  | cEqD (ft : BitVec 5) (fs : BitVec 5)
  /-- C.UEQ.S, rule R456. -/
  | cUeqS (ft : BitVec 5) (fs : BitVec 5)
  /-- C.UEQ.D, rule R456. -/
  | cUeqD (ft : BitVec 5) (fs : BitVec 5)
  /-- C.OLT.S, rule R457. -/
  | cOltS (ft : BitVec 5) (fs : BitVec 5)
  /-- C.OLT.D, rule R457. -/
  | cOltD (ft : BitVec 5) (fs : BitVec 5)
  /-- C.ULT.S, rule R458. -/
  | cUltS (ft : BitVec 5) (fs : BitVec 5)
  /-- C.ULT.D, rule R458. -/
  | cUltD (ft : BitVec 5) (fs : BitVec 5)
  /-- C.OLE.S, rule R459. -/
  | cOleS (ft : BitVec 5) (fs : BitVec 5)
  /-- C.OLE.D, rule R459. -/
  | cOleD (ft : BitVec 5) (fs : BitVec 5)
  /-- C.ULE.S, rule R460. -/
  | cUleS (ft : BitVec 5) (fs : BitVec 5)
  /-- C.ULE.D, rule R460. -/
  | cUleD (ft : BitVec 5) (fs : BitVec 5)
  /-- C.SF.S, rule R461. -/
  | cSfS (ft : BitVec 5) (fs : BitVec 5)
  /-- C.SF.D, rule R461. -/
  | cSfD (ft : BitVec 5) (fs : BitVec 5)
  /-- C.NGLE.S, rule R462. -/
  | cNgleS (ft : BitVec 5) (fs : BitVec 5)
  /-- C.NGLE.D, rule R462. -/
  | cNgleD (ft : BitVec 5) (fs : BitVec 5)
  /-- C.SEQ.S, rule R463. -/
  | cSeqS (ft : BitVec 5) (fs : BitVec 5)
  /-- C.SEQ.D, rule R463. -/
  | cSeqD (ft : BitVec 5) (fs : BitVec 5)
  /-- C.NGL.S, rule R464. -/
  | cNglS (ft : BitVec 5) (fs : BitVec 5)
  /-- C.NGL.D, rule R464. -/
  | cNglD (ft : BitVec 5) (fs : BitVec 5)
  /-- C.LT.S, rule R465. -/
  | cLtS (ft : BitVec 5) (fs : BitVec 5)
  /-- C.LT.D, rule R465. -/
  | cLtD (ft : BitVec 5) (fs : BitVec 5)
  /-- C.NGE.S, rule R466. -/
  | cNgeS (ft : BitVec 5) (fs : BitVec 5)
  /-- C.NGE.D, rule R466. -/
  | cNgeD (ft : BitVec 5) (fs : BitVec 5)
  /-- C.LE.S, rule R467. -/
  | cLeS (ft : BitVec 5) (fs : BitVec 5)
  /-- C.LE.D, rule R467. -/
  | cLeD (ft : BitVec 5) (fs : BitVec 5)
  /-- C.NGT.S, rule R468. -/
  | cNgtS (ft : BitVec 5) (fs : BitVec 5)
  /-- C.NGT.D, rule R468. -/
  | cNgtD (ft : BitVec 5) (fs : BitVec 5)
  /-- BC1F, rule R470. -/
  | bc1f (imm : BitVec 16)
  /-- BC1T, rule R471. -/
  | bc1t (imm : BitVec 16)
  /-- BC1FL, rule R472. -/
  | bc1fl (imm : BitVec 16)
  /-- BC1TL, rule R473. -/
  | bc1tl (imm : BitVec 16)
  /-- ADD.PS, rule R492. -/
  | addPs (ft : BitVec 5) (fs : BitVec 5) (fd : BitVec 5)
  /-- SUB.PS, rule R493. -/
  | subPs (ft : BitVec 5) (fs : BitVec 5) (fd : BitVec 5)
  /-- MUL.PS, rule R494. -/
  | mulPs (ft : BitVec 5) (fs : BitVec 5) (fd : BitVec 5)
  /-- ABS.PS, rule R495. -/
  | absPs (fs : BitVec 5) (fd : BitVec 5)
  /-- MOV.PS, rule R496. -/
  | movPs (fs : BitVec 5) (fd : BitVec 5)
  /-- NEG.PS, rule R497. -/
  | negPs (fs : BitVec 5) (fd : BitVec 5)
  /-- C.F.PS, rule R499. -/
  | cFPs (ft : BitVec 5) (fs : BitVec 5)
  /-- C.UN.PS, rule R500. -/
  | cUnPs (ft : BitVec 5) (fs : BitVec 5)
  /-- C.EQ.PS, rule R501. -/
  | cEqPs (ft : BitVec 5) (fs : BitVec 5)
  /-- C.UEQ.PS, rule R502. -/
  | cUeqPs (ft : BitVec 5) (fs : BitVec 5)
  /-- C.OLT.PS, rule R503. -/
  | cOltPs (ft : BitVec 5) (fs : BitVec 5)
  /-- C.ULT.PS, rule R504. -/
  | cUltPs (ft : BitVec 5) (fs : BitVec 5)
  /-- C.OLE.PS, rule R505. -/
  | cOlePs (ft : BitVec 5) (fs : BitVec 5)
  /-- C.ULE.PS, rule R506. -/
  | cUlePs (ft : BitVec 5) (fs : BitVec 5)
  /-- C.SF.PS, rule R507. -/
  | cSfPs (ft : BitVec 5) (fs : BitVec 5)
  /-- C.NGLE.PS, rule R508. -/
  | cNglePs (ft : BitVec 5) (fs : BitVec 5)
  /-- C.SEQ.PS, rule R509. -/
  | cSeqPs (ft : BitVec 5) (fs : BitVec 5)
  /-- C.NGL.PS, rule R510. -/
  | cNglPs (ft : BitVec 5) (fs : BitVec 5)
  /-- C.LT.PS, rule R511. -/
  | cLtPs (ft : BitVec 5) (fs : BitVec 5)
  /-- C.NGE.PS, rule R512. -/
  | cNgePs (ft : BitVec 5) (fs : BitVec 5)
  /-- C.LE.PS, rule R513. -/
  | cLePs (ft : BitVec 5) (fs : BitVec 5)
  /-- C.NGT.PS, rule R514. -/
  | cNgtPs (ft : BitVec 5) (fs : BitVec 5)
  /-- MADD.S, rule R516. -/
  | maddS (ft : BitVec 5) (fs : BitVec 5) (fd : BitVec 5)
  /-- MADD.D, rule R516. -/
  | maddD (ft : BitVec 5) (fs : BitVec 5) (fd : BitVec 5)
  /-- MADD.PS, rule R516. -/
  | maddPs (ft : BitVec 5) (fs : BitVec 5) (fd : BitVec 5)
  /-- MSUB.S, rule R517. -/
  | msubS (ft : BitVec 5) (fs : BitVec 5) (fd : BitVec 5)
  /-- MSUB.D, rule R517. -/
  | msubD (ft : BitVec 5) (fs : BitVec 5) (fd : BitVec 5)
  /-- MSUB.PS, rule R517. -/
  | msubPs (ft : BitVec 5) (fs : BitVec 5) (fd : BitVec 5)
  /-- NMADD.S, rule R518. -/
  | nmaddS (ft : BitVec 5) (fs : BitVec 5) (fd : BitVec 5)
  /-- NMADD.D, rule R518. -/
  | nmaddD (ft : BitVec 5) (fs : BitVec 5) (fd : BitVec 5)
  /-- NMADD.PS, rule R518. -/
  | nmaddPs (ft : BitVec 5) (fs : BitVec 5) (fd : BitVec 5)
  /-- NMSUB.S, rule R519. -/
  | nmsubS (ft : BitVec 5) (fs : BitVec 5) (fd : BitVec 5)
  /-- NMSUB.D, rule R519. -/
  | nmsubD (ft : BitVec 5) (fs : BitVec 5) (fd : BitVec 5)
  /-- NMSUB.PS, rule R519. -/
  | nmsubPs (ft : BitVec 5) (fs : BitVec 5) (fd : BitVec 5)
  deriving DecidableEq, Repr

/-- Why a fetched word is no instruction of this spec. -/
inductive Rejection where
  /-- The word raises the reserved instruction exception (30_encoding.md R175). -/
  | reservedInstruction
  /-- The word lies outside the spec: it may be an instruction the manual names but does not describe, or it has a
  non-zero bit in a field that must be zero (R176, R177). -/
  | outsideSpec
  /-- Fewer than four bytes were given. No fetch does this. -/
  | truncated
  deriving DecidableEq, Repr

end Sys2Proof
end

