-- ==== Sys2Proof/WellFormed.lean ====
section
/-! DEFINITION. Well-formed instructions: those the spec gives an effect with their operands whatever the machine
state. The decoder also reads the others (they are rows of the opcode table); the machine refuses them by name. -/

namespace Sys2Proof

/-- Operand combinations the spec takes out of its domain: JALR with rd = rs (44_jump_branch.md R306, R311), linking
branches with rs = 31 (R318), LL and LLD with rt = 0 (40_load_store.md R201), CFC1 and CTC1 of control registers
other than 0 and 31 (10_state.md R78). -/
def WellFormed : Instr → Bool
  | .jalr rs rd => rd != rs
  | .bltzal rs _ | .bgezal rs _ | .bltzall rs _ | .bgezall rs _ => rs != 31#5
  | .ll _ rt _ | .lld _ rt _ => rt != 0#5
  | .cfc1 _ fs | .ctc1 _ fs => fs == 0#5 || fs == 31#5
  | _ => true

end Sys2Proof
end

