-- ==== Sys2Proof/Decode.lean ====
section
/-! DEFINITION. Decoding and encoding (30_encoding.md R160 to R183). `decode` is total on 32-bit words and rejects
by name; the coprocessor-usability check of R178 and R179 is not here but in the machine, because it reads Status.
Log entry 36 says which words are rejected how. `Instr` has more constructors than Lean's compiled code can tag, so
the section is marked noncomputable: the kernel evaluates these functions, compiled code does not hold them. -/

noncomputable section

namespace Sys2Proof

/-! The fields of R161. -/

/-- OP, bits 31:26. -/
def opField (w : BitVec 32) : BitVec 6 := w.extractLsb' 26 6
/-- RS, base, FMT: bits 25:21. -/
def rsField (w : BitVec 32) : BitVec 5 := w.extractLsb' 21 5
/-- RT, ft, the REGIMM selector: bits 20:16. -/
def rtField (w : BitVec 32) : BitVec 5 := w.extractLsb' 16 5
/-- RD, fs: bits 15:11. -/
def rdField (w : BitVec 32) : BitVec 5 := w.extractLsb' 11 5
/-- SA, fd: bits 10:6. -/
def saField (w : BitVec 32) : BitVec 5 := w.extractLsb' 6 5
/-- FUNCT, bits 5:0. -/
def functField (w : BitVec 32) : BitVec 6 := w.extractLsb' 0 6
/-- The 16-bit immediate, bits 15:0. -/
def immField (w : BitVec 32) : BitVec 16 := w.extractLsb' 0 16
/-- The 26-bit jump target, bits 25:0. -/
def targetField (w : BitVec 32) : BitVec 26 := w.extractLsb' 0 26

/-- The code of SYSCALL and BREAK, bits 25:6 (R177). -/
def codeField (w : BitVec 32) : BitVec 20 := w.extractLsb' 6 20
/-- The code of the register traps, bits 15:6 (R177). -/
def trapCodeField (w : BitVec 32) : BitVec 10 := w.extractLsb' 6 10

/-- The instruction `i` when the fields that must be zero are (R177); otherwise the word is outside the spec. -/
def okWhen (zero : Prop) [Decidable zero] (i : Instr) : Except Rejection Instr :=
  if zero then .ok i else .error .outsideSpec

/-! The opcode maps of R167 to R174, one function for each. -/

/-- SPECIAL, selected by FUNCT (R168). The positions marked "-" raise reserved instruction (R175); 1, 10
and 11, where the conditional moves may live, are outside the spec (R176 (a); log 36). -/
def decodeSpecial (w : BitVec 32) : Except Rejection Instr :=
  let funct := functField w
  if funct = 0x0F#6 then okWhen (rsField w = 0#5 ∧ rtField w = 0#5 ∧ rdField w = 0#5 ∧ saField w = 0#5) .sync
  else if funct = 0x20#6 then okWhen (saField w = 0#5) (.add (rsField w) (rtField w) (rdField w))
  else if funct = 0x2C#6 then okWhen (saField w = 0#5) (.dadd (rsField w) (rtField w) (rdField w))
  else if funct = 0x21#6 then okWhen (saField w = 0#5) (.addu (rsField w) (rtField w) (rdField w))
  else if funct = 0x2D#6 then okWhen (saField w = 0#5) (.daddu (rsField w) (rtField w) (rdField w))
  else if funct = 0x22#6 then okWhen (saField w = 0#5) (.sub (rsField w) (rtField w) (rdField w))
  else if funct = 0x2E#6 then okWhen (saField w = 0#5) (.dsub (rsField w) (rtField w) (rdField w))
  else if funct = 0x23#6 then okWhen (saField w = 0#5) (.subu (rsField w) (rtField w) (rdField w))
  else if funct = 0x2F#6 then okWhen (saField w = 0#5) (.dsubu (rsField w) (rtField w) (rdField w))
  else if funct = 0x2A#6 then okWhen (saField w = 0#5) (.slt (rsField w) (rtField w) (rdField w))
  else if funct = 0x2B#6 then okWhen (saField w = 0#5) (.sltu (rsField w) (rtField w) (rdField w))
  else if funct = 0x24#6 then okWhen (saField w = 0#5) (.and (rsField w) (rtField w) (rdField w))
  else if funct = 0x25#6 then okWhen (saField w = 0#5) (.or (rsField w) (rtField w) (rdField w))
  else if funct = 0x26#6 then okWhen (saField w = 0#5) (.xor (rsField w) (rtField w) (rdField w))
  else if funct = 0x27#6 then okWhen (saField w = 0#5) (.nor (rsField w) (rtField w) (rdField w))
  else if funct = 0x18#6 then okWhen (rdField w = 0#5 ∧ saField w = 0#5) (.mult (rsField w) (rtField w))
  else if funct = 0x19#6 then okWhen (rdField w = 0#5 ∧ saField w = 0#5) (.multu (rsField w) (rtField w))
  else if funct = 0x1C#6 then okWhen (rdField w = 0#5 ∧ saField w = 0#5) (.dmult (rsField w) (rtField w))
  else if funct = 0x1D#6 then okWhen (rdField w = 0#5 ∧ saField w = 0#5) (.dmultu (rsField w) (rtField w))
  else if funct = 0x1A#6 then okWhen (rdField w = 0#5 ∧ saField w = 0#5) (.div (rsField w) (rtField w))
  else if funct = 0x1B#6 then okWhen (rdField w = 0#5 ∧ saField w = 0#5) (.divu (rsField w) (rtField w))
  else if funct = 0x1E#6 then okWhen (rdField w = 0#5 ∧ saField w = 0#5) (.ddiv (rsField w) (rtField w))
  else if funct = 0x1F#6 then okWhen (rdField w = 0#5 ∧ saField w = 0#5) (.ddivu (rsField w) (rtField w))
  else if funct = 0x10#6 then okWhen (rsField w = 0#5 ∧ rtField w = 0#5 ∧ saField w = 0#5) (.mfhi (rdField w))
  else if funct = 0x11#6 then okWhen (rtField w = 0#5 ∧ rdField w = 0#5 ∧ saField w = 0#5) (.mthi (rsField w))
  else if funct = 0x12#6 then okWhen (rsField w = 0#5 ∧ rtField w = 0#5 ∧ saField w = 0#5) (.mflo (rdField w))
  else if funct = 0x13#6 then okWhen (rtField w = 0#5 ∧ rdField w = 0#5 ∧ saField w = 0#5) (.mtlo (rsField w))
  else if funct = 0x08#6 then okWhen (rtField w = 0#5 ∧ rdField w = 0#5 ∧ saField w = 0#5) (.jr (rsField w))
  else if funct = 0x09#6 then okWhen (rtField w = 0#5 ∧ saField w = 0#5) (.jalr (rsField w) (rdField w))
  else if funct = 0x00#6 then okWhen (rsField w = 0#5) (.sll (rtField w) (rdField w) (saField w))
  else if funct = 0x02#6 then okWhen (rsField w = 0#5) (.srl (rtField w) (rdField w) (saField w))
  else if funct = 0x03#6 then okWhen (rsField w = 0#5) (.sra (rtField w) (rdField w) (saField w))
  else if funct = 0x38#6 then okWhen (rsField w = 0#5) (.dsll (rtField w) (rdField w) (saField w))
  else if funct = 0x3A#6 then okWhen (rsField w = 0#5) (.dsrl (rtField w) (rdField w) (saField w))
  else if funct = 0x3B#6 then okWhen (rsField w = 0#5) (.dsra (rtField w) (rdField w) (saField w))
  else if funct = 0x3C#6 then okWhen (rsField w = 0#5) (.dsll32 (rtField w) (rdField w) (saField w))
  else if funct = 0x3E#6 then okWhen (rsField w = 0#5) (.dsrl32 (rtField w) (rdField w) (saField w))
  else if funct = 0x3F#6 then okWhen (rsField w = 0#5) (.dsra32 (rtField w) (rdField w) (saField w))
  else if funct = 0x04#6 then okWhen (saField w = 0#5) (.sllv (rsField w) (rtField w) (rdField w))
  else if funct = 0x06#6 then okWhen (saField w = 0#5) (.srlv (rsField w) (rtField w) (rdField w))
  else if funct = 0x07#6 then okWhen (saField w = 0#5) (.srav (rsField w) (rtField w) (rdField w))
  else if funct = 0x14#6 then okWhen (saField w = 0#5) (.dsllv (rsField w) (rtField w) (rdField w))
  else if funct = 0x16#6 then okWhen (saField w = 0#5) (.dsrlv (rsField w) (rtField w) (rdField w))
  else if funct = 0x17#6 then okWhen (saField w = 0#5) (.dsrav (rsField w) (rtField w) (rdField w))
  else if funct = 0x0C#6 then .ok (.syscall (codeField w))
  else if funct = 0x0D#6 then .ok (.brk (codeField w))
  else if funct = 0x30#6 then .ok (.tge (rsField w) (rtField w) (trapCodeField w))
  else if funct = 0x31#6 then .ok (.tgeu (rsField w) (rtField w) (trapCodeField w))
  else if funct = 0x32#6 then .ok (.tlt (rsField w) (rtField w) (trapCodeField w))
  else if funct = 0x33#6 then .ok (.tltu (rsField w) (rtField w) (trapCodeField w))
  else if funct = 0x34#6 then .ok (.teq (rsField w) (rtField w) (trapCodeField w))
  else if funct = 0x36#6 then .ok (.tne (rsField w) (rtField w) (trapCodeField w))
  else if funct = 0x01#6 ∨ funct = 0x0A#6 ∨ funct = 0x0B#6 then .error .outsideSpec
  else .error .reservedInstruction

/-- REGIMM, selected by RT (R169); every other selector is reserved (R175). -/
def decodeRegimm (w : BitVec 32) : Except Rejection Instr :=
  let sel := rtField w
  if sel = 0x00#5 then .ok (.bltz (rsField w) (immField w))
  else if sel = 0x01#5 then .ok (.bgez (rsField w) (immField w))
  else if sel = 0x10#5 then .ok (.bltzal (rsField w) (immField w))
  else if sel = 0x11#5 then .ok (.bgezal (rsField w) (immField w))
  else if sel = 0x02#5 then .ok (.bltzl (rsField w) (immField w))
  else if sel = 0x03#5 then .ok (.bgezl (rsField w) (immField w))
  else if sel = 0x12#5 then .ok (.bltzall (rsField w) (immField w))
  else if sel = 0x13#5 then .ok (.bgezall (rsField w) (immField w))
  else if sel = 0x08#5 then .ok (.tgei (rsField w) (immField w))
  else if sel = 0x09#5 then .ok (.tgeiu (rsField w) (immField w))
  else if sel = 0x0A#5 then .ok (.tlti (rsField w) (immField w))
  else if sel = 0x0B#5 then .ok (.tltiu (rsField w) (immField w))
  else if sel = 0x0C#5 then .ok (.teqi (rsField w) (immField w))
  else if sel = 0x0E#5 then .ok (.tnei (rsField w) (immField w))
  else .error .reservedInstruction

/-- COP0 (R170): the moves by the RS field; the CO group, bit 25 set and bits 24:6 zero, by FUNCT. -/
def decodeCop0 (w : BitVec 32) : Except Rejection Instr :=
  let rs := rsField w
  if rs = 0x00#5 then okWhen (saField w = 0#5 ∧ functField w = 0#6) (.mfc0 (rtField w) (rdField w))
  else if rs = 0x04#5 then okWhen (saField w = 0#5 ∧ functField w = 0#6) (.mtc0 (rtField w) (rdField w))
  else if rs = 0x01#5 then okWhen (saField w = 0#5 ∧ functField w = 0#6) (.dmfc0 (rtField w) (rdField w))
  else if rs = 0x05#5 then okWhen (saField w = 0#5 ∧ functField w = 0#6) (.dmtc0 (rtField w) (rdField w))
  else if rs = 0x10#5 ∧ functField w = 0x08#6 then okWhen (rtField w = 0#5 ∧ rdField w = 0#5 ∧ saField w = 0#5) .tlbp
  else if rs = 0x10#5 ∧ functField w = 0x01#6 then okWhen (rtField w = 0#5 ∧ rdField w = 0#5 ∧ saField w = 0#5) .tlbr
  else if rs = 0x10#5 ∧ functField w = 0x02#6 then okWhen (rtField w = 0#5 ∧ rdField w = 0#5 ∧ saField w = 0#5) .tlbwi
  else if rs = 0x10#5 ∧ functField w = 0x06#6 then okWhen (rtField w = 0#5 ∧ rdField w = 0#5 ∧ saField w = 0#5) .tlbwr
  else if rs = 0x10#5 ∧ functField w = 0x18#6 then okWhen (rtField w = 0#5 ∧ rdField w = 0#5 ∧ saField w = 0#5) .eret
  else .error .outsideSpec

/-- CACHE, selected by the operation field in bits 20:16 (R171). -/
def decodeCache (w : BitVec 32) : Except Rejection Instr :=
  let cop := rtField w
  if cop = 0x00#5 then .ok (.cacheIndexInvalidateI (rsField w) (immField w))
  else if cop = 0x01#5 then .ok (.cacheIndexWritebackInvalidateD (rsField w) (immField w))
  else if cop = 0x03#5 then .ok (.cacheIndexWritebackInvalidateS (rsField w) (immField w))
  else if cop = 0x05#5 then .ok (.cacheIndexLoadTagD (rsField w) (immField w))
  else if cop = 0x07#5 then .ok (.cacheIndexLoadTagS (rsField w) (immField w))
  else if cop = 0x09#5 then .ok (.cacheIndexStoreTagD (rsField w) (immField w))
  else if cop = 0x0B#5 then .ok (.cacheIndexStoreTagS (rsField w) (immField w))
  else if cop = 0x11#5 then .ok (.cacheHitInvalidateD (rsField w) (immField w))
  else if cop = 0x13#5 then .ok (.cacheHitInvalidateS (rsField w) (immField w))
  else if cop = 0x15#5 then .ok (.cacheHitWritebackInvalidateD (rsField w) (immField w))
  else if cop = 0x17#5 then .ok (.cacheHitWritebackInvalidateS (rsField w) (immField w))
  else if cop = 0x19#5 then .ok (.cacheIndexLoadDataD (rsField w) (immField w))
  else if cop = 0x1B#5 then .ok (.cacheIndexLoadDataS (rsField w) (immField w))
  else if cop = 0x1D#5 then .ok (.cacheIndexStoreDataD (rsField w) (immField w))
  else if cop = 0x1F#5 then .ok (.cacheIndexStoreDataS (rsField w) (immField w))
  else .error .outsideSpec

/-- COP1 with FMT = 16, single, selected by FUNCT (R172, R173). -/
def decodeFpS (w : BitVec 32) : Except Rejection Instr :=
  let funct := functField w
  if funct = 0x00#6 then .ok (.addS (rtField w) (rdField w) (saField w))
  else if funct = 0x01#6 then .ok (.subS (rtField w) (rdField w) (saField w))
  else if funct = 0x02#6 then .ok (.mulS (rtField w) (rdField w) (saField w))
  else if funct = 0x03#6 then .ok (.divS (rtField w) (rdField w) (saField w))
  else if funct = 0x04#6 then okWhen (rtField w = 0#5) (.sqrtS (rdField w) (saField w))
  else if funct = 0x05#6 then okWhen (rtField w = 0#5) (.absS (rdField w) (saField w))
  else if funct = 0x06#6 then okWhen (rtField w = 0#5) (.movS (rdField w) (saField w))
  else if funct = 0x07#6 then okWhen (rtField w = 0#5) (.negS (rdField w) (saField w))
  else if funct = 0x08#6 then okWhen (rtField w = 0#5) (.roundLS (rdField w) (saField w))
  else if funct = 0x09#6 then okWhen (rtField w = 0#5) (.truncLS (rdField w) (saField w))
  else if funct = 0x0A#6 then okWhen (rtField w = 0#5) (.ceilLS (rdField w) (saField w))
  else if funct = 0x0B#6 then okWhen (rtField w = 0#5) (.floorLS (rdField w) (saField w))
  else if funct = 0x0C#6 then okWhen (rtField w = 0#5) (.roundWS (rdField w) (saField w))
  else if funct = 0x0D#6 then okWhen (rtField w = 0#5) (.truncWS (rdField w) (saField w))
  else if funct = 0x0E#6 then okWhen (rtField w = 0#5) (.ceilWS (rdField w) (saField w))
  else if funct = 0x0F#6 then okWhen (rtField w = 0#5) (.floorWS (rdField w) (saField w))
  else if funct = 0x21#6 then okWhen (rtField w = 0#5) (.cvtDS (rdField w) (saField w))
  else if funct = 0x24#6 then okWhen (rtField w = 0#5) (.cvtWS (rdField w) (saField w))
  else if funct = 0x25#6 then okWhen (rtField w = 0#5) (.cvtLS (rdField w) (saField w))
  else if funct = 0x30#6 then okWhen (saField w = 0#5) (.cFS (rtField w) (rdField w))
  else if funct = 0x31#6 then okWhen (saField w = 0#5) (.cUnS (rtField w) (rdField w))
  else if funct = 0x32#6 then okWhen (saField w = 0#5) (.cEqS (rtField w) (rdField w))
  else if funct = 0x33#6 then okWhen (saField w = 0#5) (.cUeqS (rtField w) (rdField w))
  else if funct = 0x34#6 then okWhen (saField w = 0#5) (.cOltS (rtField w) (rdField w))
  else if funct = 0x35#6 then okWhen (saField w = 0#5) (.cUltS (rtField w) (rdField w))
  else if funct = 0x36#6 then okWhen (saField w = 0#5) (.cOleS (rtField w) (rdField w))
  else if funct = 0x37#6 then okWhen (saField w = 0#5) (.cUleS (rtField w) (rdField w))
  else if funct = 0x38#6 then okWhen (saField w = 0#5) (.cSfS (rtField w) (rdField w))
  else if funct = 0x39#6 then okWhen (saField w = 0#5) (.cNgleS (rtField w) (rdField w))
  else if funct = 0x3A#6 then okWhen (saField w = 0#5) (.cSeqS (rtField w) (rdField w))
  else if funct = 0x3B#6 then okWhen (saField w = 0#5) (.cNglS (rtField w) (rdField w))
  else if funct = 0x3C#6 then okWhen (saField w = 0#5) (.cLtS (rtField w) (rdField w))
  else if funct = 0x3D#6 then okWhen (saField w = 0#5) (.cNgeS (rtField w) (rdField w))
  else if funct = 0x3E#6 then okWhen (saField w = 0#5) (.cLeS (rtField w) (rdField w))
  else if funct = 0x3F#6 then okWhen (saField w = 0#5) (.cNgtS (rtField w) (rdField w))
  else .error .outsideSpec

/-- COP1 with FMT = 17, double, selected by FUNCT (R172, R173). -/
def decodeFpD (w : BitVec 32) : Except Rejection Instr :=
  let funct := functField w
  if funct = 0x00#6 then .ok (.addD (rtField w) (rdField w) (saField w))
  else if funct = 0x01#6 then .ok (.subD (rtField w) (rdField w) (saField w))
  else if funct = 0x02#6 then .ok (.mulD (rtField w) (rdField w) (saField w))
  else if funct = 0x03#6 then .ok (.divD (rtField w) (rdField w) (saField w))
  else if funct = 0x04#6 then okWhen (rtField w = 0#5) (.sqrtD (rdField w) (saField w))
  else if funct = 0x05#6 then okWhen (rtField w = 0#5) (.absD (rdField w) (saField w))
  else if funct = 0x06#6 then okWhen (rtField w = 0#5) (.movD (rdField w) (saField w))
  else if funct = 0x07#6 then okWhen (rtField w = 0#5) (.negD (rdField w) (saField w))
  else if funct = 0x08#6 then okWhen (rtField w = 0#5) (.roundLD (rdField w) (saField w))
  else if funct = 0x09#6 then okWhen (rtField w = 0#5) (.truncLD (rdField w) (saField w))
  else if funct = 0x0A#6 then okWhen (rtField w = 0#5) (.ceilLD (rdField w) (saField w))
  else if funct = 0x0B#6 then okWhen (rtField w = 0#5) (.floorLD (rdField w) (saField w))
  else if funct = 0x0C#6 then okWhen (rtField w = 0#5) (.roundWD (rdField w) (saField w))
  else if funct = 0x0D#6 then okWhen (rtField w = 0#5) (.truncWD (rdField w) (saField w))
  else if funct = 0x0E#6 then okWhen (rtField w = 0#5) (.ceilWD (rdField w) (saField w))
  else if funct = 0x0F#6 then okWhen (rtField w = 0#5) (.floorWD (rdField w) (saField w))
  else if funct = 0x20#6 then okWhen (rtField w = 0#5) (.cvtSD (rdField w) (saField w))
  else if funct = 0x24#6 then okWhen (rtField w = 0#5) (.cvtWD (rdField w) (saField w))
  else if funct = 0x25#6 then okWhen (rtField w = 0#5) (.cvtLD (rdField w) (saField w))
  else if funct = 0x30#6 then okWhen (saField w = 0#5) (.cFD (rtField w) (rdField w))
  else if funct = 0x31#6 then okWhen (saField w = 0#5) (.cUnD (rtField w) (rdField w))
  else if funct = 0x32#6 then okWhen (saField w = 0#5) (.cEqD (rtField w) (rdField w))
  else if funct = 0x33#6 then okWhen (saField w = 0#5) (.cUeqD (rtField w) (rdField w))
  else if funct = 0x34#6 then okWhen (saField w = 0#5) (.cOltD (rtField w) (rdField w))
  else if funct = 0x35#6 then okWhen (saField w = 0#5) (.cUltD (rtField w) (rdField w))
  else if funct = 0x36#6 then okWhen (saField w = 0#5) (.cOleD (rtField w) (rdField w))
  else if funct = 0x37#6 then okWhen (saField w = 0#5) (.cUleD (rtField w) (rdField w))
  else if funct = 0x38#6 then okWhen (saField w = 0#5) (.cSfD (rtField w) (rdField w))
  else if funct = 0x39#6 then okWhen (saField w = 0#5) (.cNgleD (rtField w) (rdField w))
  else if funct = 0x3A#6 then okWhen (saField w = 0#5) (.cSeqD (rtField w) (rdField w))
  else if funct = 0x3B#6 then okWhen (saField w = 0#5) (.cNglD (rtField w) (rdField w))
  else if funct = 0x3C#6 then okWhen (saField w = 0#5) (.cLtD (rtField w) (rdField w))
  else if funct = 0x3D#6 then okWhen (saField w = 0#5) (.cNgeD (rtField w) (rdField w))
  else if funct = 0x3E#6 then okWhen (saField w = 0#5) (.cLeD (rtField w) (rdField w))
  else if funct = 0x3F#6 then okWhen (saField w = 0#5) (.cNgtD (rtField w) (rdField w))
  else .error .outsideSpec

/-- COP1 with FMT = 20, 32-bit fixed point, selected by FUNCT (R172, R173). -/
def decodeFpW (w : BitVec 32) : Except Rejection Instr :=
  let funct := functField w
  if funct = 0x20#6 then okWhen (rtField w = 0#5) (.cvtSW (rdField w) (saField w))
  else if funct = 0x21#6 then okWhen (rtField w = 0#5) (.cvtDW (rdField w) (saField w))
  else .error .outsideSpec

/-- COP1 with FMT = 21, 64-bit fixed point, selected by FUNCT (R172, R173). -/
def decodeFpL (w : BitVec 32) : Except Rejection Instr :=
  let funct := functField w
  if funct = 0x20#6 then okWhen (rtField w = 0#5) (.cvtSL (rdField w) (saField w))
  else if funct = 0x21#6 then okWhen (rtField w = 0#5) (.cvtDL (rdField w) (saField w))
  else .error .outsideSpec

/-- COP1 with FMT = 22, paired single, selected by FUNCT (R172, R173). -/
def decodeFpPs (w : BitVec 32) : Except Rejection Instr :=
  let funct := functField w
  if funct = 0x00#6 then .ok (.addPs (rtField w) (rdField w) (saField w))
  else if funct = 0x01#6 then .ok (.subPs (rtField w) (rdField w) (saField w))
  else if funct = 0x02#6 then .ok (.mulPs (rtField w) (rdField w) (saField w))
  else if funct = 0x05#6 then okWhen (rtField w = 0#5) (.absPs (rdField w) (saField w))
  else if funct = 0x06#6 then okWhen (rtField w = 0#5) (.movPs (rdField w) (saField w))
  else if funct = 0x07#6 then okWhen (rtField w = 0#5) (.negPs (rdField w) (saField w))
  else if funct = 0x30#6 then okWhen (saField w = 0#5) (.cFPs (rtField w) (rdField w))
  else if funct = 0x31#6 then okWhen (saField w = 0#5) (.cUnPs (rtField w) (rdField w))
  else if funct = 0x32#6 then okWhen (saField w = 0#5) (.cEqPs (rtField w) (rdField w))
  else if funct = 0x33#6 then okWhen (saField w = 0#5) (.cUeqPs (rtField w) (rdField w))
  else if funct = 0x34#6 then okWhen (saField w = 0#5) (.cOltPs (rtField w) (rdField w))
  else if funct = 0x35#6 then okWhen (saField w = 0#5) (.cUltPs (rtField w) (rdField w))
  else if funct = 0x36#6 then okWhen (saField w = 0#5) (.cOlePs (rtField w) (rdField w))
  else if funct = 0x37#6 then okWhen (saField w = 0#5) (.cUlePs (rtField w) (rdField w))
  else if funct = 0x38#6 then okWhen (saField w = 0#5) (.cSfPs (rtField w) (rdField w))
  else if funct = 0x39#6 then okWhen (saField w = 0#5) (.cNglePs (rtField w) (rdField w))
  else if funct = 0x3A#6 then okWhen (saField w = 0#5) (.cSeqPs (rtField w) (rdField w))
  else if funct = 0x3B#6 then okWhen (saField w = 0#5) (.cNglPs (rtField w) (rdField w))
  else if funct = 0x3C#6 then okWhen (saField w = 0#5) (.cLtPs (rtField w) (rdField w))
  else if funct = 0x3D#6 then okWhen (saField w = 0#5) (.cNgePs (rtField w) (rdField w))
  else if funct = 0x3E#6 then okWhen (saField w = 0#5) (.cLePs (rtField w) (rdField w))
  else if funct = 0x3F#6 then okWhen (saField w = 0#5) (.cNgtPs (rtField w) (rdField w))
  else .error .outsideSpec

/-- BC1x: bits 20:18 must be 0, bits 17:16 select (R172, R469). -/
def decodeBc1 (w : BitVec 32) : Except Rejection Instr :=
  if rtField w = 0x00#5 then .ok (.bc1f (immField w))
  else if rtField w = 0x01#5 then .ok (.bc1t (immField w))
  else if rtField w = 0x02#5 then .ok (.bc1fl (immField w))
  else if rtField w = 0x03#5 then .ok (.bc1tl (immField w))
  else .error .outsideSpec

/-- COP1, selected by the RS field, which the manual calls FMT (R172). -/
def decodeCop1 (w : BitVec 32) : Except Rejection Instr :=
  let fmt := rsField w
  if fmt = 0x00#5 then okWhen (saField w = 0#5 ∧ functField w = 0#6) (.mfc1 (rtField w) (rdField w))
  else if fmt = 0x01#5 then okWhen (saField w = 0#5 ∧ functField w = 0#6) (.dmfc1 (rtField w) (rdField w))
  else if fmt = 0x02#5 then okWhen (saField w = 0#5 ∧ functField w = 0#6) (.cfc1 (rtField w) (rdField w))
  else if fmt = 0x04#5 then okWhen (saField w = 0#5 ∧ functField w = 0#6) (.mtc1 (rtField w) (rdField w))
  else if fmt = 0x05#5 then okWhen (saField w = 0#5 ∧ functField w = 0#6) (.dmtc1 (rtField w) (rdField w))
  else if fmt = 0x06#5 then okWhen (saField w = 0#5 ∧ functField w = 0#6) (.ctc1 (rtField w) (rdField w))
  else if fmt = 0x08#5 then decodeBc1 w
  else if fmt = 0x10#5 then decodeFpS w
  else if fmt = 0x11#5 then decodeFpD w
  else if fmt = 0x14#5 then decodeFpW w
  else if fmt = 0x15#5 then decodeFpL w
  else if fmt = 0x16#5 then decodeFpPs w
  else .error .outsideSpec

/-- The multiply-add group of SPECIAL2, by FMT and FUNCT (R174, R515). -/
def decodeMadd (w : BitVec 32) : Except Rejection Instr :=
  if rsField w = 0x10#5 ∧ functField w = 0x18#6 then .ok (.maddS (rtField w) (rdField w) (saField w))
  else if rsField w = 0x10#5 ∧ functField w = 0x19#6 then .ok (.msubS (rtField w) (rdField w) (saField w))
  else if rsField w = 0x10#5 ∧ functField w = 0x1A#6 then .ok (.nmaddS (rtField w) (rdField w) (saField w))
  else if rsField w = 0x10#5 ∧ functField w = 0x1B#6 then .ok (.nmsubS (rtField w) (rdField w) (saField w))
  else if rsField w = 0x11#5 ∧ functField w = 0x18#6 then .ok (.maddD (rtField w) (rdField w) (saField w))
  else if rsField w = 0x11#5 ∧ functField w = 0x19#6 then .ok (.msubD (rtField w) (rdField w) (saField w))
  else if rsField w = 0x11#5 ∧ functField w = 0x1A#6 then .ok (.nmaddD (rtField w) (rdField w) (saField w))
  else if rsField w = 0x11#5 ∧ functField w = 0x1B#6 then .ok (.nmsubD (rtField w) (rdField w) (saField w))
  else if rsField w = 0x16#5 ∧ functField w = 0x18#6 then .ok (.maddPs (rtField w) (rdField w) (saField w))
  else if rsField w = 0x16#5 ∧ functField w = 0x19#6 then .ok (.msubPs (rtField w) (rdField w) (saField w))
  else if rsField w = 0x16#5 ∧ functField w = 0x1A#6 then .ok (.nmaddPs (rtField w) (rdField w) (saField w))
  else if rsField w = 0x16#5 ∧ functField w = 0x1B#6 then .ok (.nmsubPs (rtField w) (rdField w) (saField w))
  else .error .outsideSpec

/-- SPECIAL2 (R174): the integer group by FUNCT, then the multiply-add group. -/
def decodeSpecial2 (w : BitVec 32) : Except Rejection Instr :=
  let funct := functField w
  if funct = 0x10#6 then okWhen (saField w = 0#5) (.multg (rsField w) (rtField w) (rdField w))
  else if funct = 0x11#6 then okWhen (saField w = 0#5) (.dmultg (rsField w) (rtField w) (rdField w))
  else if funct = 0x12#6 then okWhen (saField w = 0#5) (.multug (rsField w) (rtField w) (rdField w))
  else if funct = 0x13#6 then okWhen (saField w = 0#5) (.dmultug (rsField w) (rtField w) (rdField w))
  else if funct = 0x14#6 then okWhen (saField w = 0#5) (.divg (rsField w) (rtField w) (rdField w))
  else if funct = 0x15#6 then okWhen (saField w = 0#5) (.ddivg (rsField w) (rtField w) (rdField w))
  else if funct = 0x16#6 then okWhen (saField w = 0#5) (.divug (rsField w) (rtField w) (rdField w))
  else if funct = 0x17#6 then okWhen (saField w = 0#5) (.ddivug (rsField w) (rtField w) (rdField w))
  else if funct = 0x1C#6 then okWhen (saField w = 0#5) (.modg (rsField w) (rtField w) (rdField w))
  else if funct = 0x1D#6 then okWhen (saField w = 0#5) (.dmodg (rsField w) (rtField w) (rdField w))
  else if funct = 0x1E#6 then okWhen (saField w = 0#5) (.modug (rsField w) (rtField w) (rdField w))
  else if funct = 0x1F#6 then okWhen (saField w = 0#5) (.dmodug (rsField w) (rtField w) (rdField w))
  else decodeMadd w

/-- The instruction in a 32-bit word (R167, R179): the primary opcode map. COP2 words are outside the spec; COP1X
and the opcodes marked "-" are reserved (R175, R176). -/
def decode (w : BitVec 32) : Except Rejection Instr :=
  let op := opField w
  if op = 0x00#6 then decodeSpecial w
  else if op = 0x01#6 then decodeRegimm w
  else if op = 0x02#6 then .ok (.j (targetField w))
  else if op = 0x03#6 then .ok (.jal (targetField w))
  else if op = 0x04#6 then .ok (.beq (rsField w) (rtField w) (immField w))
  else if op = 0x05#6 then .ok (.bne (rsField w) (rtField w) (immField w))
  else if op = 0x06#6 then okWhen (rtField w = 0#5) (.blez (rsField w) (immField w))
  else if op = 0x07#6 then okWhen (rtField w = 0#5) (.bgtz (rsField w) (immField w))
  else if op = 0x08#6 then .ok (.addi (rsField w) (rtField w) (immField w))
  else if op = 0x09#6 then .ok (.addiu (rsField w) (rtField w) (immField w))
  else if op = 0x0A#6 then .ok (.slti (rsField w) (rtField w) (immField w))
  else if op = 0x0B#6 then .ok (.sltiu (rsField w) (rtField w) (immField w))
  else if op = 0x0C#6 then .ok (.andi (rsField w) (rtField w) (immField w))
  else if op = 0x0D#6 then .ok (.ori (rsField w) (rtField w) (immField w))
  else if op = 0x0E#6 then .ok (.xori (rsField w) (rtField w) (immField w))
  else if op = 0x0F#6 then okWhen (rsField w = 0#5) (.lui (rtField w) (immField w))
  else if op = 0x10#6 then decodeCop0 w
  else if op = 0x11#6 then decodeCop1 w
  else if op = 0x12#6 then .error .outsideSpec
  else if op = 0x14#6 then .ok (.beql (rsField w) (rtField w) (immField w))
  else if op = 0x15#6 then .ok (.bnel (rsField w) (rtField w) (immField w))
  else if op = 0x16#6 then okWhen (rtField w = 0#5) (.blezl (rsField w) (immField w))
  else if op = 0x17#6 then okWhen (rtField w = 0#5) (.bgtzl (rsField w) (immField w))
  else if op = 0x18#6 then .ok (.daddi (rsField w) (rtField w) (immField w))
  else if op = 0x19#6 then .ok (.daddiu (rsField w) (rtField w) (immField w))
  else if op = 0x1A#6 then .ok (.ldl (rsField w) (rtField w) (immField w))
  else if op = 0x1B#6 then .ok (.ldr (rsField w) (rtField w) (immField w))
  else if op = 0x1C#6 then decodeSpecial2 w
  else if op = 0x20#6 then .ok (.lb (rsField w) (rtField w) (immField w))
  else if op = 0x21#6 then .ok (.lh (rsField w) (rtField w) (immField w))
  else if op = 0x22#6 then .ok (.lwl (rsField w) (rtField w) (immField w))
  else if op = 0x23#6 then .ok (.lw (rsField w) (rtField w) (immField w))
  else if op = 0x24#6 then .ok (.lbu (rsField w) (rtField w) (immField w))
  else if op = 0x25#6 then .ok (.lhu (rsField w) (rtField w) (immField w))
  else if op = 0x26#6 then .ok (.lwr (rsField w) (rtField w) (immField w))
  else if op = 0x27#6 then .ok (.lwu (rsField w) (rtField w) (immField w))
  else if op = 0x28#6 then .ok (.sb (rsField w) (rtField w) (immField w))
  else if op = 0x29#6 then .ok (.sh (rsField w) (rtField w) (immField w))
  else if op = 0x2A#6 then .ok (.swl (rsField w) (rtField w) (immField w))
  else if op = 0x2B#6 then .ok (.sw (rsField w) (rtField w) (immField w))
  else if op = 0x2C#6 then .ok (.sdl (rsField w) (rtField w) (immField w))
  else if op = 0x2D#6 then .ok (.sdr (rsField w) (rtField w) (immField w))
  else if op = 0x2E#6 then .ok (.swr (rsField w) (rtField w) (immField w))
  else if op = 0x2F#6 then decodeCache w
  else if op = 0x30#6 then .ok (.ll (rsField w) (rtField w) (immField w))
  else if op = 0x31#6 then .ok (.lwc1 (rsField w) (rtField w) (immField w))
  else if op = 0x34#6 then .ok (.lld (rsField w) (rtField w) (immField w))
  else if op = 0x35#6 then .ok (.ldc1 (rsField w) (rtField w) (immField w))
  else if op = 0x37#6 then .ok (.ld (rsField w) (rtField w) (immField w))
  else if op = 0x38#6 then .ok (.sc (rsField w) (rtField w) (immField w))
  else if op = 0x39#6 then .ok (.swc1 (rsField w) (rtField w) (immField w))
  else if op = 0x3C#6 then .ok (.scd (rsField w) (rtField w) (immField w))
  else if op = 0x3D#6 then .ok (.sdc1 (rsField w) (rtField w) (immField w))
  else if op = 0x3F#6 then .ok (.sd (rsField w) (rtField w) (immField w))
  else .error .reservedInstruction

/-- The 32-bit word of four bytes, the byte at the lowest address in bits 7:0 (R160). -/
def wordOfBytes (b0 b1 b2 b3 : Byte) : BitVec 32 := b3 ++ b2 ++ b1 ++ b0

/-- The instruction at the front of a list of bytes, with the bytes that follow it. -/
def decodeBytes : List Byte → Except Rejection (Instr × List Byte)
  | b0 :: b1 :: b2 :: b3 :: rest =>
    match decode (wordOfBytes b0 b1 b2 b3) with
    | .ok i => .ok (i, rest)
    | .error r => .error r
  | _ => .error .truncated

/-- The four bytes of a word as memory holds them, lowest address first (R160). -/
def bytesOfWord (w : BitVec 32) : List Byte :=
  [w.extractLsb' 0 8, w.extractLsb' 8 8, w.extractLsb' 16 8, w.extractLsb' 24 8]

/-- The instruction the decoder reads from the table word `w` of `nbits` bits: the word is laid out as memory holds
it and given to the byte decoder. Every instruction is one 32-bit word, so bits above `nbits` are 0. -/
def decodeTableWord (nbits w : Nat) : Option Instr :=
  match decodeBytes (bytesOfWord (BitVec.ofNat 32 (w % 2 ^ nbits))) with
  | .ok (i, []) => some i
  | _ => none

/-! The formats of R161 as words: the fields from the most significant down. -/

/-- R-type: OP, RS, RT, RD, SA, FUNCT. -/
def rWord (op : BitVec 6) (rs rt rd sa : RegNum) (funct : BitVec 6) : BitVec 32 := op ++ rs ++ rt ++ rd ++ sa ++ funct
/-- I-type: OP, RS, RT, immediate. -/
def iWord (op : BitVec 6) (rs rt : RegNum) (imm : BitVec 16) : BitVec 32 := op ++ rs ++ rt ++ imm
/-- J-type: OP, target. -/
def jWord (op : BitVec 6) (target : BitVec 26) : BitVec 32 := op ++ target
/-- SYSCALL and BREAK: OP, a 20-bit code, FUNCT. -/
def codeWord (op : BitVec 6) (code : BitVec 20) (funct : BitVec 6) : BitVec 32 := op ++ code ++ funct
/-- The register traps: OP, RS, RT, a 10-bit code, FUNCT. -/
def trapWord (op : BitVec 6) (rs rt : RegNum) (code : BitVec 10) (funct : BitVec 6) : BitVec 32 :=
  op ++ rs ++ rt ++ code ++ funct

/-- The word of an instruction, field by field from the encodings of R165 to R174. -/
def encode : Instr → BitVec 32
  | .lb base rt offset => iWord 0x20#6 base rt offset
  | .lbu base rt offset => iWord 0x24#6 base rt offset
  | .lh base rt offset => iWord 0x21#6 base rt offset
  | .lhu base rt offset => iWord 0x25#6 base rt offset
  | .lw base rt offset => iWord 0x23#6 base rt offset
  | .lwu base rt offset => iWord 0x27#6 base rt offset
  | .ld base rt offset => iWord 0x37#6 base rt offset
  | .lwl base rt offset => iWord 0x22#6 base rt offset
  | .lwr base rt offset => iWord 0x26#6 base rt offset
  | .ldl base rt offset => iWord 0x1A#6 base rt offset
  | .ldr base rt offset => iWord 0x1B#6 base rt offset
  | .ll base rt offset => iWord 0x30#6 base rt offset
  | .lld base rt offset => iWord 0x34#6 base rt offset
  | .sb base rt offset => iWord 0x28#6 base rt offset
  | .sh base rt offset => iWord 0x29#6 base rt offset
  | .sw base rt offset => iWord 0x2B#6 base rt offset
  | .sd base rt offset => iWord 0x3F#6 base rt offset
  | .swl base rt offset => iWord 0x2A#6 base rt offset
  | .swr base rt offset => iWord 0x2E#6 base rt offset
  | .sdl base rt offset => iWord 0x2C#6 base rt offset
  | .sdr base rt offset => iWord 0x2D#6 base rt offset
  | .sc base rt offset => iWord 0x38#6 base rt offset
  | .scd base rt offset => iWord 0x3C#6 base rt offset
  | .lwc1 base ft offset => iWord 0x31#6 base ft offset
  | .ldc1 base ft offset => iWord 0x35#6 base ft offset
  | .swc1 base ft offset => iWord 0x39#6 base ft offset
  | .sdc1 base ft offset => iWord 0x3D#6 base ft offset
  | .sync => rWord 0x00#6 0x00#5 0x00#5 0x00#5 0x00#5 0x0F#6
  | .addi rs rt imm => iWord 0x08#6 rs rt imm
  | .daddi rs rt imm => iWord 0x18#6 rs rt imm
  | .addiu rs rt imm => iWord 0x09#6 rs rt imm
  | .daddiu rs rt imm => iWord 0x19#6 rs rt imm
  | .slti rs rt imm => iWord 0x0A#6 rs rt imm
  | .sltiu rs rt imm => iWord 0x0B#6 rs rt imm
  | .andi rs rt imm => iWord 0x0C#6 rs rt imm
  | .ori rs rt imm => iWord 0x0D#6 rs rt imm
  | .xori rs rt imm => iWord 0x0E#6 rs rt imm
  | .lui rt imm => iWord 0x0F#6 0x00#5 rt imm
  | .add rs rt rd => rWord 0x00#6 rs rt rd 0x00#5 0x20#6
  | .dadd rs rt rd => rWord 0x00#6 rs rt rd 0x00#5 0x2C#6
  | .addu rs rt rd => rWord 0x00#6 rs rt rd 0x00#5 0x21#6
  | .daddu rs rt rd => rWord 0x00#6 rs rt rd 0x00#5 0x2D#6
  | .sub rs rt rd => rWord 0x00#6 rs rt rd 0x00#5 0x22#6
  | .dsub rs rt rd => rWord 0x00#6 rs rt rd 0x00#5 0x2E#6
  | .subu rs rt rd => rWord 0x00#6 rs rt rd 0x00#5 0x23#6
  | .dsubu rs rt rd => rWord 0x00#6 rs rt rd 0x00#5 0x2F#6
  | .slt rs rt rd => rWord 0x00#6 rs rt rd 0x00#5 0x2A#6
  | .sltu rs rt rd => rWord 0x00#6 rs rt rd 0x00#5 0x2B#6
  | .and rs rt rd => rWord 0x00#6 rs rt rd 0x00#5 0x24#6
  | .or rs rt rd => rWord 0x00#6 rs rt rd 0x00#5 0x25#6
  | .xor rs rt rd => rWord 0x00#6 rs rt rd 0x00#5 0x26#6
  | .nor rs rt rd => rWord 0x00#6 rs rt rd 0x00#5 0x27#6
  | .mult rs rt => rWord 0x00#6 rs rt 0x00#5 0x00#5 0x18#6
  | .multu rs rt => rWord 0x00#6 rs rt 0x00#5 0x00#5 0x19#6
  | .dmult rs rt => rWord 0x00#6 rs rt 0x00#5 0x00#5 0x1C#6
  | .dmultu rs rt => rWord 0x00#6 rs rt 0x00#5 0x00#5 0x1D#6
  | .div rs rt => rWord 0x00#6 rs rt 0x00#5 0x00#5 0x1A#6
  | .divu rs rt => rWord 0x00#6 rs rt 0x00#5 0x00#5 0x1B#6
  | .ddiv rs rt => rWord 0x00#6 rs rt 0x00#5 0x00#5 0x1E#6
  | .ddivu rs rt => rWord 0x00#6 rs rt 0x00#5 0x00#5 0x1F#6
  | .mfhi rd => rWord 0x00#6 0x00#5 0x00#5 rd 0x00#5 0x10#6
  | .mthi rs => rWord 0x00#6 rs 0x00#5 0x00#5 0x00#5 0x11#6
  | .mflo rd => rWord 0x00#6 0x00#5 0x00#5 rd 0x00#5 0x12#6
  | .mtlo rs => rWord 0x00#6 rs 0x00#5 0x00#5 0x00#5 0x13#6
  | .multg rs rt rd => rWord 0x1C#6 rs rt rd 0x00#5 0x10#6
  | .dmultg rs rt rd => rWord 0x1C#6 rs rt rd 0x00#5 0x11#6
  | .multug rs rt rd => rWord 0x1C#6 rs rt rd 0x00#5 0x12#6
  | .dmultug rs rt rd => rWord 0x1C#6 rs rt rd 0x00#5 0x13#6
  | .divg rs rt rd => rWord 0x1C#6 rs rt rd 0x00#5 0x14#6
  | .ddivg rs rt rd => rWord 0x1C#6 rs rt rd 0x00#5 0x15#6
  | .divug rs rt rd => rWord 0x1C#6 rs rt rd 0x00#5 0x16#6
  | .ddivug rs rt rd => rWord 0x1C#6 rs rt rd 0x00#5 0x17#6
  | .modg rs rt rd => rWord 0x1C#6 rs rt rd 0x00#5 0x1C#6
  | .dmodg rs rt rd => rWord 0x1C#6 rs rt rd 0x00#5 0x1D#6
  | .modug rs rt rd => rWord 0x1C#6 rs rt rd 0x00#5 0x1E#6
  | .dmodug rs rt rd => rWord 0x1C#6 rs rt rd 0x00#5 0x1F#6
  | .j target => jWord 0x02#6 target
  | .jal target => jWord 0x03#6 target
  | .jr rs => rWord 0x00#6 rs 0x00#5 0x00#5 0x00#5 0x08#6
  | .jalr rs rd => rWord 0x00#6 rs 0x00#5 rd 0x00#5 0x09#6
  | .beq rs rt imm => iWord 0x04#6 rs rt imm
  | .bne rs rt imm => iWord 0x05#6 rs rt imm
  | .blez rs imm => iWord 0x06#6 rs 0x00#5 imm
  | .bgtz rs imm => iWord 0x07#6 rs 0x00#5 imm
  | .bltz rs imm => iWord 0x01#6 rs 0x00#5 imm
  | .bgez rs imm => iWord 0x01#6 rs 0x01#5 imm
  | .bltzal rs imm => iWord 0x01#6 rs 0x10#5 imm
  | .bgezal rs imm => iWord 0x01#6 rs 0x11#5 imm
  | .beql rs rt imm => iWord 0x14#6 rs rt imm
  | .bnel rs rt imm => iWord 0x15#6 rs rt imm
  | .blezl rs imm => iWord 0x16#6 rs 0x00#5 imm
  | .bgtzl rs imm => iWord 0x17#6 rs 0x00#5 imm
  | .bltzl rs imm => iWord 0x01#6 rs 0x02#5 imm
  | .bgezl rs imm => iWord 0x01#6 rs 0x03#5 imm
  | .bltzall rs imm => iWord 0x01#6 rs 0x12#5 imm
  | .bgezall rs imm => iWord 0x01#6 rs 0x13#5 imm
  | .sll rt rd sa => rWord 0x00#6 0x00#5 rt rd sa 0x00#6
  | .srl rt rd sa => rWord 0x00#6 0x00#5 rt rd sa 0x02#6
  | .sra rt rd sa => rWord 0x00#6 0x00#5 rt rd sa 0x03#6
  | .dsll rt rd sa => rWord 0x00#6 0x00#5 rt rd sa 0x38#6
  | .dsrl rt rd sa => rWord 0x00#6 0x00#5 rt rd sa 0x3A#6
  | .dsra rt rd sa => rWord 0x00#6 0x00#5 rt rd sa 0x3B#6
  | .dsll32 rt rd sa => rWord 0x00#6 0x00#5 rt rd sa 0x3C#6
  | .dsrl32 rt rd sa => rWord 0x00#6 0x00#5 rt rd sa 0x3E#6
  | .dsra32 rt rd sa => rWord 0x00#6 0x00#5 rt rd sa 0x3F#6
  | .sllv rs rt rd => rWord 0x00#6 rs rt rd 0x00#5 0x04#6
  | .srlv rs rt rd => rWord 0x00#6 rs rt rd 0x00#5 0x06#6
  | .srav rs rt rd => rWord 0x00#6 rs rt rd 0x00#5 0x07#6
  | .dsllv rs rt rd => rWord 0x00#6 rs rt rd 0x00#5 0x14#6
  | .dsrlv rs rt rd => rWord 0x00#6 rs rt rd 0x00#5 0x16#6
  | .dsrav rs rt rd => rWord 0x00#6 rs rt rd 0x00#5 0x17#6
  | .syscall code => codeWord 0x00#6 code 0x0C#6
  | .brk code => codeWord 0x00#6 code 0x0D#6
  | .tge rs rt code => trapWord 0x00#6 rs rt code 0x30#6
  | .tgeu rs rt code => trapWord 0x00#6 rs rt code 0x31#6
  | .tlt rs rt code => trapWord 0x00#6 rs rt code 0x32#6
  | .tltu rs rt code => trapWord 0x00#6 rs rt code 0x33#6
  | .teq rs rt code => trapWord 0x00#6 rs rt code 0x34#6
  | .tne rs rt code => trapWord 0x00#6 rs rt code 0x36#6
  | .tgei rs imm => iWord 0x01#6 rs 0x08#5 imm
  | .tgeiu rs imm => iWord 0x01#6 rs 0x09#5 imm
  | .tlti rs imm => iWord 0x01#6 rs 0x0A#5 imm
  | .tltiu rs imm => iWord 0x01#6 rs 0x0B#5 imm
  | .teqi rs imm => iWord 0x01#6 rs 0x0C#5 imm
  | .tnei rs imm => iWord 0x01#6 rs 0x0E#5 imm
  | .mfc0 rt rd => rWord 0x10#6 0x00#5 rt rd 0x00#5 0x00#6
  | .mtc0 rt rd => rWord 0x10#6 0x04#5 rt rd 0x00#5 0x00#6
  | .dmfc0 rt rd => rWord 0x10#6 0x01#5 rt rd 0x00#5 0x00#6
  | .dmtc0 rt rd => rWord 0x10#6 0x05#5 rt rd 0x00#5 0x00#6
  | .tlbp => rWord 0x10#6 0x10#5 0x00#5 0x00#5 0x00#5 0x08#6
  | .tlbr => rWord 0x10#6 0x10#5 0x00#5 0x00#5 0x00#5 0x01#6
  | .tlbwi => rWord 0x10#6 0x10#5 0x00#5 0x00#5 0x00#5 0x02#6
  | .tlbwr => rWord 0x10#6 0x10#5 0x00#5 0x00#5 0x00#5 0x06#6
  | .eret => rWord 0x10#6 0x10#5 0x00#5 0x00#5 0x00#5 0x18#6
  | .cacheIndexInvalidateI base offset => iWord 0x2F#6 base 0x00#5 offset
  | .cacheIndexWritebackInvalidateD base offset => iWord 0x2F#6 base 0x01#5 offset
  | .cacheIndexWritebackInvalidateS base offset => iWord 0x2F#6 base 0x03#5 offset
  | .cacheIndexLoadTagD base offset => iWord 0x2F#6 base 0x05#5 offset
  | .cacheIndexLoadTagS base offset => iWord 0x2F#6 base 0x07#5 offset
  | .cacheIndexStoreTagD base offset => iWord 0x2F#6 base 0x09#5 offset
  | .cacheIndexStoreTagS base offset => iWord 0x2F#6 base 0x0B#5 offset
  | .cacheHitInvalidateD base offset => iWord 0x2F#6 base 0x11#5 offset
  | .cacheHitInvalidateS base offset => iWord 0x2F#6 base 0x13#5 offset
  | .cacheHitWritebackInvalidateD base offset => iWord 0x2F#6 base 0x15#5 offset
  | .cacheHitWritebackInvalidateS base offset => iWord 0x2F#6 base 0x17#5 offset
  | .cacheIndexLoadDataD base offset => iWord 0x2F#6 base 0x19#5 offset
  | .cacheIndexLoadDataS base offset => iWord 0x2F#6 base 0x1B#5 offset
  | .cacheIndexStoreDataD base offset => iWord 0x2F#6 base 0x1D#5 offset
  | .cacheIndexStoreDataS base offset => iWord 0x2F#6 base 0x1F#5 offset
  | .addS ft fs fd => rWord 0x11#6 0x10#5 ft fs fd 0x00#6
  | .addD ft fs fd => rWord 0x11#6 0x11#5 ft fs fd 0x00#6
  | .subS ft fs fd => rWord 0x11#6 0x10#5 ft fs fd 0x01#6
  | .subD ft fs fd => rWord 0x11#6 0x11#5 ft fs fd 0x01#6
  | .mulS ft fs fd => rWord 0x11#6 0x10#5 ft fs fd 0x02#6
  | .mulD ft fs fd => rWord 0x11#6 0x11#5 ft fs fd 0x02#6
  | .divS ft fs fd => rWord 0x11#6 0x10#5 ft fs fd 0x03#6
  | .divD ft fs fd => rWord 0x11#6 0x11#5 ft fs fd 0x03#6
  | .sqrtS fs fd => rWord 0x11#6 0x10#5 0x00#5 fs fd 0x04#6
  | .sqrtD fs fd => rWord 0x11#6 0x11#5 0x00#5 fs fd 0x04#6
  | .absS fs fd => rWord 0x11#6 0x10#5 0x00#5 fs fd 0x05#6
  | .absD fs fd => rWord 0x11#6 0x11#5 0x00#5 fs fd 0x05#6
  | .movS fs fd => rWord 0x11#6 0x10#5 0x00#5 fs fd 0x06#6
  | .movD fs fd => rWord 0x11#6 0x11#5 0x00#5 fs fd 0x06#6
  | .negS fs fd => rWord 0x11#6 0x10#5 0x00#5 fs fd 0x07#6
  | .negD fs fd => rWord 0x11#6 0x11#5 0x00#5 fs fd 0x07#6
  | .roundLS fs fd => rWord 0x11#6 0x10#5 0x00#5 fs fd 0x08#6
  | .roundLD fs fd => rWord 0x11#6 0x11#5 0x00#5 fs fd 0x08#6
  | .truncLS fs fd => rWord 0x11#6 0x10#5 0x00#5 fs fd 0x09#6
  | .truncLD fs fd => rWord 0x11#6 0x11#5 0x00#5 fs fd 0x09#6
  | .ceilLS fs fd => rWord 0x11#6 0x10#5 0x00#5 fs fd 0x0A#6
  | .ceilLD fs fd => rWord 0x11#6 0x11#5 0x00#5 fs fd 0x0A#6
  | .floorLS fs fd => rWord 0x11#6 0x10#5 0x00#5 fs fd 0x0B#6
  | .floorLD fs fd => rWord 0x11#6 0x11#5 0x00#5 fs fd 0x0B#6
  | .roundWS fs fd => rWord 0x11#6 0x10#5 0x00#5 fs fd 0x0C#6
  | .roundWD fs fd => rWord 0x11#6 0x11#5 0x00#5 fs fd 0x0C#6
  | .truncWS fs fd => rWord 0x11#6 0x10#5 0x00#5 fs fd 0x0D#6
  | .truncWD fs fd => rWord 0x11#6 0x11#5 0x00#5 fs fd 0x0D#6
  | .ceilWS fs fd => rWord 0x11#6 0x10#5 0x00#5 fs fd 0x0E#6
  | .ceilWD fs fd => rWord 0x11#6 0x11#5 0x00#5 fs fd 0x0E#6
  | .floorWS fs fd => rWord 0x11#6 0x10#5 0x00#5 fs fd 0x0F#6
  | .floorWD fs fd => rWord 0x11#6 0x11#5 0x00#5 fs fd 0x0F#6
  | .cvtSD fs fd => rWord 0x11#6 0x11#5 0x00#5 fs fd 0x20#6
  | .cvtSW fs fd => rWord 0x11#6 0x14#5 0x00#5 fs fd 0x20#6
  | .cvtSL fs fd => rWord 0x11#6 0x15#5 0x00#5 fs fd 0x20#6
  | .cvtDS fs fd => rWord 0x11#6 0x10#5 0x00#5 fs fd 0x21#6
  | .cvtDW fs fd => rWord 0x11#6 0x14#5 0x00#5 fs fd 0x21#6
  | .cvtDL fs fd => rWord 0x11#6 0x15#5 0x00#5 fs fd 0x21#6
  | .cvtWS fs fd => rWord 0x11#6 0x10#5 0x00#5 fs fd 0x24#6
  | .cvtWD fs fd => rWord 0x11#6 0x11#5 0x00#5 fs fd 0x24#6
  | .cvtLS fs fd => rWord 0x11#6 0x10#5 0x00#5 fs fd 0x25#6
  | .cvtLD fs fd => rWord 0x11#6 0x11#5 0x00#5 fs fd 0x25#6
  | .mfc1 rt fs => rWord 0x11#6 0x00#5 rt fs 0x00#5 0x00#6
  | .dmfc1 rt fs => rWord 0x11#6 0x01#5 rt fs 0x00#5 0x00#6
  | .cfc1 rt fs => rWord 0x11#6 0x02#5 rt fs 0x00#5 0x00#6
  | .mtc1 rt fs => rWord 0x11#6 0x04#5 rt fs 0x00#5 0x00#6
  | .dmtc1 rt fs => rWord 0x11#6 0x05#5 rt fs 0x00#5 0x00#6
  | .ctc1 rt fs => rWord 0x11#6 0x06#5 rt fs 0x00#5 0x00#6
  | .cFS ft fs => rWord 0x11#6 0x10#5 ft fs 0x00#5 0x30#6
  | .cFD ft fs => rWord 0x11#6 0x11#5 ft fs 0x00#5 0x30#6
  | .cUnS ft fs => rWord 0x11#6 0x10#5 ft fs 0x00#5 0x31#6
  | .cUnD ft fs => rWord 0x11#6 0x11#5 ft fs 0x00#5 0x31#6
  | .cEqS ft fs => rWord 0x11#6 0x10#5 ft fs 0x00#5 0x32#6
  | .cEqD ft fs => rWord 0x11#6 0x11#5 ft fs 0x00#5 0x32#6
  | .cUeqS ft fs => rWord 0x11#6 0x10#5 ft fs 0x00#5 0x33#6
  | .cUeqD ft fs => rWord 0x11#6 0x11#5 ft fs 0x00#5 0x33#6
  | .cOltS ft fs => rWord 0x11#6 0x10#5 ft fs 0x00#5 0x34#6
  | .cOltD ft fs => rWord 0x11#6 0x11#5 ft fs 0x00#5 0x34#6
  | .cUltS ft fs => rWord 0x11#6 0x10#5 ft fs 0x00#5 0x35#6
  | .cUltD ft fs => rWord 0x11#6 0x11#5 ft fs 0x00#5 0x35#6
  | .cOleS ft fs => rWord 0x11#6 0x10#5 ft fs 0x00#5 0x36#6
  | .cOleD ft fs => rWord 0x11#6 0x11#5 ft fs 0x00#5 0x36#6
  | .cUleS ft fs => rWord 0x11#6 0x10#5 ft fs 0x00#5 0x37#6
  | .cUleD ft fs => rWord 0x11#6 0x11#5 ft fs 0x00#5 0x37#6
  | .cSfS ft fs => rWord 0x11#6 0x10#5 ft fs 0x00#5 0x38#6
  | .cSfD ft fs => rWord 0x11#6 0x11#5 ft fs 0x00#5 0x38#6
  | .cNgleS ft fs => rWord 0x11#6 0x10#5 ft fs 0x00#5 0x39#6
  | .cNgleD ft fs => rWord 0x11#6 0x11#5 ft fs 0x00#5 0x39#6
  | .cSeqS ft fs => rWord 0x11#6 0x10#5 ft fs 0x00#5 0x3A#6
  | .cSeqD ft fs => rWord 0x11#6 0x11#5 ft fs 0x00#5 0x3A#6
  | .cNglS ft fs => rWord 0x11#6 0x10#5 ft fs 0x00#5 0x3B#6
  | .cNglD ft fs => rWord 0x11#6 0x11#5 ft fs 0x00#5 0x3B#6
  | .cLtS ft fs => rWord 0x11#6 0x10#5 ft fs 0x00#5 0x3C#6
  | .cLtD ft fs => rWord 0x11#6 0x11#5 ft fs 0x00#5 0x3C#6
  | .cNgeS ft fs => rWord 0x11#6 0x10#5 ft fs 0x00#5 0x3D#6
  | .cNgeD ft fs => rWord 0x11#6 0x11#5 ft fs 0x00#5 0x3D#6
  | .cLeS ft fs => rWord 0x11#6 0x10#5 ft fs 0x00#5 0x3E#6
  | .cLeD ft fs => rWord 0x11#6 0x11#5 ft fs 0x00#5 0x3E#6
  | .cNgtS ft fs => rWord 0x11#6 0x10#5 ft fs 0x00#5 0x3F#6
  | .cNgtD ft fs => rWord 0x11#6 0x11#5 ft fs 0x00#5 0x3F#6
  | .bc1f imm => iWord 0x11#6 0x08#5 0x00#5 imm
  | .bc1t imm => iWord 0x11#6 0x08#5 0x01#5 imm
  | .bc1fl imm => iWord 0x11#6 0x08#5 0x02#5 imm
  | .bc1tl imm => iWord 0x11#6 0x08#5 0x03#5 imm
  | .addPs ft fs fd => rWord 0x11#6 0x16#5 ft fs fd 0x00#6
  | .subPs ft fs fd => rWord 0x11#6 0x16#5 ft fs fd 0x01#6
  | .mulPs ft fs fd => rWord 0x11#6 0x16#5 ft fs fd 0x02#6
  | .absPs fs fd => rWord 0x11#6 0x16#5 0x00#5 fs fd 0x05#6
  | .movPs fs fd => rWord 0x11#6 0x16#5 0x00#5 fs fd 0x06#6
  | .negPs fs fd => rWord 0x11#6 0x16#5 0x00#5 fs fd 0x07#6
  | .cFPs ft fs => rWord 0x11#6 0x16#5 ft fs 0x00#5 0x30#6
  | .cUnPs ft fs => rWord 0x11#6 0x16#5 ft fs 0x00#5 0x31#6
  | .cEqPs ft fs => rWord 0x11#6 0x16#5 ft fs 0x00#5 0x32#6
  | .cUeqPs ft fs => rWord 0x11#6 0x16#5 ft fs 0x00#5 0x33#6
  | .cOltPs ft fs => rWord 0x11#6 0x16#5 ft fs 0x00#5 0x34#6
  | .cUltPs ft fs => rWord 0x11#6 0x16#5 ft fs 0x00#5 0x35#6
  | .cOlePs ft fs => rWord 0x11#6 0x16#5 ft fs 0x00#5 0x36#6
  | .cUlePs ft fs => rWord 0x11#6 0x16#5 ft fs 0x00#5 0x37#6
  | .cSfPs ft fs => rWord 0x11#6 0x16#5 ft fs 0x00#5 0x38#6
  | .cNglePs ft fs => rWord 0x11#6 0x16#5 ft fs 0x00#5 0x39#6
  | .cSeqPs ft fs => rWord 0x11#6 0x16#5 ft fs 0x00#5 0x3A#6
  | .cNglPs ft fs => rWord 0x11#6 0x16#5 ft fs 0x00#5 0x3B#6
  | .cLtPs ft fs => rWord 0x11#6 0x16#5 ft fs 0x00#5 0x3C#6
  | .cNgePs ft fs => rWord 0x11#6 0x16#5 ft fs 0x00#5 0x3D#6
  | .cLePs ft fs => rWord 0x11#6 0x16#5 ft fs 0x00#5 0x3E#6
  | .cNgtPs ft fs => rWord 0x11#6 0x16#5 ft fs 0x00#5 0x3F#6
  | .maddS ft fs fd => rWord 0x1C#6 0x10#5 ft fs fd 0x18#6
  | .maddD ft fs fd => rWord 0x1C#6 0x11#5 ft fs fd 0x18#6
  | .maddPs ft fs fd => rWord 0x1C#6 0x16#5 ft fs fd 0x18#6
  | .msubS ft fs fd => rWord 0x1C#6 0x10#5 ft fs fd 0x19#6
  | .msubD ft fs fd => rWord 0x1C#6 0x11#5 ft fs fd 0x19#6
  | .msubPs ft fs fd => rWord 0x1C#6 0x16#5 ft fs fd 0x19#6
  | .nmaddS ft fs fd => rWord 0x1C#6 0x10#5 ft fs fd 0x1A#6
  | .nmaddD ft fs fd => rWord 0x1C#6 0x11#5 ft fs fd 0x1A#6
  | .nmaddPs ft fs fd => rWord 0x1C#6 0x16#5 ft fs fd 0x1A#6
  | .nmsubS ft fs fd => rWord 0x1C#6 0x10#5 ft fs fd 0x1B#6
  | .nmsubD ft fs fd => rWord 0x1C#6 0x11#5 ft fs fd 0x1B#6
  | .nmsubPs ft fs fd => rWord 0x1C#6 0x16#5 ft fs fd 0x1B#6

end Sys2Proof

end
end

