-- ==== Sys2Proof/Config.lean ====
section
/-! DEFINITION. The constants of this implementation and the free values: what the manual leaves open and the spec
calls `any value`. A free value is an opaque constant applied to the step counter `State.seq`, so that nothing can be
proved of the value itself (log entry 3). -/

namespace Sys2Proof

/-- The three cache arrays (10_state.md R60). -/
inductive CacheArray where
  | instruction | data | secondary
  deriving DecidableEq, Repr

/-- The places where a free number without a bound is drawn. Two draws of one step that name different sites are
independent. -/
inductive FreeNat where
  /-- Clock-driven increment of Count (10_state.md R38). -/
  | countIncrement
  /-- The draw of Random (10_state.md R27). -/
  | random
  /-- How many instructions a pending interrupt waits (60_exceptions.md R568). -/
  | interruptDelay
  /-- Whether a fetch sees an earlier content of a line that was stored to, and which (20_memory.md R138; log 17). -/
  | fetchSeesOld
  /-- Which translation a mapped fetch uses (20_memory.md R123). -/
  | itlbChoice
  deriving DecidableEq, Repr

/-- The places where a free 64-bit value is drawn, one for each point the spec leaves open. Two draws of one step that
name different sites are independent. -/
inductive FreeSite where
  /-- Increments of performance counter 0 and 1 (10_state.md R52). -/
  | perfIncrement (counter : Fin 2)
  /-- EntryLo0, or EntryLo1, after a TLB exception (60_exceptions.md R549). -/
  | entryLo (odd : Bool)
  /-- Cause.CE after an exception other than coprocessor unusable (60_exceptions.md R540). -/
  | causeCe
  /-- BadVAddr after NMI and soft reset (70_reset_and_hazards.md R662). -/
  | badVAddr
  /-- Index.Index after a TLBP that finds no match (47_cp0.md R380). -/
  | probeIndex
  /-- Reads of LLAddr and of reserved CP0 registers (10_state.md R45, R55). -/
  | reservedCp0
  /-- Read-back of Diagnostic.ITLB and Diagnostic.BTB (10_state.md R49). -/
  | diagnosticActions
  /-- LO and HI, or rd, after a division by zero (43_mul_div.md R301). -/
  | divQuotient | divRemainder
  /-- TagHi[31:29] after Index Load Tag (D) (47_cp0.md R391). -/
  | stateMod
  /-- Causes.V beside E, of a whole or lower and of an upper operation (48_fpu.md R414). -/
  | causeV (upper : Bool)
  /-- The upper half of a floating-point register after a 32-bit write with FR = 1 (48_fpu.md R411). -/
  | fprUpper
  /-- The way a refill takes (10_state.md R60: replacement is random). -/
  | refillWay (cache : CacheArray)
  /-- Whether a clean filled line is shared or exclusive (10_state.md R60). -/
  | refillState (cache : CacheArray)
  /-- Whether a fetch passes over an instruction-cache copy (20_memory.md R138). -/
  | fetchIgnoresHit
  /-- Whether a request that a reset has cleared, and whose line stays active, shows again (60_exceptions.md R564, R569). -/
  | resetRequest
  /-- Whether a load to register 0 fills the line (20_memory.md R141, 40_load_store.md R201; log 35). -/
  | prefetch
  /-- Status bits of Intisr for sources that are not enabled (61_platform_devices.md R641). -/
  | intisr
  deriving DecidableEq, Repr

/-- The free value of a site at a step. Nothing is known of it. -/
opaque Config.anyValue : FreeSite → Nat → BitVec 64

/-- The free natural number of a site at a step, with no bound. -/
opaque Config.anyNat : FreeNat → Nat → Nat

/-- The free byte at a physical address at a step: device reads and undefined cached reads. -/
opaque Config.anyByte : Nat → Nat → BitVec 8

/-- PRId, constant (10_state.md R46). -/
def Config.prid : BitVec 32 := 0x00006302#32

/-- FCR0, constant (10_state.md R70). -/
def Config.fcr0 : BitVec 32 := 0x00000501#32

/-- The hardwired bits 31:3 of Config with K0 clear (10_state.md R44). -/
def Config.configFixed : BitVec 32 := 0x00030930#32

end Sys2Proof
end

