-- ==== Sys2Proof/Machine/State.lean ====
section
/-! DEFINITION. The architectural state (10_state.md, 61_platform_devices.md), the reasons a step can stop, the
exceptions of the machine, and the state after reset. State is plain data: every field is a bit vector, a number, a
Boolean, or a list, vector, option or record of those. -/

namespace Sys2Proof.Machine

/-- Situations the manual leaves undefined, in which the spec tells a model to stop. Stopping is safe: the hardware
goes on in some way the manual does not give. -/
inductive Fault where
  /-- Status.KSU = 11 with EXL = ERL = 0: the step and whatever needs the mode stop (10_state.md R37; log 22). Safe. -/
  | ksuReserved
  /-- More than one TLB entry matches an address or a probe (20_memory.md R119; log 23). Safe. -/
  | tlbMultipleMatch
  /-- A TLB write or a translation uses a Mask value outside the table of 10_state.md R31 (log 23). Safe. -/
  | tlbMaskIllegal
  /-- A fetch uses a valid translation whose Mask differs from PageMask (20_memory.md R121; log 23). Safe. -/
  | tlbMaskMixed
  /-- A Watch match while Status.EXL or ERL is set (60_exceptions.md R562; log 20). Safe. -/
  | watchDeferred
  /-- A CACHE operation on an address whose attribute is not cacheable (47_cp0.md R387; log 34). Safe. -/
  | cacheOnUncached
  /-- An access of a width that a device space does not take (61_platform_devices.md R605, R612; log 11). Safe. -/
  | deviceWidth
  /-- Sequential execution from pc = 0xFFFFFFFFFFFFFFFC (10_state.md R23, 93 S14; log 21). Safe. -/
  | pcWrap
  /-- Two ways of one cache set hold the same line (log 15). Safe. -/
  | cacheMultipleHit
  /-- A dirty primary line has no secondary line: inclusion is broken (47_cp0.md R396; log 15). Safe. -/
  | cacheInclusion
  deriving DecidableEq, Repr

/-- Instructions and words that lie outside the spec. Refusing is safe: nothing is claimed of them. -/
inductive Refusal where
  /-- Raised by the dispatch alone, for an instruction that has no meaning yet. Safe. -/
  | notModelled (mnemonic : String)
  /-- A word outside the spec (30_encoding.md R176; log 36). Raised by the step. Safe. -/
  | outsideSpec
  /-- A jump or branch in a delay slot (44_jump_branch.md R306; log 21). Safe. -/
  | branchInDelaySlot
  /-- ERET in a delay slot (47_cp0.md R384; log 21). Safe. -/
  | eretInDelaySlot
  /-- JALR with rd = rs (44_jump_branch.md R311; log 21). Safe. -/
  | jalrSameRegister
  /-- A linking branch with rs = 31 (44_jump_branch.md R318; log 21). Safe. -/
  | linkOfLinkRegister
  /-- LL or LLD with rt = 0 (40_load_store.md R201; log 33). Safe. -/
  | linkedLoadToZero
  /-- CFC1 or CTC1 of a control register other than 0 and 31 (10_state.md R78; log 30). Safe. -/
  | fpControlRegister
  /-- A 64-bit floating-point operand with an odd register number while Status.FR = 0 (48_fpu.md R411; log 31). Safe. -/
  | fpOddRegister
  /-- DIV.fmt with Status.NOFDIV = 1 or SQRT.fmt with Status.NOFSQR = 1 (10_state.md R36; log 32). Safe. -/
  | fpUnitDisabled
  deriving DecidableEq, Repr

/-- The exceptions that use the entry procedure of 60_exceptions.md R540, with what each records. `store` tells the
store form from the load or fetch form; `va` is the failing virtual address. -/
inductive Exc where
  | interrupt
  | tlbModified (va : Word)
  | tlbRefill (store : Bool) (va : Word)
  | tlbInvalid (store : Bool) (va : Word)
  | addressError (store : Bool) (va : Word)
  | busErrorFetch
  | busErrorData
  | systemCall
  | breakpoint
  | reservedInstruction
  | coprocessorUnusable (unit : BitVec 2)
  | integerOverflow
  | trap
  | floatingPoint
  | watch
  deriving DecidableEq, Repr

/-- The three modes (10_state.md R37). -/
inductive Mode where
  | kernel | supervisor | user
  deriving DecidableEq, Repr

/-- One half of a TLB entry: the fields of EntryLo without G (10_state.md R28, R58). -/
structure TlbPage where
  /-- No-execute. -/
  e : Bool
  /-- Physical address bits 39:12. -/
  pfn : BitVec 28
  /-- Cache attribute. -/
  c : BitVec 3
  /-- Dirty, meaning writable. -/
  d : Bool
  /-- Valid. -/
  v : Bool
  deriving DecidableEq, Repr

/-- A joint TLB entry (10_state.md R58). -/
structure TlbEntry where
  mask : BitVec 12
  r : BitVec 2
  vpn2 : BitVec 27
  g : Bool
  asid : BitVec 8
  even : TlbPage
  odd : TlbPage
  deriving DecidableEq, Repr

/-- A translation that a fetch has used, one page (10_state.md R59, 20_memory.md R123). -/
structure ItlbEntry where
  mask : BitVec 12
  r : BitVec 2
  vpn2 : BitVec 27
  g : Bool
  asid : BitVec 8
  /-- Whether it maps the odd page of the pair. -/
  oddPage : Bool
  page : TlbPage
  deriving DecidableEq, Repr

/-- A line of the primary instruction cache (10_state.md R60). -/
structure ILine where
  v : Bool
  ptag : BitVec 28
  data : Line
  deriving DecidableEq, Repr

/-- A line of the primary data cache (10_state.md R60): cs is 00 invalid, 01 shared, 10 exclusive, 11 dirty. -/
structure DLine where
  cs : BitVec 2
  ptag : BitVec 28
  /-- The way of the secondary cache that holds the line. -/
  scway : BitVec 2
  /-- The write-back bit, set when the line has been written back. -/
  w : Bool
  data : Line
  deriving DecidableEq, Repr

/-- A line of the secondary cache (10_state.md R60), with the states of `DLine.cs`. -/
structure SLine where
  tag : BitVec 23
  state : BitVec 2
  data : Line
  deriving DecidableEq, Repr

/-- The uncached-accelerated gather buffer while it holds stores (20_memory.md R128): the line address PA[39:5], one
valid bit for each byte, the bytes. -/
structure UcaBuffer where
  line : BitVec 35
  valid : BitVec 32
  data : Line
  deriving DecidableEq, Repr

/-- What a line held before one store, for as long as a fetch may still see it (20_memory.md R138; log 17). -/
structure OldLine where
  /-- What a cached fetch may see. -/
  data : Line
  /-- What an uncached fetch may see, where the store was a cached one: `data` with the bytes of later uncached stores, which
  need no sequence. -/
  uncached : Option Line
  /-- A CACHE writeback-invalidate of the line has followed the store. -/
  pushed : Bool
  /-- The values of VA[13:12] whose instruction-cache set has not been invalidated since, one bit each. -/
  colours : BitVec 4
  deriving DecidableEq, Repr

/-- The MODEL's own record of one 32-byte line of physical memory (log 16, 17): how the program has accessed its data, and
which earlier contents a fetch may still see. -/
structure LineHistory where
  /-- The values of VA[13:12] through which cached data accesses reached it, one bit each (20_memory.md R127). -/
  colours : BitVec 4
  /-- A cached data access since the last CACHE writeback-invalidate of the line (R127). -/
  cached : Bool
  /-- An uncached data access since then. -/
  uncached : Bool
  /-- Its contents before each store that a fetch may still miss (R138). -/
  olds : List OldLine
  deriving DecidableEq, Repr

/-- The record of a line that no data access has reached. -/
abbrev LineHistory.none : LineHistory :=
  { colours := 0#4, cached := false, uncached := false, olds := [] }

/-- A list of keyed entries: memory and the caches. The canonical form has rising keys and no default entry. -/
abbrev Sparse (β : Type) := List (Nat × β)

/-- Physical memory, keyed by byte address (20_memory.md R112). -/
abbrev Memory := List Host.Cell

/-- What a byte of memory that nothing has written reads as (log 2). -/
abbrev Memory.unwritten : Byte := 0#8

/-- A cache line that nothing has written: invalid, all fields 0 (log 1). -/
abbrev ILine.unwritten : ILine := { v := false, ptag := 0#28, data := 0#256 }
@[inherit_doc ILine.unwritten]
abbrev DLine.unwritten : DLine := { cs := 0#2, ptag := 0#28, scway := 0#2, w := false, data := 0#256 }
@[inherit_doc ILine.unwritten]
abbrev SLine.unwritten : SLine := { tag := 0#23, state := 0#2, data := 0#256 }

/-- What lies at a physical address (61_platform_devices.md R605, R609; log 9). -/
inductive Region where
  /-- Memory. -/
  | ram
  /-- The boot ROM image: memory that stores do not change. -/
  | rom
  /-- DDR2 configuration register `k`; its second doubleword is reserved. -/
  | ddr
  /-- An address-window register. -/
  | window
  /-- The PCI configuration header, word, halfword and byte access. -/
  | pciHeader
  /-- The IO control registers, word, halfword and byte access. -/
  | io
  /-- PCI IO and PCI CONF: devices of the board, word, halfword and byte access. -/
  | narrowDevice
  /-- PCI memory, Local IO and the video space: devices of the board, every access width. -/
  | wideDevice
  /-- Claimed by nothing. -/
  | unclaimed
  deriving DecidableEq, Repr

/-- What a range of PHYS_MAP can hold: the regions that are not register blocks of the chip. -/
inductive Space where
  | ram | rom | narrowDevice | wideDevice
  deriving DecidableEq, Repr

/-- A range of PHYS_MAP, in blocks of 256 bytes: `first` to `limit - 1` (61_platform_devices.md R609; log 9). -/
structure MapRange where
  first : Nat
  limit : Nat
  space : Space
  deriving DecidableEq, Repr

/-- Everything behind the translation: memory, the caches, the gather buffer, the device registers and the
interrupt controller. Lines of the three caches are keyed by set * 4 + way. -/
structure Bus where
  mem : Memory
  icache : Sparse ILine
  dcache : Sparse DLine
  scache : Sparse SLine
  uca : Option UcaBuffer
  /-- The MODEL's own: the records of the lines that data accesses have reached, keyed by PA[39:5] (log 16, 17). -/
  history : Sparse LineHistory
  /-- CONF_CTL_00 to CONF_CTL_28 (61_platform_devices.md R612). -/
  ddr : Vector (BitVec 64) 29
  /-- The 48 address-window registers in address order (R602). -/
  windows : Vector (BitVec 64) 48
  /-- The PCI configuration header, 64 words (R620). -/
  pciHeader : Vector (BitVec 32) 64
  /-- The IO control registers, 64 words from 0x1fe00100 (R646). -/
  io : Vector (BitVec 32) 64
  /-- Recorded pulses of the 15 interrupt sources (R641). -/
  pulses : BitVec 15
  /-- The source lines as they were at the last step, for pulse detection. -/
  lastLines : BitVec 15
  /-- The source lines, driven by the environment: raw levels (R640, R641). -/
  lines : BitVec 15
  /-- BUS_ERROR_ON_UNCLAIMED (20_memory.md R142). -/
  busErrorOnUnclaimed : Bool
  /-- PHYS_MAP (61_platform_devices.md R609, 92 D40; log 9): the first range that holds an address decides. -/
  physMap : List MapRange
  /-- INTSTEER_OFFSET, the offset of Intsteer among the IO control registers (R642; log 12). -/
  intsteerOffset : Nat
  deriving DecidableEq, Repr

/-- The CP0 registers that hold content (10_state.md R25 to R55). PRId is a constant; LLAddr and the reserved numbers
hold nothing. -/
structure Cp0 where
  index : BitVec 32
  random : BitVec 6
  entryLo0 : BitVec 64
  entryLo1 : BitVec 64
  context : BitVec 64
  pageMask : BitVec 32
  wired : BitVec 6
  badVAddr : BitVec 64
  count : BitVec 32
  entryHi : BitVec 64
  compare : BitVec 32
  /-- The latched Count and Compare match (60_exceptions.md R565). -/
  timerPending : Bool
  status : BitVec 32
  /-- BD, CE, IP1, IP0 and ExcCode; IP[7:2] are computed (10_state.md R39, R41). -/
  cause : BitVec 32
  epc : BitVec 64
  /-- Config.K0, the writable bits 2:0 (R44). -/
  k0 : BitVec 3
  watch : BitVec 64
  xcontext : BitVec 64
  /-- Diagnostic without its action bits 2 and 1 (R49). -/
  diagnostic : BitVec 64
  perfCtrl : BitVec 64
  perfCnt : BitVec 64
  /-- The MODEL's own: the requests on Cause.IP[6:2] that a reset has cleared while their cause goes on: bits 4:0 the
  external lines 4:0, bit 5 the performance counters (70_reset_and_hazards.md R660, R662; log 24). -/
  dropped : BitVec 6
  tagLo : BitVec 32
  tagHi : BitVec 32
  errorEpc : BitVec 64
  deriving DecidableEq, Repr

/-- The state of the machine. -/
structure State where
  /-- The general registers; register 0 is never read from here (R20). -/
  gpr : Vector Word 32
  hi : Word
  lo : Word
  pc : Word
  /-- The target recorded by a branch whose delay slot is next (R23, 44_jump_branch.md R306). -/
  delay : Option Word
  llbit : Bool
  cp0 : Cp0
  fpr : Vector Word 32
  /-- FCR31 (R73). -/
  fcsr : BitVec 32
  tlb : Vector TlbEntry 64
  itlb : List ItlbEntry
  bus : Bus
  /-- Requests of the environment (10_state.md R61 (e)). -/
  coldResetRequest : Bool
  nmiRequest : Bool
  softResetRequest : Bool
  /-- The MODEL's own: how many more instructions a pending interrupt waits (60_exceptions.md R568; log 7). -/
  irqWait : Option Nat
  /-- The MODEL's own: the number of steps taken, to which free values are applied (log 3). -/
  seq : Nat
  deriving DecidableEq, Repr

/-- What an instruction or a step answers: a next state, a fault or a refusal. -/
abbrev Outcome := Host.Outcome State Fault Refusal

/-- A TLB half at reset: invalid, uncached (log 1). -/
def TlbPage.reset : TlbPage := { e := false, pfn := 0#28, c := 2#3, d := false, v := false }

/-- TLB entry `i` at reset: the page pair of the distinct CKSEG0 address 0xFFFFFFFF80000000 + i * 2^13, which no
mapped address matches (70_reset_and_hazards.md R668 (b); log 1). -/
def TlbEntry.reset (i : Nat) : TlbEntry :=
  { mask := 0#12, r := 3#2, vpn2 := BitVec.ofNat 27 (0x7FC0000 + i), g := false, asid := 0#8,
    even := TlbPage.reset, odd := TlbPage.reset }

/-- The CP0 registers after cold reset (10_state.md R95; log 1 for those the manual leaves undefined). -/
def Cp0.reset : Cp0 :=
  { index := 0#32, random := 63#6, entryLo0 := 0#64, entryLo1 := 0#64, context := 0#64, pageMask := 0#32,
    wired := 0#6, badVAddr := 0#64, count := 0#32, entryHi := 0#64, compare := 0#32, timerPending := false,
    status := 0x30400004#32, cause := 0#32, epc := 0#64, k0 := 2#3, watch := 0#64, xcontext := 0#64,
    diagnostic := 0#64, perfCtrl := 0#64, perfCnt := 0#64, dropped := 0#6, tagLo := 0#32, tagHi := 0#32, errorEpc := 0#64 }

/-- The DDR2 configuration registers at reset: 0 but for MAX_CS_REG (register 5), MAX_ROW_REG and MAX_COL_REG
(register 7) and VERSION (register 20) (61_platform_devices.md R612). -/
def Bus.ddrReset : Vector (BitVec 64) 29 :=
  ((Vector.replicate 29 0#64).set 5 0x0000000400000000#64 |>.set 7 0x0F0E000000000000#64).set 20 0x0000204100000000#64

/-- The default of PHYS_MAP (61_platform_devices.md R609, with the table of R605 inside 0x10000000 to 0x1fffffff): RAM,
PCI memory, the boot ROM, PCI IO, PCI CONF, Local IO; what no range holds is unclaimed. -/
def Bus.defaultMap : List MapRange :=
  [⟨0x000000, 0x100000, .ram⟩, ⟨0x100000, 0x1FC000, .wideDevice⟩, ⟨0x1FC000, 0x1FD000, .rom⟩,
   ⟨0x1FD000, 0x1FE000, .narrowDevice⟩, ⟨0x1FE800, 0x1FE808, .narrowDevice⟩, ⟨0x1FF000, 0x200000, .wideDevice⟩]

/-- The IO control registers at reset (61_platform_devices.md R641, R647 to R655), by word: LIOCfg, PCIX_Bridge_Cfg,
GPIO_EN, Intedge, Intpol, PCI_Hit0/1/2_Sel, PXArb_Config, Chip_Config0, Pad1v8_Ctrl, Pad3v3_Ctrl; the rest 0 (strap
values: log 11). -/
def Bus.ioReset : Vector (BitVec 32) 64 :=
  let a := (Vector.replicate 64 0#32).set 2 0x00001F7C#32 |>.set 5 0x00000018#32 |>.set 8 0x0000000F#32
  let b := a.set 9 0x00000300#32 |>.set 11 0x00000700#32 |>.set 20 0x00000006#32 |>.set 21 0x80000000#32
  let c := b.set 22 0x00000006#32 |>.set 23 0x80000000#32 |>.set 24 0x00000006#32 |>.set 25 0x80000000#32
  c.set 26 0x000001C5#32 |>.set 32 0x00000617#32 |>.set 33 0x00000F80#32 |>.set 34 0x00000780#32

/-- The source lines while no source is active: the low-active ones high, PCI_PERR, PCI_SERR and Denali low
(61_platform_devices.md R641; log 8). -/
def Bus.idleLines : BitVec 15 := 0x78FF#15

/-- Memory, caches and devices at reset: nothing written, caches invalid, registers at their defaults, no source
active, the parameters at their defaults (log 1, 2, 8, 9, 10, 11, 12). -/
def Bus.reset : Bus :=
  { mem := [], icache := [], dcache := [], scache := [], uca := none, history := [], ddr := Bus.ddrReset,
    windows := Vector.replicate 48 0#64, pciHeader := Vector.replicate 64 0#32, io := Bus.ioReset,
    pulses := 0#15, lastLines := Bus.idleLines, lines := Bus.idleLines, busErrorOnUnclaimed := false,
    physMap := Bus.defaultMap, intsteerOffset := 0x28 }

/-- The reset vector (60_exceptions.md R541). -/
def resetVector : Word := 0xFFFFFFFFBFC00000#64

/-- The machine right after cold reset (10_state.md R95, 70_reset_and_hazards.md R660): the stated values, and the
values log entry 1 names for the rest. -/
def State.reset : State :=
  { gpr := Vector.replicate 32 0#64, hi := 0#64, lo := 0#64, pc := resetVector, delay := none, llbit := false,
    cp0 := Cp0.reset, fpr := Vector.replicate 32 0#64, fcsr := 0#32, tlb := Vector.ofFn fun i => TlbEntry.reset i.val,
    itlb := [], bus := Bus.reset, coldResetRequest := false, nmiRequest := false, softResetRequest := false,
    irqWait := none, seq := 0 }

end Sys2Proof.Machine
end

