-- ==== Sys2Proof/Machine/Sparse.lean ====
section
/-! DEFINITION. Sparse storage in canonical form, the bytes of memory and the bytes of a cache line
(20_memory.md R100, R101, R112). -/

namespace Sys2Proof.Machine

variable {β : Type} [DecidableEq β]

/-- The entry of a key; `d` where none is listed. -/
def sparseRead (d : β) : Sparse β → Nat → β
  | [], _ => d
  | (k, v) :: rest, a => if a = k then v else sparseRead d rest a

/-- Put `v` at key `a`, keeping the keys rising. -/
def sparseInsert : Sparse β → Nat → β → Sparse β
  | [], a, v => [(a, v)]
  | (k, w) :: rest, a, v =>
    if a < k then (a, v) :: (k, w) :: rest
    else if a = k then (a, v) :: rest
    else (k, w) :: sparseInsert rest a v

/-- Write `v` at key `a`; writing what an unlisted key reads as removes the entry. -/
def sparseWrite (d : β) (l : Sparse β) (a : Nat) (v : β) : Sparse β :=
  if v = d then l.filter (fun e => e.1 ≠ a) else sparseInsert l a v

/-- The canonical form: keys strictly rising, no entry equal to what an unlisted key reads as. -/
abbrev SparseWf (d : β) (l : Sparse β) : Prop := l.Pairwise (fun x y => x.1 < y.1) ∧ ∀ e ∈ l, e.2 ≠ d

/-- The canonical form of memory. -/
abbrev Memory.wf (m : Memory) : Prop := SparseWf Memory.unwritten m

/-- One byte of memory. -/
def memByte (m : Memory) (a : Nat) : Byte := sparseRead Memory.unwritten m a

/-- The `n` bytes from address `a` as a number, the byte at `a` least significant (R100). -/
def memRead (m : Memory) (a : Nat) : Nat → Nat
  | 0 => 0
  | n + 1 => (memByte m a).toNat + 256 * memRead m (a + 1) n

/-- Write the `n` low bytes of the number `v` from address `a` up, the least significant at `a` (R100). -/
def memWrite (m : Memory) (a : Nat) : Nat → Nat → Memory
  | 0, _ => m
  | n + 1, v => memWrite (sparseWrite Memory.unwritten m a (BitVec.ofNat 8 v)) (a + 1) n (v / 256)

/-- The `n` free bytes of an access at physical address `a` in step `q`, as a number. -/
def anyBytes (q : Nat) (a : Nat) : Nat → Nat
  | 0 => 0
  | n + 1 => (Config.anyByte q a).toNat + 256 * anyBytes q (a + 1) n

/-- The mask of the `n` low bytes of a doubleword. -/
def byteMask (n : Nat) : Word := BitVec.ofNat 64 (2 ^ (8 * n) - 1)

/-- The `n` bytes of a line from byte offset `off`. -/
def lineGet (d : Line) (off n : Nat) : Word := (d >>> (8 * off)).setWidth 64 &&& byteMask n

/-- A line with the `n` low bytes of `v` put at byte offset `off`. -/
def linePut (d : Line) (off n : Nat) (v : Word) : Line :=
  (d &&& ~~~((byteMask n).setWidth 256 <<< (8 * off))) ||| ((v &&& byteMask n).setWidth 256 <<< (8 * off))

/-- The `n` bytes of a doubleword from byte offset `off`. -/
def wordGet (d : Word) (off n : Nat) : Word := (d >>> (8 * off)) &&& byteMask n

/-- A 32-bit register with the `n` low bytes of `v` put at byte offset `off`. -/
def word32Put (d : BitVec 32) (off n : Nat) (v : Word) : BitVec 32 :=
  (d &&& ~~~((byteMask n).setWidth 32 <<< (8 * off))) ||| ((v &&& byteMask n).setWidth 32 <<< (8 * off))

/-- The 32 bytes of memory from address `a` as a line. -/
def memLine (m : Memory) (a : Nat) : Line := BitVec.ofNat 256 (memRead m a 32)

/-- The four doublewords of a line as one value, the lowest address first. -/
def lineOfWords (w0 w1 w2 w3 : Word) : Line := w3 ++ w2 ++ w1 ++ w0

end Sys2Proof.Machine
end

