-- ==== Sys2Proof/Machine/Operands.lean ====
section
/-! DEFINITION. Operand forms: registers, immediates, effective addresses, 32-bit forms, the fields of Status and the
mode they select (10_state.md R20, R36, R37; 30_encoding.md R165, R166, R181; 48_fpu.md R411). -/

namespace Sys2Proof.Machine

/-! General registers (10_state.md R20). Only register 0 is special here, and only register 31 in the linking
instructions (`State.link`); no other register has behaviour of its own (R21). -/

/-- General register `r`; register 0 reads 0. -/
def State.readGpr (s : State) (r : RegNum) : Word :=
  if r = 0#5 then 0#64 else s.gpr[r.toNat]'r.isLt

/-- Write general register `r`; a write to register 0 is discarded. -/
def State.writeGpr (s : State) (r : RegNum) (v : Word) : State :=
  if r = 0#5 then s else { s with gpr := s.gpr.set r.toNat v r.isLt }

/-! Immediates and 32-bit forms. -/

/-- Sign extension of an immediate to 64 bits (30_encoding.md R165). -/
def sextImm (imm : BitVec 16) : Word := imm.signExtend 64

/-- Zero extension of an immediate to 64 bits (R165). -/
def zextImm (imm : BitVec 16) : Word := imm.setWidth 64

/-- Bits 31:0 of a register (R181). -/
def low32 (v : Word) : BitVec 32 := v.setWidth 32

/-- A 32-bit result as a register value: sign-extended (R181). -/
def sext32 (v : BitVec 32) : Word := v.signExtend 64

/-- The effective address of a load, store or CACHE operation (20_memory.md R102). -/
def State.effectiveAddress (s : State) (base : RegNum) (offset : BitVec 16) : Word :=
  s.readGpr base + sextImm offset

/-- The target of a branch at `pc` (30_encoding.md R166). -/
def branchTarget (pc : Word) (imm : BitVec 16) : Word := pc + 4#64 + (sextImm imm <<< 2)

/-- The target of J and JAL at `pc`: the upper 36 bits are those of the delay slot's address (R166). -/
def jumpTarget (pc : Word) (target : BitVec 26) : Word :=
  ((pc + 4#64) &&& 0xFFFFFFFFF0000000#64) ||| (target.setWidth 64 <<< 2)

/-! Status fields (10_state.md R35, R36). -/

/-- Status.IE, bit 0. -/
def statusIe (st : BitVec 32) : Bool := st.getLsbD 0
/-- Status.EXL, bit 1. -/
def statusExl (st : BitVec 32) : Bool := st.getLsbD 1
/-- Status.ERL, bit 2. -/
def statusErl (st : BitVec 32) : Bool := st.getLsbD 2
/-- Status.KSU, bits 4:3. -/
def statusKsu (st : BitVec 32) : BitVec 2 := st.extractLsb' 3 2
/-- Status.IM, bits 15:8. -/
def statusIm (st : BitVec 32) : BitVec 8 := st.extractLsb' 8 8
/-- Status.BEV, bit 22. -/
def statusBev (st : BitVec 32) : Bool := st.getLsbD 22
/-- Status.NOFSQR, bit 23. -/
def statusNofsqr (st : BitVec 32) : Bool := st.getLsbD 23
/-- Status.NOFDIV, bit 24. -/
def statusNofdiv (st : BitVec 32) : Bool := st.getLsbD 24
/-- Status.FR, bit 26. -/
def statusFr (st : BitVec 32) : Bool := st.getLsbD 26
/-- Status.CU0, bit 28. -/
def statusCu0 (st : BitVec 32) : Bool := st.getLsbD 28
/-- Status.CU1, bit 29. -/
def statusCu1 (st : BitVec 32) : Bool := st.getLsbD 29
/-- Status.CU2, bit 30. -/
def statusCu2 (st : BitVec 32) : Bool := st.getLsbD 30

/-- The mode a Status value selects; none where KSU = 11 decides, which is undefined (R37; log 22). -/
def modeOf (st : BitVec 32) : Option Mode :=
  if statusExl st || statusErl st then some .kernel
  else if statusKsu st = 0#2 then some .kernel
  else if statusKsu st = 1#2 then some .supervisor
  else if statusKsu st = 2#2 then some .user
  else none

/-- Whether CP0 instructions are usable in mode `m`: kernel mode, or CU0 = 1 (47_cp0.md R375). -/
def cp0UsableIn (m : Mode) (st : BitVec 32) : Bool := m = .kernel || statusCu0 st

/-! Floating-point registers (48_fpu.md R411, 10_state.md R72). -/

/-- Whether `f` may name a 64-bit operand: with FR = 0 only an even register may (log 31). -/
def fpr64Ok (st : BitVec 32) (f : RegNum) : Bool := statusFr st || !f.getLsbD 0

/-- The number of the even register of the pair of `f`. -/
def evenFpr (f : RegNum) : RegNum := f &&& 0x1E#5

/-- A 64-bit floating-point register, R64 for a register `fpr64Ok` allows. -/
def State.readFpr (s : State) (f : RegNum) : Word := s.fpr[f.toNat]'f.isLt

/-- Write a 64-bit floating-point register, W64 for a register `fpr64Ok` allows. -/
def State.writeFpr (s : State) (f : RegNum) (v : Word) : State := { s with fpr := s.fpr.set f.toNat v f.isLt }

/-- R32: the 32-bit value of register `f`; with FR = 0 an odd register is the upper half of the pair. -/
def State.readFpr32 (s : State) (f : RegNum) : BitVec 32 :=
  if statusFr s.cp0.status then (s.readFpr f).extractLsb' 0 32
  else if f.getLsbD 0 then (s.readFpr (evenFpr f)).extractLsb' 32 32
  else (s.readFpr f).extractLsb' 0 32

/-- W32: write the 32-bit register `f`. With FR = 1 the upper half becomes a free value (93 U20); with FR = 0 the
other register of the pair is kept. -/
def State.writeFpr32 (s : State) (f : RegNum) (v : BitVec 32) : State :=
  if statusFr s.cp0.status then
    s.writeFpr f ((Config.anyValue .fprUpper s.seq).extractLsb' 32 32 ++ v)
  else if f.getLsbD 0 then s.writeFpr (evenFpr f) (v ++ (s.readFpr (evenFpr f)).extractLsb' 0 32)
  else s.writeFpr f ((s.readFpr f).extractLsb' 32 32 ++ v)

end Sys2Proof.Machine
end

