-- ==== Sys2Proof/Machine/Devices.lean ====
section
/-! DEFINITION. The physical address map and the on-chip device registers (61_platform_devices.md): the DDR2
controller, the address windows, the PCI header, the IO control registers and the interrupt controller. -/

namespace Sys2Proof.Machine

/-- The word of the IO control registers at byte offset `off`. -/
def Bus.ioWord (b : Bus) (off : Nat) : BitVec 32 := b.io[(off / 4) % 64]'(Nat.mod_lt _ (by decide))

/-- Chip_Config0.disable_ddr_conf (R652). -/
def Bus.disableDdrConf (b : Bus) : Bool := (b.ioWord 0x80).getLsbD 8

/-- The region a range of PHYS_MAP makes of its addresses. -/
def Space.region : Space → Region
  | .ram => .ram
  | .rom => .rom
  | .narrowDevice => .narrowDevice
  | .wideDevice => .wideDevice

/-- The region PHYS_MAP gives an address: that of the first range that holds it. -/
def mappedRegion (map : List MapRange) (pa : Nat) : Region :=
  match map.find? fun r => decide (r.first ≤ pa / 256) && decide (pa / 256 < r.limit) with
  | some r => r.space.region
  | none => .unclaimed

/-- What lies at a physical address: the register blocks of the chip at the addresses of R602, R607 and R612, the DDR2
registers while they are enabled (R652); elsewhere PHYS_MAP decides (R609; log 9). With the default map the video space
0x13f00000 lies inside PCI MEM Lo0 and answers like it, enabled or not. -/
def Bus.regionOf (b : Bus) (pa : Nat) : Region :=
  if 0x0FFFFE00 ≤ pa ∧ pa < 0x10000000 ∧ b.disableDdrConf = false then .ddr
  else if 0x1FE00000 ≤ pa ∧ pa < 0x1FE00100 then .pciHeader
  else if 0x1FE00100 ≤ pa ∧ pa < 0x1FE00200 then .io
  else if 0x3FF00000 ≤ pa ∧ pa < 0x3FF00180 then .window
  else mappedRegion b.physMap pa

/-- The outgoing address of an address window for an incoming one, none where the window does not hit (R601). Kept as
the manual's formula; the core's accesses do not use it (R603; log 46). -/
def windowOut (base mask mmap addr : BitVec 64) : Option (BitVec 64) :=
  if addr &&& mask = base then some ((addr &&& ~~~mask) ||| (mmap &&& 0xFFFFFFFFFFF00000#64)) else none

/-! The DDR2 configuration registers (R612 to R617). -/

/-- The bits of CONF_CTL_k that software can write and read back (R613 to R616). -/
def ddrWritable : Nat → BitVec 64
  | 0 => 0x0101010100010101#64
  | 1 => 0x0001010101010100#64
  | 2 => 0x0101010101010101#64
  | 3 => 0x0101010101010101#64
  | 4 => 0x0303030300010101#64
  | 5 => 0x0700000007070703#64
  | 6 => 0x0F07070707070707#64
  | 7 => 0x00000F00000F0F0F#64
  | 8 => 0x0F0F0F0F0F0F0F0F#64
  | 9 => 0x1F1F0F0F00000000#64
  | 10 => 0x7F7F7F3F3F1F1F1F#64
  | 11 => 0x7F7F7F7F7F7F7F7F#64
  | 12 => 0x01FFFFFFFF000000#64
  | 13 => 0x01FF01FF01FF01FF#64
  | 14 => 0x01FF01FF01FF01FF#64
  | 15 => 0x01FF01FF000001FF#64
  | 16 => 0x000007FF000001FF#64
  | 17 => 0x7FFF7FFF7FFF3FFF#64
  | 18 => 0xFFFF7FFF7FFF7FFF#64
  | 19 => 0xFFFFFFFFFFFFFFFF#64
  | 20 => 0xFFFF0000FFFFFFFF#64
  | 21 => 0x0000000000FFFFFF#64
  | 27 => 0x0000000000000007#64
  | 28 => 0x0000000000000001#64
  | _ => 0#64

/-- The write-only bits of CONF_CTL_k: AREFRESH, FWC, WRITE_MODEREG; they read as free values (R617). INT_ACK is counted
among them: R615 says what writing 1 does and not what it reads as (DESIGN CHOICE, log 11). -/
def ddrWriteOnly : Nat → BitVec 64
  | 0 => 0x0000000001000000#64
  | 1 => 0x0100000000000000#64
  | 4 => 0x0000000001000000#64
  | 16 => 0x0000000003FF0000#64
  | _ => 0#64

/-- CONF_CTL_k. -/
def Bus.ddrReg (b : Bus) (k : Nat) : BitVec 64 := if h : k < 29 then b.ddr[k] else 0#64

/-- A read of the doubleword at offset `off` of the DDR2 register space: a register; 0 for a doubleword that holds none
(offset 8 of each 16 bytes, 0x1d0 and up), which R612 leaves open (DESIGN CHOICE, log 11). -/
def Bus.ddrRead (b : Bus) (q off : Nat) : BitVec 64 :=
  if off % 16 < 8 then
    let k := off / 16
    b.ddrReg k ||| (BitVec.ofNat 64 (anyBytes q (0x0FFFFE00 + off / 8 * 8) 8) &&& ddrWriteOnly k)
  else 0#64

/-- A doubleword write at offset `off` of the DDR2 register space. Writing 1 to a bit of INT_ACK, which has ten, clears that
bit of INT_STATUS (R615); the eleventh, bit 10 "any of the above", stays as it is, also when the last of the ten falls, which
R615 leaves open (DESIGN CHOICE, log 11). A doubleword that holds no register drops the write (DESIGN CHOICE, log 11). -/
def Bus.ddrWrite (b : Bus) (off : Nat) (v : BitVec 64) : Bus :=
  let k := off / 16
  if off % 16 < 8 then
    if h : k < 29 then
      let kept := (b.ddr[k] &&& ~~~(ddrWritable k)) ||| (v &&& ddrWritable k)
      let acked := if k = 16 then kept &&& ~~~((v.extractLsb' 16 10).setWidth 64 <<< 48) else kept
      { b with ddr := b.ddr.set k acked }
    else b
  else b

/-! The address-window registers: plain storage (R602, R603). -/

/-- The window register at offset `off` from 0x3ff00000. -/
def Bus.windowReg (b : Bus) (off : Nat) : BitVec 64 := b.windows[(off / 8) % 48]'(Nat.mod_lt _ (by decide))

/-- Write the window register at offset `off`. -/
def Bus.windowWrite (b : Bus) (off : Nat) (v : BitVec 64) : Bus :=
  { b with windows := b.windows.set ((off / 8) % 48) v (Nat.mod_lt _ (by decide)) }

/-! The interrupt controller (R640 to R643; log 13). -/

/-- The sources whose line is at its active level: Intpol 0 is active low, 1 active high. -/
def activeLevels (lines pol : BitVec 15) : BitVec 15 := ~~~(lines ^^^ pol)

/-- Intpol of the 15 sources. -/
def Bus.intpol (b : Bus) : BitVec 15 := (b.ioWord 0x2C).setWidth 15
/-- Intedge of the 15 sources. -/
def Bus.intedge (b : Bus) : BitVec 15 := (b.ioWord 0x24).setWidth 15
/-- Inten of the steered sources 10:0. -/
def Bus.inten (b : Bus) : BitVec 15 := (b.ioWord 0x38).setWidth 15
/-- Intsteer of the steered sources 10:0. -/
def Bus.intsteer (b : Bus) : BitVec 15 := (b.ioWord b.intsteerOffset).setWidth 15

/-- The active sources: a level-triggered source while its line is active, a pulse-triggered one while its pulse is
recorded (R641). -/
def Bus.activeSources (b : Bus) : BitVec 15 :=
  (b.intedge &&& b.pulses) ||| (~~~b.intedge &&& activeLevels b.lines b.intpol)

/-- Record the pulses of pulse-triggered sources whose line has become active since the last step (R641). Both lines are
judged by the present Intpol, so a write of Intpol that makes an unchanged line active is no pulse (DESIGN CHOICE,
log 13). -/
def Bus.recordPulses (b : Bus) : Bus :=
  let now := activeLevels b.lines b.intpol
  let before := activeLevels b.lastLines b.intpol
  { b with pulses := b.pulses ||| (b.intedge &&& now &&& ~~~before), lastLines := b.lines }

/-- The six interrupt inputs of the core: the pins INT3 to INT0 after polarity on 5:2, whatever Intedge says of them,
and the steered sources on 1 and 0 (R640). -/
def Bus.extLines (b : Bus) : BitVec 6 :=
  let steered := b.activeSources &&& b.inten &&& 0x07FF#15
  let one := decide (steered &&& b.intsteer ≠ 0#15)
  let zero := decide (steered &&& ~~~b.intsteer ≠ 0#15)
  (activeLevels b.lines b.intpol).extractLsb' 11 4 ++ BitVec.ofBool one ++ BitVec.ofBool zero

/-! The IO control registers (R646 to R655). -/

/-- The writable bits of the IO control register at byte offset `off`; `steer` is the offset of Intsteer. -/
def ioWritable (steer off : Nat) : BitVec 32 :=
  if off = steer then 0x000007FF#32  -- Intsteer
  else if off = 0x04 then 0x00000001#32  -- GenCfg: ov_en
  else if off = 0x08 then 0x00007FFC#32  -- LIOCfg
  else if off = 0x10 then 0x0003FFFF#32  -- PCIMap
  else if off = 0x14 then 0x0000007F#32  -- PCIX_Bridge_Cfg
  else if off = 0x18 then 0x0001FFFF#32  -- PCIMap_Cfg
  else if off = 0x1C then 0x0000000F#32  -- GPIO_Data: gpio_out
  else if off = 0x20 then 0x0000000F#32  -- GPIO_EN
  else if off = 0x24 then 0x0000780F#32  -- Intedge
  else if off = 0x2C then 0x0000780F#32  -- Intpol
  else if off = 0x40 then 0xFFFFFFFF#32  -- Mem_Win_Base_L
  else if off = 0x44 then 0xFFFFFFFF#32  -- Mem_Win_Base_H
  else if off = 0x48 then 0xFFFFFFFF#32  -- Mem_Win_Mask_L
  else if off = 0x4C then 0xFFFFFFFF#32  -- Mem_Win_Mask_H
  else if off = 0x50 then 0xFFFFF00E#32  -- PCI_Hit0_Sel_L
  else if off = 0x54 then 0xFFFFFFFF#32  -- PCI_Hit0_Sel_H
  else if off = 0x58 then 0xFFFFF00E#32  -- PCI_Hit1_Sel_L
  else if off = 0x5C then 0xFFFFFFFF#32  -- PCI_Hit1_Sel_H
  else if off = 0x60 then 0xFFFFF00E#32  -- PCI_Hit2_Sel_L
  else if off = 0x64 then 0xFFFFFFFF#32  -- PCI_Hit2_Sel_H
  else if off = 0x68 then 0x00FFFFFF#32  -- PXArb_Config
  else if off = 0x80 then 0x000007FF#32  -- Chip_Config0
  else if off = 0x84 then 0x0001FFFF#32  -- Pad1v8_Ctrl
  else if off = 0x88 then 0x000007FF#32  -- Pad3v3_Ctrl
  else if off = 0xA0 then 0x000007FF#32  -- OV_Ctrl
  else if off = 0xA4 then 0x003FFFFF#32  -- OV_Ori_Size
  else if off = 0xA8 then 0x003FFFFF#32  -- OV_Zoom_Size
  else if off = 0xAC then 0xFFFFFFFF#32  -- OV_Fb_Base
  else if off = 0xB0 then 0xFFFFFFFF#32  -- OV_Fb_Stride
  else if off = 0xB4 then 0x0FFFFFFF#32  -- OV_Hor_Zoom1
  else if off = 0xB8 then 0x1FFFFFFF#32  -- OV_Hor_Zoom2
  else if off = 0xBC then 0x0001FFFF#32  -- OV_Ver_Zoom
  else if off = 0xC0 then 0x00001FFF#32  -- OV_X_Pos
  else if off = 0xC4 then 0x000007FF#32  -- OV_X_Width
  else if off = 0xC8 then 0xFFFFFFFF#32  -- OV_Fb_Base
  else if off = 0xCC then 0xFFFFFFFF#32  -- OV_Fb_Mask
  else 0#32

/-- A read of the IO control register at word offset `off` in step `q` (R641, R646). GPIO_Data shows the environment's
lines in 19:16, whatever GPIO_EN and gpio_out hold (DESIGN CHOICE, log 11). Intenset and Intenclr are write-only: their
bits 10:0 read as free values, the reserved bits as 0. Intisr shows the active sources, free for those not enabled. The
offsets table 11-5 does not list, 0xD0 to 0xFF among them, read 0 (DESIGN CHOICE, log 11). -/
def Bus.ioRead (b : Bus) (q off : Nat) : BitVec 32 :=
  if off = 0x1C then b.ioWord 0x1C ||| ((b.lines.extractLsb' 0 4).setWidth 32 <<< 16)
  else if off = 0x30 ∨ off = 0x34 then BitVec.ofNat 32 (anyBytes q (0x1FE00100 + off) 4) &&& 0x000007FF#32
  else if off = 0x3C then
    let shown := b.inten ||| 0x7800#15
    let free := (Config.anyValue .intisr q).setWidth 15
    (b.activeSources &&& (shown ||| free)).setWidth 32
  else b.ioWord off

/-- Store a whole value in the IO register word at byte offset `off`. -/
def Bus.setIoWord (b : Bus) (off : Nat) (v : BitVec 32) : Bus :=
  { b with io := b.io.set ((off / 4) % 64) v (Nat.mod_lt _ (by decide)) }

/-- A write of the `n` low bytes of `v` at byte `sub` of the IO control register at word offset `off`. Intenset enables
the sources whose bit is 1, Intenclr disables them and clears their recorded pulses (R641); its reserved bits 14:11 clear
the recorded pulses of the INTn pins too (DESIGN CHOICE, log 13). -/
def Bus.ioWrite (b : Bus) (off sub n : Nat) (v : Word) : Bus :=
  if off = 0x30 then b.setIoWord 0x38 (b.ioWord 0x38 ||| (word32Put 0#32 sub n v &&& 0x000007FF#32))
  else if off = 0x34 then
    let clr := word32Put 0#32 sub n v
    { b.setIoWord 0x38 (b.ioWord 0x38 &&& ~~~clr) with pulses := b.pulses &&& ~~~(clr.setWidth 15) }
  else
    let new := word32Put (b.ioWord off) sub n v
    let mask := ioWritable b.intsteerOffset off
    b.setIoWord off ((b.ioWord off &&& ~~~mask) ||| (new &&& mask))

/-! The PCI header: plain storage (R620, R657; log 11). -/

/-- The PCI header word at byte offset `off`. -/
def Bus.pciWord (b : Bus) (off : Nat) : BitVec 32 := b.pciHeader[(off / 4) % 64]'(Nat.mod_lt _ (by decide))

/-- A write of the `n` low bytes of `v` at byte `sub` of the PCI header word at offset `off`. -/
def Bus.pciWrite (b : Bus) (off sub n : Nat) (v : Word) : Bus :=
  { b with pciHeader := b.pciHeader.set ((off / 4) % 64) (word32Put (b.pciWord off) sub n v) (Nat.mod_lt _ (by decide)) }

end Sys2Proof.Machine
end

