-- ==== Sys2Proof/Machine/Bus.lean ====
section
/-! DEFINITION. Physical accesses: memory, devices, the gather buffer and the three caches (20_memory.md R100 to R143,
10_state.md R60, R61, 47_cp0.md R396). The functions take the step number `q`, to which free values are applied, and
touch only `Bus`. -/

namespace Sys2Proof.Machine

/-- What a physical access or a CACHE operation answers: a value and the bus after it, a bus error, or a stop. -/
inductive BusResult (α : Type) where
  | ok (value : α) (bus : Bus)
  | busError
  | stop (f : Fault)
  deriving DecidableEq, Repr

/-- Go on with the value and the bus of a result. -/
def BusResult.andThen {α γ : Type} (r : BusResult α) (f : α → Bus → BusResult γ) : BusResult γ :=
  match r with
  | .ok a b => f a b
  | .busError => .busError
  | .stop e => .stop e

/-! Uncached physical accesses (R125; 61_platform_devices.md R605, R609). -/

/-- Whether a register space of words takes an access of `n` bytes at `pa`: a byte, or an aligned halfword or word. What a
left or right access of 3, 5, 6 or 7 bytes (40_load_store.md R213) does there is not stated: R605 names words, halfwords and
bytes (DESIGN CHOICE, log 11). -/
def narrowWidth (pa n : Nat) : Bool := (n = 1 || n = 2 || n = 4) && pa % n = 0

/-- Read `n` bytes at physical address `pa`, inside one aligned doubleword. -/
def Bus.physRead (b : Bus) (q pa n : Nat) : BusResult Word :=
  match b.regionOf pa with
  | .ram | .rom => .ok (BitVec.ofNat 64 (memRead b.mem pa n)) b
  | .ddr => .ok (wordGet (b.ddrRead q (pa - 0x0FFFFE00)) (pa % 8) n) b
  | .window => .ok (wordGet (b.windowReg (pa - 0x3FF00000)) (pa % 8) n) b
  | .pciHeader =>
    if narrowWidth pa n then .ok (wordGet ((b.pciWord (pa % 256)).setWidth 64) (pa % 4) n) b else .stop .deviceWidth
  | .io =>
    if narrowWidth pa n then .ok (wordGet ((b.ioRead q (pa % 256 / 4 * 4)).setWidth 64) (pa % 4) n) b
    else .stop .deviceWidth
  | .narrowDevice =>
    if narrowWidth pa n then .ok (BitVec.ofNat 64 (anyBytes q pa n)) b else .stop .deviceWidth
  | .wideDevice => .ok (BitVec.ofNat 64 (anyBytes q pa n)) b
  | .unclaimed => if b.busErrorOnUnclaimed then .busError else .ok 0#64 b

/-- Write the `n` low bytes of `v` at physical address `pa`, inside one aligned doubleword. A write raises no bus error
(60_exceptions.md R553); writes to the ROM, to board devices and to unclaimed addresses are dropped. -/
def Bus.physWrite (b : Bus) (pa n : Nat) (v : Word) : BusResult Unit :=
  match b.regionOf pa with
  | .ram => .ok () { b with mem := memWrite b.mem pa n v.toNat }
  | .rom => .ok () b
  | .ddr => if n = 8 then .ok () (b.ddrWrite (pa - 0x0FFFFE00) v) else .stop .deviceWidth
  | .window => if n = 8 then .ok () (b.windowWrite (pa - 0x3FF00000) v) else .stop .deviceWidth
  | .pciHeader =>
    if narrowWidth pa n then .ok () (b.pciWrite (pa % 256) (pa % 4) n v) else .stop .deviceWidth
  | .io =>
    if narrowWidth pa n then .ok () (b.ioWrite (pa % 256 / 4 * 4) (pa % 4) n v) else .stop .deviceWidth
  | .narrowDevice => if narrowWidth pa n then .ok () b else .stop .deviceWidth
  | .wideDevice => .ok () b
  | .unclaimed => .ok () b

/-- Read the 32-byte block at `pa`, as four doublewords (log 47). -/
def Bus.blockRead (b : Bus) (q pa : Nat) : BusResult Line :=
  (b.physRead q pa 8).andThen fun w0 _ => (b.physRead q (pa + 8) 8).andThen fun w1 _ =>
    (b.physRead q (pa + 16) 8).andThen fun w2 _ => (b.physRead q (pa + 24) 8).andThen fun w3 _ =>
      .ok (lineOfWords w0 w1 w2 w3) b

/-- Write the 32-byte block at `pa`, as four doublewords (log 47). -/
def Bus.blockWrite (b : Bus) (pa : Nat) (d : Line) : BusResult Unit :=
  (b.physWrite pa 8 (lineGet d 0 8)).andThen fun _ b1 => (b1.physWrite (pa + 8) 8 (lineGet d 8 8)).andThen fun _ b2 =>
    (b2.physWrite (pa + 16) 8 (lineGet d 16 8)).andThen fun _ b3 => b3.physWrite (pa + 24) 8 (lineGet d 24 8)

/-! Cache lines (10_state.md R60): addresses, lookup. -/

/-- The set of a primary cache: VA[13:5]. -/
def primarySet (va : Word) : Nat := (va.extractLsb' 5 9).toNat
/-- The tag of a primary cache: PA[39:12]. -/
def primaryTag (pa : PhysAddr) : BitVec 28 := pa.extractLsb' 12 28
/-- The set of the secondary cache: PA[16:5]. -/
def secondarySet (pa : PhysAddr) : Nat := (pa.extractLsb' 5 12).toNat
/-- The tag of the secondary cache: PA[39:17]. -/
def secondaryTag (pa : PhysAddr) : BitVec 23 := pa.extractLsb' 17 23
/-- The byte offset in a line. -/
def lineOffset (pa : PhysAddr) : Nat := (pa.extractLsb' 0 5).toNat
/-- The physical address of the line a primary line holds: its tag above bits 11:5 of its set. -/
def primaryLineAddr (ptag : BitVec 28) (set : Nat) : PhysAddr := ptag ++ BitVec.ofNat 7 set ++ 0#5
/-- The physical address of the line a secondary line holds: its tag above its set. -/
def secondaryLineAddr (tag : BitVec 23) (set : Nat) : PhysAddr := tag ++ BitVec.ofNat 12 set ++ 0#5
/-- The sets of a primary cache that can hold the line at `pa`: the four values of VA[13:12] (R127). -/
def coloursOf (pa : PhysAddr) : List Nat :=
  let low := (pa.extractLsb' 5 7).toNat
  [low, low + 128, low + 256, low + 384]
/-- The slots (set * 4 + way) of a primary cache that can hold the line at `pa`. -/
def primarySlots (pa : PhysAddr) : List Nat :=
  (coloursOf pa).flatMap fun c => [c * 4, c * 4 + 1, c * 4 + 2, c * 4 + 3]

/-- The line in slot `k` of the instruction cache. -/
def Bus.iLine (b : Bus) (k : Nat) : ILine := sparseRead ILine.unwritten b.icache k
/-- The line in slot `k` of the data cache. -/
def Bus.dLine (b : Bus) (k : Nat) : DLine := sparseRead DLine.unwritten b.dcache k
/-- The line in slot `k` of the secondary cache. -/
def Bus.sLine (b : Bus) (k : Nat) : SLine := sparseRead SLine.unwritten b.scache k
/-- Replace the line in slot `k` of the instruction cache. -/
def Bus.setILine (b : Bus) (k : Nat) (l : ILine) : Bus := { b with icache := sparseWrite ILine.unwritten b.icache k l }
/-- Replace the line in slot `k` of the data cache. -/
def Bus.setDLine (b : Bus) (k : Nat) (l : DLine) : Bus := { b with dcache := sparseWrite DLine.unwritten b.dcache k l }
/-- Replace the line in slot `k` of the secondary cache. -/
def Bus.setSLine (b : Bus) (k : Nat) (l : SLine) : Bus := { b with scache := sparseWrite SLine.unwritten b.scache k l }

/-- Whether slot `k` of the instruction cache holds a valid line with this tag. -/
def Bus.iHolds (b : Bus) (tag : BitVec 28) (k : Nat) : Bool := (b.iLine k).v && (b.iLine k).ptag = tag
/-- Whether slot `k` of the data cache holds a valid line with this tag. -/
def Bus.dHolds (b : Bus) (tag : BitVec 28) (k : Nat) : Bool := (b.dLine k).cs ≠ 0#2 && (b.dLine k).ptag = tag
/-- Whether slot `k` of the secondary cache holds a valid line with this tag. -/
def Bus.sHolds (b : Bus) (tag : BitVec 23) (k : Nat) : Bool := (b.sLine k).state ≠ 0#2 && (b.sLine k).tag = tag

/-- The outcome of looking for a line in the four ways of a set: the slot that holds it, if any. -/
inductive Lookup where
  | miss
  | hit (slot : Nat)
  | multiple
  deriving DecidableEq, Repr

/-- Look in the four ways of a set. -/
def lookupSet (set : Nat) (holds : Nat → Bool) : Lookup :=
  match [set * 4, set * 4 + 1, set * 4 + 2, set * 4 + 3].filter holds with
  | [] => .miss
  | [k] => .hit k
  | _ => .multiple

/-- Find the line at `pa` in the secondary cache. -/
def Bus.lookupS (b : Bus) (pa : PhysAddr) : Lookup := lookupSet (secondarySet pa) (b.sHolds (secondaryTag pa))
/-- Find the line at `pa` in the set that `va` selects in the data cache. -/
def Bus.lookupD (b : Bus) (va : Word) (pa : PhysAddr) : Lookup := lookupSet (primarySet va) (b.dHolds (primaryTag pa))
/-- Find the line at `pa` in the set that `va` selects in the instruction cache. -/
def Bus.lookupI (b : Bus) (va : Word) (pa : PhysAddr) : Lookup := lookupSet (primarySet va) (b.iHolds (primaryTag pa))

/-- The data-cache slots of every colour that hold the line at `pa`. -/
def Bus.dCopies (b : Bus) (pa : PhysAddr) : List Nat := (primarySlots pa).filter (b.dHolds (primaryTag pa))

/-- Those of them that are dirty. -/
def Bus.dirtySlots (b : Bus) (pa : PhysAddr) : List Nat := (b.dCopies pa).filter fun k => (b.dLine k).cs = 3#2

/-- The newest content of the line at `pa` that memory does not have: that of a dirty data-cache line, else of a dirty
secondary line. -/
def Bus.dirtyCopy (b : Bus) (pa : PhysAddr) : Option Line :=
  match b.dirtySlots pa with
  | k :: _ => some (b.dLine k).data
  | [] =>
    match b.lookupS pa with
    | .hit j => if (b.sLine j).state = 3#2 then some (b.sLine j).data else none
    | _ => none

/-- A line with the gathered bytes put over it. -/
def UcaBuffer.over (u : UcaBuffer) (d : Line) : Line :=
  (List.range 32).foldl (fun d i => if u.valid.getLsbD i then linePut d i 1 (lineGet u.data i 1) else d) d

/-- The newest content of the line at `pa`, where memory lies there: the gathered bytes over a dirty copy or memory. -/
def Bus.newest (b : Bus) (pa : PhysAddr) : Line :=
  let d := (b.dirtyCopy pa).getD (memLine b.mem (pa.toNat / 32 * 32))
  match b.uca with
  | some u => if u.line = pa.extractLsb' 5 35 then u.over d else d
  | none => d

/-- Whether a data cache holds the line at `pa`, in either level. -/
def Bus.dataCached (b : Bus) (pa : PhysAddr) : Bool := !(b.dCopies pa).isEmpty || b.lookupS pa ≠ .miss

/-! The record of the data accesses (R127, R138; log 16, 17): the model's own. -/

/-- The number of the line at `pa`: PA[39:5]. -/
def lineNumber (pa : PhysAddr) : Nat := pa.toNat / 32

/-- The bit of VA[13:12] in a set of colours. -/
def colourBit (va : Word) : BitVec 4 := 1#4 <<< (va.extractLsb' 12 2).toNat

/-- The record of line `n`. -/
def Bus.historyOf (b : Bus) (n : Nat) : LineHistory := sparseRead LineHistory.none b.history n

/-- Change the record of line `n`. -/
def Bus.record (b : Bus) (n : Nat) (f : LineHistory → LineHistory) : Bus :=
  { b with history := sparseWrite LineHistory.none b.history n (f (b.historyOf n)) }

/-- Change the records of all lines that `p` holds for. -/
def Bus.recordAll (b : Bus) (p : Nat → Bool) (f : LineHistory → LineHistory) : Bus :=
  { b with history := (((b.history.map Prod.fst).filter p).foldl (fun b n => b.record n f) b).history }

/-- After a cached data access of colour `c`. -/
def LineHistory.usedCached (h : LineHistory) (c : BitVec 4) : LineHistory :=
  { h with colours := h.colours ||| c, cached := true }

/-- After an uncached data access. -/
def LineHistory.usedUncached (h : LineHistory) : LineHistory := { h with uncached := true }

/-- After a store to a line that held `d`: until the sequence of R138 has followed, a fetch may see `d`. An entry with the
same content that can be seen no longer than the new one goes. -/
def LineHistory.stored (h : LineHistory) (d : Line) (byCached : Bool) : LineHistory :=
  let new : OldLine := { data := d, uncached := if byCached then some d else .none, pushed := false, colours := 15#4 }
  { h with olds := new :: h.olds.filter fun o => o.data ≠ d || (o.uncached.isSome && o.uncached ≠ new.uncached) }

/-- After an uncached store that changes the line by `put`: no uncached fetch sees the bytes before it. -/
def LineHistory.overwritten (h : LineHistory) (put : Line → Line) : LineHistory :=
  { h with olds := h.olds.map fun o => { o with uncached := o.uncached.map put } }

/-- After a CACHE writeback-invalidate: the first half of the sequence of R138 for every store before it, and the end of a
mixture of attributes. Colours stay: R127 gives no way back for them. -/
def LineHistory.writtenBack (h : LineHistory) : LineHistory :=
  { h with cached := false, uncached := false, olds := h.olds.map fun o => { o with pushed := true } }

/-- After Index Invalidate (I) of the set of colour `c`: the second half of the sequence, where the first has gone before. -/
def OldLine.invalidatedI (o : OldLine) (c : BitVec 4) : OldLine :=
  if o.pushed then { o with colours := o.colours &&& ~~~c } else o

/-- The same for every earlier content of a line; one that no fetch can see any more goes. -/
def LineHistory.invalidatedI (h : LineHistory) (c : BitVec 4) : LineHistory :=
  { h with olds := (h.olds.map fun o => o.invalidatedI c).filter fun o => o.colours ≠ 0#4 }

/-- Whether the line has been accessed cached at another colour than `c`. -/
def LineHistory.otherColour (h : LineHistory) (c : BitVec 4) : Bool := (h.colours &&& ~~~c) ≠ 0#4

/-- Whether the value of a cached read of colour `c` is undefined: the line has been accessed at another colour, or
uncached (R127). -/
def LineHistory.mixedCached (h : LineHistory) (c : BitVec 4) : Bool := h.uncached || h.otherColour c

/-- Record an uncached data access at `pa`. -/
def Bus.usedUncached (b : Bus) (pa : PhysAddr) : Bus := b.record (lineNumber pa) LineHistory.usedUncached

/-- Record an uncached store at `pa` that changes the line by `put`, before it: where memory lies there, with what the line
held. -/
def Bus.storedUncached (b : Bus) (pa : PhysAddr) (put : Line → Line) : Bus :=
  b.record (lineNumber pa) fun h =>
    if b.regionOf pa.toNat = .ram then (h.usedUncached.stored (b.newest pa) false).overwritten put else h.usedUncached

/-- The earlier contents that a cached fetch at `va` of the line at `pa` may see: those for which the sequence of R138 at
its set is not complete. -/
def Bus.oldLines (b : Bus) (va : Word) (pa : PhysAddr) : List Line :=
  ((b.historyOf (lineNumber pa)).olds.filter fun o => o.colours &&& colourBit va ≠ 0#4).map OldLine.data

/-- The earlier contents that an uncached fetch of the line may see: those before a cached store that the sequence of R138
at no set has followed. Code stored and fetched uncached needs no sequence. -/
def Bus.oldLinesUncached (b : Bus) (pa : PhysAddr) : List Line :=
  ((b.historyOf (lineNumber pa)).olds.filter fun o => o.colours = 15#4).filterMap OldLine.uncached

/-! Writing back and replacing lines (R126, 47_cp0.md R389, R390, R396). -/

/-- Invalidate every instruction-cache copy of the line at `pa`. -/
def Bus.invalidateI (b : Bus) (pa : PhysAddr) : Bus :=
  let drop (b : Bus) (k : Nat) : Bus :=
    if b.iHolds (primaryTag pa) k then b.setILine k { b.iLine k with v := false } else b
  { b with icache := ((primarySlots pa).foldl drop b).icache }

/-- Invalidate the data-cache line in slot `k`, without writing back. -/
def Bus.invalidateD (b : Bus) (k : Nat) : Bus := b.setDLine k { b.dLine k with cs := 0#2 }

/-- Write the dirty data-cache line in slot `k` to its secondary line, which becomes dirty (log 15 where there is
none). The W bit becomes 1 (R60). -/
def Bus.writebackD (b : Bus) (k : Nat) : BusResult Unit :=
  let l := b.dLine k
  match b.lookupS (primaryLineAddr l.ptag (k / 4)) with
  | .hit j =>
    .ok () ((b.setSLine j { b.sLine j with state := 3#2, data := l.data }).setDLine k { l with cs := 2#2, w := true })
  | .miss => .stop .cacheInclusion
  | .multiple => .stop .cacheMultipleHit

/-- Write back the data-cache line in slot `k` if it is dirty, then invalidate it (47_cp0.md R389). -/
def Bus.flushD (b : Bus) (k : Nat) : BusResult Unit :=
  if (b.dLine k).cs = 3#2 then (b.writebackD k).andThen fun _ b1 => .ok () (b1.invalidateD k)
  else .ok () (b.invalidateD k)

/-- Flush each of a list of data-cache slots in turn. -/
def Bus.flushAllD (b : Bus) : List Nat → BusResult Unit
  | [] => .ok () b
  | k :: ks => (b.flushD k).andThen fun _ b1 => b1.flushAllD ks

/-- Write back and invalidate the secondary line in slot `j`: first its primary copies go, a dirty one merging into
it, then the block is written to memory if it is dirty (47_cp0.md R390). -/
def Bus.flushS (b : Bus) (j : Nat) : BusResult Unit :=
  let l := b.sLine j
  if l.state = 0#2 then .ok () b
  else
    let pa := secondaryLineAddr l.tag (j / 4)
    (b.flushAllD (b.dCopies pa)).andThen fun _ b1 =>
      let m := b1.sLine j
      let b2 := (b1.invalidateI pa).setSLine j { m with state := 0#2 }
      if m.state = 3#2 then b2.blockWrite pa.toNat m.data else .ok () b2

/-- The state of a clean line after a refill: shared or exclusive, which is not stated (log 14). -/
def cleanState (cache : CacheArray) (q : Nat) : BitVec 2 :=
  if (Config.anyValue (.refillState cache) q).getLsbD 0 then 2#2 else 1#2

/-- The way a refill takes: random (10_state.md R60). -/
def freeWay (cache : CacheArray) (q : Nat) : Nat := (Config.anyValue (.refillWay cache) q).toNat % 4

/-- Bring the line at `pa` into the secondary cache if it is not there, and answer its slot (R126). -/
def Bus.fillS (b : Bus) (q : Nat) (pa : PhysAddr) : BusResult Nat :=
  match b.lookupS pa with
  | .hit j => .ok j b
  | .multiple => .stop .cacheMultipleHit
  | .miss =>
    (b.blockRead q (pa.toNat / 32 * 32)).andThen fun d b1 =>
      let j := secondarySet pa * 4 + freeWay .secondary q
      (b1.flushS j).andThen fun _ b2 =>
        .ok j (b2.setSLine j { tag := secondaryTag pa, state := cleanState .secondary q, data := d })

/-- Bring the line at `pa` into the set of the data cache that `va` selects if it is not there, and answer its slot. The W
bit of the line becomes 0: R60 says only that a write-back sets it (DESIGN CHOICE, log 14). -/
def Bus.fillD (b : Bus) (q : Nat) (va : Word) (pa : PhysAddr) : BusResult Nat :=
  match b.lookupD va pa with
  | .hit k => .ok k b
  | .multiple => .stop .cacheMultipleHit
  | .miss =>
    (b.fillS q pa).andThen fun j b1 =>
      let k := primarySet va * 4 + freeWay .data q
      (b1.flushD k).andThen fun _ b2 =>
        .ok k (b2.setDLine k { cs := cleanState .data q, ptag := primaryTag pa, scway := BitVec.ofNat 2 j, w := false,
                               data := (b2.sLine j).data })

/-! Undefined values (R127; log 16). -/

/-- Put the `n` low bytes of `v` at `pa` into every cached copy of its line, in the data cache and the secondary cache. -/
def Bus.overwrite (b : Bus) (pa : PhysAddr) (n : Nat) (v : Word) : Bus :=
  let b1 := (b.dCopies pa).foldl
    (fun b k => b.setDLine k { b.dLine k with data := linePut (b.dLine k).data (lineOffset pa) n v }) b
  match b1.lookupS pa with
  | .hit j => b1.setSLine j { b1.sLine j with data := linePut (b1.sLine j).data (lineOffset pa) n v }
  | _ => b1

/-- Make the `n` bytes at `pa` free in every cached copy. -/
def Bus.poison (b : Bus) (q : Nat) (pa : PhysAddr) (n : Nat) : Bus :=
  b.overwrite pa n (BitVec.ofNat 64 (anyBytes q pa.toNat n))

/-- Change the line at `pa` a doubleword at a time: `f` is given each doubleword's address and byte offset. -/
def Bus.eachDoubleword (b : Bus) (pa : PhysAddr) (f : Bus → PhysAddr → Nat → Bus) : Bus :=
  [0, 8, 16, 24].foldl (fun b off => f b (pa.extractLsb' 5 35 ++ BitVec.ofNat 5 off) off) b

/-- After a cached access: if the line has been accessed at another colour, its cached copies become free, so that no later
read of any of them is determinate either. A copy that a prefetch brought to another colour does not count (R201). -/
def Bus.confuse (b : Bus) (q : Nat) (va : Word) (pa : PhysAddr) : Bus :=
  if (b.historyOf (lineNumber pa)).otherColour (colourBit va) then b.eachDoubleword pa fun b p _ => b.poison q p 8 else b

/-- What an uncached store of the `n` low bytes of `v` at `pa` does to cached copies it goes past: where the line has been
accessed cached since its last writeback-invalidate, the bytes become free in them. Else the copies take the bytes: a line
that a prefetch brought is not visible (40_load_store.md R201), a fetch may see the new word (R138), and a line that a
writeback-invalidate has left in the secondary cache is no mixture of attributes (R127). -/
def Bus.passCopies (b : Bus) (q : Nat) (pa : PhysAddr) (n : Nat) (v : Word) : Bus :=
  if (b.historyOf (lineNumber pa)).cached then b.poison q pa n
  else if b.regionOf pa.toNat = .ram then b.overwrite pa n v
  else b

/-! Data accesses of the core (R117, R124 to R128). `va` indexes the primary cache; `pa` is the address of the first
byte touched. -/

/-- Write the `n` low bytes of `v` at `pa`, past the cached copies (R127; log 16). -/
def Bus.writePast (b : Bus) (q : Nat) (pa : PhysAddr) (n : Nat) (v : Word) : BusResult Unit :=
  (b.physWrite pa.toNat n v).andThen fun _ b1 => .ok () (b1.passCopies q pa n v)

/-- Uncached store of `n` bytes (R125). -/
def Bus.uncachedWrite (b : Bus) (q : Nat) (pa : PhysAddr) (n : Nat) (v : Word) : BusResult Unit :=
  (b.storedUncached pa (linePut · (lineOffset pa) n v)).writePast q pa n v

/-- Write the valid ones of the bytes `i` to 31 of a gathered line, one by one in rising order (R128; log 19). They are in
the record since their stores: a drain is no store of the program. -/
def Bus.drainBytes (b : Bus) (q : Nat) (u : UcaBuffer) : Nat → BusResult Unit
  | 0 => .ok () b
  | n + 1 =>
    let i := 31 - n
    if u.valid.getLsbD i then
      (b.writePast q (u.line ++ BitVec.ofNat 5 i) 1 (lineGet u.data i 1)).andThen fun _ b1 => b1.drainBytes q u n
    else b.drainBytes q u n

/-- Empty the gather buffer, byte by byte (R128). -/
def Bus.drain (b : Bus) (q : Nat) : BusResult Unit :=
  match b.uca with
  | none => .ok () b
  | some u => { b with uca := none }.drainBytes q u 32

/-- Empty it if it holds bytes of the line at `pa`: an access or a fetch that R128 does not name finds earlier stores in memory
too (DESIGN CHOICE, log 19). -/
def Bus.drainLine (b : Bus) (q : Nat) (pa : PhysAddr) : BusResult Unit :=
  match b.uca with
  | some u => if u.line = pa.extractLsb' 5 35 then b.drain q else .ok () b
  | none => .ok () b

/-- Cached load: from the data cache, filling it first. The value is free where the line has been accessed uncached or at
another colour (R127; log 16). -/
def Bus.cachedRead (b : Bus) (q : Nat) (va : Word) (pa : PhysAddr) (n : Nat) : BusResult Word :=
  (b.drainLine q pa).andThen fun _ b0 => (b0.fillD q va pa).andThen fun k b1 =>
    let b2 := b1.confuse q va pa
    let v := if (b2.historyOf (lineNumber pa)).mixedCached (colourBit va) then BitVec.ofNat 64 (anyBytes q pa.toNat n)
      else lineGet (b2.dLine k).data (lineOffset pa) n
    .ok v (b2.record (lineNumber pa) fun h => h.usedCached (colourBit va))

/-- Cached store: into the data cache, filling it first; the line becomes dirty. Its W bit becomes 0: R60 says only that a
write-back sets it (DESIGN CHOICE, log 14). -/
def Bus.cachedWrite (b : Bus) (q : Nat) (va : Word) (pa : PhysAddr) (n : Nat) (v : Word) : BusResult Unit :=
  (b.drainLine q pa).andThen fun _ b0 => (b0.fillD q va pa).andThen fun k b1 =>
    let l := b1.dLine k
    let b2 := (b1.setDLine k { l with cs := 3#2, w := false, data := linePut l.data (lineOffset pa) n v }).confuse q va pa
    .ok () (b2.record (lineNumber pa) fun h => (h.usedCached (colourBit va)).stored l.data true)

/-- The bits of the `n` bytes from offset `off` of a line. -/
def validBits (off n : Nat) : BitVec 32 := BitVec.ofNat 32 ((2 ^ n - 1) * 2 ^ off)

/-- Keep the gathered bytes `u` of the line at `pa`, or write them as a block where they fill the line (R128). -/
def Bus.keepGathered (b : Bus) (q : Nat) (pa : PhysAddr) (u : UcaBuffer) : BusResult Unit :=
  if u.valid = BitVec.allOnes 32 then
    ({ b with uca := none }.blockWrite (u.line ++ 0#5).toNat u.data).andThen fun _ b1 =>
      .ok () (b1.eachDoubleword pa fun b p off => b.passCopies q p 8 (lineGet u.data off 8))
  else .ok () { b with uca := some u }

/-- Uncached-accelerated store: gather it; a store to another line first drains the buffer (R128; log 19). The record has it as
a store of its own, so that its bytes are new from then on. -/
def Bus.gather (b : Bus) (q : Nat) (pa : PhysAddr) (n : Nat) (v : Word) : BusResult Unit :=
  let line := pa.extractLsb' 5 35
  let into (b : Bus) (u : UcaBuffer) : BusResult Unit :=
    (b.storedUncached pa (linePut · (lineOffset pa) n v)).keepGathered q pa
      { u with valid := u.valid ||| validBits (lineOffset pa) n, data := linePut u.data (lineOffset pa) n v }
  match b.uca with
  | some u =>
    if u.line = line then into b u
    else (b.drain q).andThen fun _ b1 => into b1 { line := line, valid := 0#32, data := 0#256 }
  | none => into b { line := line, valid := 0#32, data := 0#256 }

/-- Whether memory has the newest of the `n` bytes at `pa`, which read as `v` there. -/
def Bus.upToDate (b : Bus) (pa : PhysAddr) (n : Nat) (v : Word) : Bool :=
  match b.dirtyCopy pa with
  | some l => lineGet l (lineOffset pa) n = v
  | none => true

/-- Uncached load: drains the gather buffer, then reads. The value is free where the line has been accessed cached since its
last writeback-invalidate, and where a dirty copy holds bytes that have not reached memory (R127, R128; log 16). -/
def Bus.uncachedRead (b : Bus) (q : Nat) (pa : PhysAddr) (n : Nat) : BusResult Word :=
  (b.drain q).andThen fun _ b1 =>
    (b1.physRead q pa.toNat n).andThen fun v b2 =>
      let free := (b2.historyOf (lineNumber pa)).cached || !b2.upToDate pa n v
      .ok (if free then BitVec.ofNat 64 (anyBytes q pa.toNat n) else v) (b2.usedUncached pa)

/-- The cache attribute codes: 3 is cacheable, 7 uncached accelerated, every other code uncached (10_state.md R29). -/
inductive Attr where
  | uncached | cached | accelerated
  deriving DecidableEq, Repr

/-- The attribute of a code. -/
def attrOf (c : BitVec 3) : Attr := if c = 3#3 then .cached else if c = 7#3 then .accelerated else .uncached

/-- A data read of `n` bytes with cache attribute `c`. -/
def Bus.dataRead (b : Bus) (q : Nat) (c : BitVec 3) (va : Word) (pa : PhysAddr) (n : Nat) : BusResult Word :=
  match attrOf c with
  | .cached => b.cachedRead q va pa n
  | _ => b.uncachedRead q pa n

/-- A data write of `n` bytes with cache attribute `c`. -/
def Bus.dataWrite (b : Bus) (q : Nat) (c : BitVec 3) (va : Word) (pa : PhysAddr) (n : Nat) (v : Word) :
    BusResult Unit :=
  match attrOf c with
  | .cached => b.cachedWrite q va pa n v
  | .accelerated => b.gather q pa n v
  | .uncached => (b.drain q).andThen fun _ b1 => b1.uncachedWrite q pa n v

/-! Instruction fetch (R138; log 17). -/

/-- The line an instruction-cache refill takes at `pa`, where `d` is its secondary line: the newest, that of a dirty
data-cache copy where there is one. -/
def Bus.refillLine (b : Bus) (pa : PhysAddr) (d : Line) : Line :=
  match b.dirtySlots pa with
  | k :: _ => (b.dLine k).data
  | [] => d

/-- Cached fetch. A fetch of a stored-to location returns an old or the new word: an earlier content of the line may be
seen until the sequence of R138, and a hit may be passed over for a refill with the newest content. -/
def Bus.fetchCached (b : Bus) (q : Nat) (va : Word) (pa : PhysAddr) : BusResult (BitVec 32) :=
  (b.drainLine q pa).andThen fun _ b =>
  let refill (k : Nat) : BusResult (BitVec 32) :=
    (b.fillS q pa).andThen fun j b1 =>
      let d := b1.refillLine pa (b1.sLine j).data
      .ok ((lineGet d (lineOffset pa) 4).setWidth 32) (b1.setILine k { v := true, ptag := primaryTag pa, data := d })
  match (b.oldLines va pa)[Config.anyNat .fetchSeesOld q]? with
  | some d => .ok ((lineGet d (lineOffset pa) 4).setWidth 32) b
  | none =>
    match b.lookupI va pa with
    | .hit k =>
      if (Config.anyValue .fetchIgnoresHit q).getLsbD 0 then refill k
      else .ok ((lineGet (b.iLine k).data (lineOffset pa) 4).setWidth 32) b
    | .multiple => .stop .cacheMultipleHit
    | .miss => refill (primarySet va * 4 + freeWay .instruction q)

/-- Uncached fetch. It drains the gather buffer when the line is in it. The word is the newest, in memory or in a dirty copy,
or after a cached store, until the sequence of R138, an old one. -/
def Bus.fetchUncached (b : Bus) (q : Nat) (pa : PhysAddr) : BusResult (BitVec 32) :=
  (b.drainLine q pa).andThen fun _ b0 => (b0.physRead q pa.toNat 4).andThen fun v b1 =>
    let seen := (b1.oldLinesUncached pa)[Config.anyNat .fetchSeesOld q]?.or (b1.dirtyCopy pa)
    .ok (((seen.map fun l => lineGet l (lineOffset pa) 4).getD v).setWidth 32) b1

/-- The word an instruction fetch with cache attribute `c` delivers. -/
def Bus.fetchWord (b : Bus) (q : Nat) (c : BitVec 3) (va : Word) (pa : PhysAddr) : BusResult (BitVec 32) :=
  match attrOf c with
  | .cached => b.fetchCached q va pa
  | _ => b.fetchUncached q pa

end Sys2Proof.Machine
end

