-- ==== Sys2Proof/Machine/Tlb.lean ====
section
/-! DEFINITION. Address translation: the segment map, the joint TLB, the instruction TLB (20_memory.md R105 to R123). -/

namespace Sys2Proof.Machine

/-- What a virtual address is in a mode (R111). -/
inductive Segment where
  | addressError
  | unmapped (pa : PhysAddr) (c : BitVec 3)
  | mapped
  deriving DecidableEq, Repr

/-- The segment classification of R111; `k0` is Config.K0. -/
def segmentOf (m : Mode) (k0 : BitVec 3) (va : Word) : Segment :=
  if va.extractLsb' 31 33 = BitVec.allOnes 33 then
    let which := va.extractLsb' 29 2
    if which = 0#2 then if m = .kernel then .unmapped ((va.extractLsb' 0 29).setWidth 40) k0 else .addressError
    else if which = 1#2 then if m = .kernel then .unmapped ((va.extractLsb' 0 29).setWidth 40) 2#3 else .addressError
    else if which = 2#2 then if m = .user then .addressError else .mapped
    else if m = .kernel then .mapped else .addressError
  else
    let top := va.extractLsb' 62 2
    if top = 0#2 then if va.extractLsb' 40 22 = 0#22 then .mapped else .addressError
    else if top = 1#2 then if m ≠ .user ∧ va.extractLsb' 40 22 = 0#22 then .mapped else .addressError
    else if top = 2#2 then
      if m = .kernel ∧ va.extractLsb' 40 19 = 0#19 then .unmapped (va.extractLsb' 0 40) (va.extractLsb' 59 3)
      else .addressError
    else if m = .kernel ∧ va < 0xC00000FF80000000#64 then .mapped else .addressError

/-- The number of page-offset bits of a Mask value; none for a value outside the table of 10_state.md R31. -/
def pageShift (mask : BitVec 12) : Option Nat :=
  if mask = 0x000#12 then some 12 else if mask = 0x003#12 then some 14 else if mask = 0x00F#12 then some 16
  else if mask = 0x03F#12 then some 18 else if mask = 0x0FF#12 then some 20 else if mask = 0x3FF#12 then some 22
  else if mask = 0xFFF#12 then some 24 else none

/-- A VPN2 without the bits its Mask excludes from the comparison (R113). -/
def maskedVpn2 (vpn2 : BitVec 27) (mask : BitVec 12) : BitVec 27 := vpn2 &&& ~~~(mask.setWidth 27)

/-- VA[39:13]. -/
def vpn2Of (va : Word) : BitVec 27 := va.extractLsb' 13 27
/-- VA[63:62]. -/
def regionBits (va : Word) : BitVec 2 := va.extractLsb' 62 2

/-- Whether a TLB entry matches (R113): the VPN2 outside its Mask, the region, and the ASID unless it is global. -/
def TlbEntry.holds (e : TlbEntry) (r : BitVec 2) (vpn2 : BitVec 27) (asid : BitVec 8) : Bool :=
  maskedVpn2 e.vpn2 e.mask = maskedVpn2 vpn2 e.mask && e.r = r && (e.g || e.asid = asid)

/-- The outcome of a search of the joint TLB. -/
inductive TlbFind where
  | none
  | one (i : Fin 64)
  | multiple
  deriving DecidableEq, Repr

/-- Search the joint TLB. -/
def tlbFind (tlb : Vector TlbEntry 64) (r : BitVec 2) (vpn2 : BitVec 27) (asid : BitVec 8) : TlbFind :=
  match (List.finRange 64).filter (fun i => tlb[i].holds r vpn2 asid) with
  | [] => .none
  | [i] => .one i
  | _ => .multiple

/-- EntryHi.ASID. -/
def State.asid (s : State) : BitVec 8 := s.cp0.entryHi.extractLsb' 0 8

/-- PageMask.Mask. -/
def State.pageMaskField (s : State) : BitVec 12 := s.cp0.pageMask.extractLsb' 13 12

/-- Whether `va` lies in the odd page of its pair, for a page of `2 ^ shift` bytes (R114). -/
def oddPageOf (va : Word) (shift : Nat) : Bool := va.getLsbD shift

/-- The physical address of `va` in a page of `2 ^ shift` bytes with frame `pfn` (R114); low frame bits inside the page
offset are ignored. -/
def pageAddr (pfn : BitVec 28) (shift : Nat) (va : Word) : PhysAddr :=
  let offset : PhysAddr := BitVec.ofNat 40 (2 ^ shift - 1)
  ((pfn ++ 0#12) &&& ~~~offset) ||| (va.setWidth 40 &&& offset)

/-- What a translation answers: a physical address with its cache attribute code, an exception, or a stop. -/
inductive Translation where
  | ok (pa : PhysAddr) (c : BitVec 3)
  | exc (e : Exc)
  | stop (f : Fault)
  deriving DecidableEq, Repr

/-- Translate a data address (R118 steps 2 to 4). `store` selects the store forms of the exceptions and the D check;
the CACHE instruction translates as a load. -/
def State.translateData (s : State) (store : Bool) (va : Word) : Translation :=
  match modeOf s.cp0.status with
  | none => .stop .ksuReserved
  | some m =>
    match segmentOf m s.cp0.k0 va with
    | .addressError => .exc (.addressError store va)
    | .unmapped pa c => .ok pa c
    | .mapped =>
      match tlbFind s.tlb (regionBits va) (vpn2Of va) s.asid with
      | .none => .exc (.tlbRefill store va)
      | .multiple => .stop .tlbMultipleMatch
      | .one i =>
        let e := s.tlb[i]
        match pageShift e.mask with
        | none => .stop .tlbMaskIllegal
        | some shift =>
          let p := if oddPageOf va shift then e.odd else e.even
          if !p.v then .exc (.tlbInvalid store va)
          else if store && !p.d then .exc (.tlbModified va)
          else .ok (pageAddr p.pfn shift va) p.c

/-- What the translation of a fetch answers; a success carries the instruction TLB after it. -/
inductive FetchTranslation where
  | ok (pa : PhysAddr) (c : BitVec 3) (itlb : List ItlbEntry)
  | exc (e : Exc)
  | stop (f : Fault)
  deriving DecidableEq, Repr

/-- Whether a recorded fetch translation matches `va` under the current ASID (R123; log 18). -/
def ItlbEntry.holds (e : ItlbEntry) (va : Word) (asid : BitVec 8) : Bool :=
  maskedVpn2 e.vpn2 e.mask = maskedVpn2 (vpn2Of va) e.mask && e.r = regionBits va && (e.g || e.asid = asid) &&
    match pageShift e.mask with
    | some shift => oddPageOf va shift == e.oddPage
    | none => false

/-- Fetch through a page whose translation is known to be valid: the Mask must be PageMask (R121), and E forbids
execution (R115). -/
def State.fetchPage (s : State) (mask : BitVec 12) (p : TlbPage) (itlb : List ItlbEntry) : FetchTranslation :=
  match pageShift mask with
  | none => .stop .tlbMaskIllegal
  | some shift =>
    if mask ≠ s.pageMaskField then .stop .tlbMaskMixed
    else if p.e then .exc (.addressError false s.pc)
    else .ok (pageAddr p.pfn shift s.pc) p.c itlb

/-- Translate a mapped fetch through the joint TLB (R118), recording the translation it uses (R123). Only the
translation of a fetch that translates is recorded: one that ends in an exception (V = 0, or E = 1) leaves nothing in
the set, which R59 and R123 leave open (DESIGN CHOICE, log 18). -/
def State.fetchThroughJtlb (s : State) : FetchTranslation :=
  match tlbFind s.tlb (regionBits s.pc) (vpn2Of s.pc) s.asid with
  | .none => .exc (.tlbRefill false s.pc)
  | .multiple => .stop .tlbMultipleMatch
  | .one i =>
    let e := s.tlb[i]
    match pageShift e.mask with
    | none => .stop .tlbMaskIllegal
    | some shift =>
      let odd := oddPageOf s.pc shift
      let p := if odd then e.odd else e.even
      let used : ItlbEntry :=
        { mask := e.mask, r := e.r, vpn2 := e.vpn2, g := e.g, asid := e.asid, oddPage := odd, page := p }
      if !p.v then .exc (.tlbInvalid false s.pc)
      else s.fetchPage e.mask p (if used ∈ s.itlb then s.itlb else used :: s.itlb)

/-- Translate the fetch at pc (R118, R123): a mapped fetch is served by some matching recorded translation or by the
joint TLB, and which is free. -/
def State.translateFetch (s : State) : FetchTranslation :=
  match modeOf s.cp0.status with
  | none => .stop .ksuReserved
  | some m =>
    match segmentOf m s.cp0.k0 s.pc with
    | .addressError => .exc (.addressError false s.pc)
    | .unmapped pa c => .ok pa c s.itlb
    | .mapped =>
      match (s.itlb.filter fun e => e.holds s.pc s.asid)[Config.anyNat .itlbChoice s.seq]? with
      | some e => s.fetchPage e.mask e.page s.itlb
      | none => s.fetchThroughJtlb

end Sys2Proof.Machine
end

