-- ==== Sys2Proof/Machine/Ops.lean ====
section
/-! DEFINITION. The named operations the meanings share: finishing an instruction, taking an exception and returning
from one, branches, loads and stores, access to the CP0 registers (44_jump_branch.md R306, 60_exceptions.md R540,
40_load_store.md R200, 47_cp0.md R375 to R405). -/

namespace Sys2Proof.Machine

/-! Taking an exception and returning from one. -/

/-- Cause.ExcCode of an exception (10_state.md R40). -/
def Exc.code : Exc → BitVec 5
  | .interrupt => 0#5
  | .tlbModified _ => 1#5
  | .tlbRefill store _ | .tlbInvalid store _ => if store then 3#5 else 2#5
  | .addressError store _ => if store then 5#5 else 4#5
  | .busErrorFetch => 6#5
  | .busErrorData => 7#5
  | .systemCall => 8#5
  | .breakpoint => 9#5
  | .reservedInstruction => 10#5
  | .coprocessorUnusable _ => 11#5
  | .integerOverflow => 12#5
  | .trap => 13#5
  | .floatingPoint => 15#5
  | .watch => 23#5

/-- Whether an exception is a TLB refill, which has a vector of its own (60_exceptions.md R540). -/
def Exc.isRefill : Exc → Bool
  | .tlbRefill _ _ => true
  | _ => false

/-- The address a TLB exception records in Context, XContext and EntryHi (R549). -/
def Exc.tlbAddress : Exc → Option Word
  | .tlbModified va | .tlbRefill _ va | .tlbInvalid _ va => some va
  | _ => none

/-- The address an exception records in BadVAddr (R548, R549). -/
def Exc.badAddress : Exc → Option Word
  | .tlbModified va | .tlbRefill _ va | .tlbInvalid _ va | .addressError _ va => some va
  | _ => none

/-- The bits of EntryLo0 and EntryLo1 that hold fields: E, PFN, C, D, V, G (10_state.md R28). -/
def entryLoMask : BitVec 64 := 0x20000003FFFFFFFF#64

/-- What the three TLB exceptions record of the failing address (R549); EntryLo0 and EntryLo1 become free. -/
def recordTlbAddress (c : Cp0) (q : Nat) (va : Word) : Cp0 :=
  { c with
    context := (c.context &&& 0xFFFFFFFFFF800000#64) ||| ((va.extractLsb' 13 19).setWidth 64 <<< 4)
    xcontext := (c.xcontext &&& 0xFFFFFFFE00000000#64) ||| ((va.extractLsb' 62 2).setWidth 64 <<< 31) |||
      ((va.extractLsb' 13 27).setWidth 64 <<< 4)
    entryHi := (va &&& 0xC00000FFFFFFE000#64) ||| (c.entryHi &&& 0xFF#64)
    entryLo0 := Config.anyValue (.entryLo false) q &&& entryLoMask
    entryLo1 := Config.anyValue (.entryLo true) q &&& entryLoMask }

/-- BadVAddr, and for a TLB exception the other address registers, as the exception records them. -/
def recordAddress (c : Cp0) (q : Nat) (e : Exc) : Cp0 :=
  let c1 := match e.badAddress with
    | some va => { c with badVAddr := va }
    | none => c
  match e.tlbAddress with
  | some va => recordTlbAddress c1 q va
  | none => c1

/-- Cause.CE after an exception: the unit for coprocessor unusable, free for the others (R540; log 41). -/
def causeCe (q : Nat) : Exc → BitVec 2
  | .coprocessorUnusable unit => unit
  | _ => (Config.anyValue .causeCe q).setWidth 2

/-- The stored Cause with BD, CE and ExcCode replaced and the software interrupt bits kept. -/
def causeWith (cause : BitVec 32) (bd : Bool) (ce : BitVec 2) (code : BitVec 5) : BitVec 32 :=
  (cause &&& 0x00000300#32) ||| ((BitVec.ofBool bd).setWidth 32 <<< 31) ||| (ce.setWidth 32 <<< 28) |||
    (code.setWidth 32 <<< 2)

/-- Cause.BD, bit 31. -/
def causeBd (cause : BitVec 32) : Bool := cause.getLsbD 31

/-- The base of the exception vectors (R540, R541). -/
def vectorBase (st : BitVec 32) : Word := if statusBev st then 0xFFFFFFFFBFC00200#64 else 0xFFFFFFFF80000000#64

/-- Taking an exception (60_exceptions.md R540, with the address registers of R548 and R549). EPC and BD are written
only while EXL is 0; an instruction in a delay slot leaves the address of its branch. -/
def enterException (e : Exc) (s : State) : State :=
  let st := s.cp0.status
  let first := !statusExl st
  let inSlot := s.delay.isSome
  let c := recordAddress s.cp0 s.seq e
  let epc := if first then (if inSlot then s.pc - 4#64 else s.pc) else c.epc
  let bd := if first then inSlot else causeBd c.cause
  let offset := if first && e.isRefill then 0#64 else 0x180#64
  { s with
    cp0 := { c with epc := epc, cause := causeWith c.cause bd (causeCe s.seq e) e.code, status := st ||| 2#32 }
    pc := vectorBase st + offset
    delay := none }

/-- Raise an exception: the step ends in the state after its entry (R15). -/
def raise (e : Exc) (s : State) : Outcome := .next (enterException e s)

/-- Return from an exception (47_cp0.md R384): to EPC in every case, clearing ERL if it is set, else EXL, and LLbit
(log 40). -/
def returnFromException (s : State) : State :=
  let st := s.cp0.status
  { s with
    cp0 := { s.cp0 with status := if statusErl st then st &&& ~~~4#32 else st &&& ~~~2#32 }
    pc := s.cp0.epc
    delay := none
    llbit := false }

/-! Finishing an instruction (44_jump_branch.md R306). -/

/-- The last instruction address; sequential execution does not go on from it (10_state.md R23, 93 S14; log 21). -/
def lastPc : Word := 0xFFFFFFFFFFFFFFFC#64

/-- Complete an instruction that is no jump or branch: to the recorded target out of a delay slot, else to pc + 4. -/
def advance (s : State) : Outcome :=
  match s.delay with
  | some target => .next { s with pc := target, delay := none }
  | none => if s.pc = lastPc then .fault .pcWrap else .next { s with pc := s.pc + 4#64 }

/-- Complete an instruction whose result goes to a general register. -/
def finishGpr (s : State) (r : RegNum) (v : Word) : Outcome := advance (s.writeGpr r v)

/-- Complete a jump or branch with its target recorded; the delay slot is next. -/
def takeBranch (s : State) (target : Word) : Outcome :=
  if s.pc = lastPc then .fault .pcWrap else .next { s with pc := s.pc + 4#64, delay := some target }

/-- Complete a branch that is not taken: its delay slot executes, then pc + 8 (R306). -/
def fallThrough (s : State) : Outcome := takeBranch s (s.pc + 8#64)

/-- Complete a likely branch that is not taken: its delay slot is nullified (R307). -/
def skipSlot (s : State) : Outcome :=
  if s.pc = lastPc then .fault .pcWrap else .next { s with pc := s.pc + 8#64 }

/-- Execute a jump or branch outside a delay slot (R306; log 21). -/
def outsideSlot (s : State) (k : Outcome) : Outcome :=
  if s.delay.isSome then .refused .branchInDelaySlot else k

/-- A conditional branch at `s`. -/
def branchIf (s : State) (taken : Bool) (imm : BitVec 16) : Outcome :=
  outsideSlot s (if taken then takeBranch s (branchTarget s.pc imm) else fallThrough s)

/-- A conditional likely branch at `s`. -/
def branchLikelyIf (s : State) (taken : Bool) (imm : BitVec 16) : Outcome :=
  outsideSlot s (if taken then takeBranch s (branchTarget s.pc imm) else skipSlot s)

/-- The state with the link in register 31 (R318): pc + 8. No other register but 0 is special (10_state.md R21). -/
def State.link (s : State) : State := s.writeGpr 31#5 (s.pc + 8#64)

/-- A linking branch on register `rs`: rs = 31 is outside the spec, the link is written whether or not the branch is
taken, and `rs` is read before it (R318). -/
def linkingBranch (s : State) (rs : RegNum) (branch : State → Outcome) : Outcome :=
  if rs = 31#5 then .refused .linkOfLinkRegister else branch s.link

/-! Coprocessor usability (30_encoding.md R178). -/

/-- Run a CP0 instruction: in kernel mode or with CU0 = 1, else coprocessor unusable with CE = 0 (47_cp0.md R375). -/
def withCp0 (s : State) (k : Outcome) : Outcome :=
  match modeOf s.cp0.status with
  | none => .fault .ksuReserved
  | some m => if cp0UsableIn m s.cp0.status then k else raise (.coprocessorUnusable 0#2) s

/-- Run a CP1 instruction: with CU1 = 1, else coprocessor unusable with CE = 1 (48_fpu.md R410). -/
def withCp1 (s : State) (k : Outcome) : Outcome :=
  if statusCu1 s.cp0.status then k else raise (.coprocessorUnusable 1#2) s

/-! Loads and stores (40_load_store.md R200, 20_memory.md R118). -/

/-- What a data access answers: a value and the bus after it, an exception, or a stop. -/
inductive MemResult (α : Type) where
  | ok (value : α) (bus : Bus)
  | exc (e : Exc)
  | stop (f : Fault)
  deriving DecidableEq, Repr

/-- A bus result as the result of a data access: a bus error is DBE (R142). -/
def BusResult.toMem {α : Type} : BusResult α → MemResult α
  | .ok a b => .ok a b
  | .busError => .exc .busErrorData
  | .stop f => .stop f

/-- Whether the Watch register matches an access (10_state.md R47, 60_exceptions.md R562). -/
def State.watchHit (s : State) (store : Bool) (va : Word) : Bool :=
  s.cp0.watch.extractLsb' 3 61 = va.extractLsb' 3 61 &&
    (if store then s.cp0.watch.getLsbD 0 else s.cp0.watch.getLsbD 1)

/-- Steps 1 to 5 of R118 for a data access of alignment `align` at `va`, then `k` with the physical address of `va`
and its attribute. -/
def dataAccess {α : Type} (s : State) (store : Bool) (align : Nat) (va : Word)
    (k : PhysAddr → BitVec 3 → BusResult α) : MemResult α :=
  if va.toNat % align ≠ 0 then .exc (.addressError store va)
  else
    match s.translateData store va with
    | .exc e => .exc e
    | .stop f => .stop f
    | .ok pa c =>
      if s.watchHit store va then
        if statusExl s.cp0.status || statusErl s.cp0.status then .stop .watchDeferred else .exc .watch
      else (k pa c).toMem

/-- Load `n` aligned bytes at `va` (MemRead, R14). -/
def loadData (s : State) (va : Word) (n : Nat) : MemResult Word :=
  dataAccess s false n va fun pa c => s.bus.dataRead s.seq c va pa n

/-- Store the `n` low bytes of `v` at `va`, aligned (MemWrite, R14). -/
def storeData (s : State) (va : Word) (n : Nat) (v : Word) : MemResult Unit :=
  dataAccess s true n va fun pa c => s.bus.dataWrite s.seq c va pa n v

/-- Complete a data access with what follows it, or end in its exception or stop. -/
def MemResult.finish {α : Type} (r : MemResult α) (s : State) (k : α → State → Outcome) : Outcome :=
  match r with
  | .ok a b => k a { s with bus := b }
  | .exc e => raise e s
  | .stop f => .fault f

/-- The bus after a load to register 0: the caches may take the line of a cached address, by free choice; an address
that is misaligned or does not translate, a fill that fails and an uncached address are ignored silently, without any
device access (20_memory.md R141, 40_load_store.md R201, 92 D11; log 35). The fill replaces a line as any other fill does, a
dirty one with a write-back, which the spec leaves open (DESIGN CHOICE, log 35). -/
def State.prefetch (s : State) (va : Word) : Bus :=
  if (Config.anyValue .prefetch s.seq).getLsbD 0 then
    match s.translateData false va with
    | .ok pa c =>
      if attrOf c = .cached then
        match s.bus.fillD s.seq va pa with
        | .ok _ b => b
        | _ => s.bus
      else s.bus
    | _ => s.bus
  else s.bus

/-- Complete a load to register 0. A translation that ends in a stop stops it too: D11 waives exceptions, not a lookup that
matches more than one entry (20_memory.md R119, 92 D20; log 23). -/
def loadToZero (s : State) (va : Word) : Outcome :=
  match s.translateData false va with
  | .stop f => .fault f
  | _ => advance { s with bus := s.prefetch va }

/-- A load into a general register. To register 0 it is a prefetch (R141, R201). -/
def loadGpr (s : State) (base rt : RegNum) (offset : BitVec 16) (n : Nat) (extend : Word → Word) : Outcome :=
  if rt = 0#5 then loadToZero s (s.effectiveAddress base offset)
  else (loadData s (s.effectiveAddress base offset) n).finish s fun v s' => finishGpr s' rt (extend v)

/-- A store of the `n` low bytes of `v`. -/
def storeWord (s : State) (base : RegNum) (offset : BitVec 16) (n : Nat) (v : Word) : Outcome :=
  (storeData s (s.effectiveAddress base offset) n v).finish s fun _ s' => advance s'

/-- A linked load: as a load, and LLbit becomes 1; rt = 0 is outside the spec (R214; log 33). -/
def linkedLoad (s : State) (base rt : RegNum) (offset : BitVec 16) (n : Nat) (extend : Word → Word) : Outcome :=
  if rt = 0#5 then .refused .linkedLoadToZero
  else (loadData s (s.effectiveAddress base offset) n).finish s fun v s' =>
    finishGpr { s' with llbit := true } rt (extend v)

/-- A conditional store: the access is translated as a store whether or not LLbit is set, the bytes are stored only if
it is, the register receives LLbit, and LLbit becomes 0 (R226). -/
def conditionalStore (s : State) (base rt : RegNum) (offset : BitVec 16) (n : Nat) : Outcome :=
  let va := s.effectiveAddress base offset
  (dataAccess s true n va fun pa c =>
      if s.llbit then s.bus.dataWrite s.seq c va pa n (s.readGpr rt) else BusResult.ok () s.bus).finish s
    fun _ s' => finishGpr { s' with llbit := false } rt (if s.llbit then 1#64 else 0#64)

/-- The physical address of the byte at offset `off` of the aligned block of `size` bytes around `pa`. -/
def alignedTo (pa : PhysAddr) (size off : Nat) : PhysAddr :=
  BitVec.ofNat 40 (pa.toNat / size * size + off)

/-- The bytes a left form touches in a block of `size` bytes: offset 0 to that of `va` (R213). A left load: `place`
combines the old register with those bytes, the lowest address least significant. -/
def loadLeft (s : State) (base rt : RegNum) (offset : BitVec 16) (size : Nat)
    (place : Nat → Word → Word → Word) : Outcome :=
  if rt = 0#5 then loadToZero s (s.effectiveAddress base offset)
  else
    let va := s.effectiveAddress base offset
    let b := va.toNat % size
    (dataAccess s false 1 va fun pa c => s.bus.dataRead s.seq c va (alignedTo pa size 0) (b + 1)).finish s
      fun v s' => finishGpr s' rt (place b (s.readGpr rt) v)

/-- A right load: it touches the bytes from `va` to the end of its block of `size` bytes (R213). -/
def loadRight (s : State) (base rt : RegNum) (offset : BitVec 16) (size : Nat)
    (place : Nat → Word → Word → Word) : Outcome :=
  if rt = 0#5 then loadToZero s (s.effectiveAddress base offset)
  else
    let va := s.effectiveAddress base offset
    let b := va.toNat % size
    (dataAccess s false 1 va fun pa c => s.bus.dataRead s.seq c va pa (size - b)).finish s
      fun v s' => finishGpr s' rt (place b (s.readGpr rt) v)

/-- A left store: the most significant b + 1 bytes of the `size`-byte value go to offsets 0 to b (R220, R222). -/
def storeLeft (s : State) (base rt : RegNum) (offset : BitVec 16) (size : Nat) : Outcome :=
  let va := s.effectiveAddress base offset
  let b := va.toNat % size
  let v := wordGet (s.readGpr rt) (size - 1 - b) (b + 1)
  (dataAccess s true 1 va fun pa c => s.bus.dataWrite s.seq c va (alignedTo pa size 0) (b + 1) v).finish s
    fun _ s' => advance s'

/-- A right store: the least significant size - b bytes go to offsets b to size - 1 (R221, R223). -/
def storeRight (s : State) (base rt : RegNum) (offset : BitVec 16) (size : Nat) : Outcome :=
  let va := s.effectiveAddress base offset
  let b := va.toNat % size
  (dataAccess s true 1 va fun pa c => s.bus.dataWrite s.seq c va pa (size - b) (s.readGpr rt)).finish s
    fun _ s' => advance s'

/-! The CP0 registers (10_state.md R25 to R56). -/

/-- Cause.IP6 from the performance counters: PerfCtrl.IE and a counter with its top bit set (10_state.md R53). -/
def Cp0.perfOverflow (c : Cp0) : Bool := c.perfCtrl.getLsbD 4 && (c.perfCnt.getLsbD 31 || c.perfCnt.getLsbD 63)

/-- The requests behind Cause.IP[6:2] as their causes stand: external lines 4:0, and the performance counters on bit 5. -/
def State.requests (s : State) : BitVec 6 := BitVec.ofBool s.cp0.perfOverflow ++ s.bus.extLines.extractLsb' 0 5

/-- Clear Cause.IP[6:2]: the requests of the moment are dropped (60_exceptions.md R569). -/
def State.dropRequests (s : State) : State := { s with cp0 := { s.cp0 with dropped := s.requests } }

/-- Cause.IP: 7:2 follow the inputs, the timer and the counters, 1:0 are stored (60_exceptions.md R564). Of the requests on
6:2 those that a reset has dropped do not show (R569; log 24). -/
def State.interruptPending (s : State) : BitVec 8 :=
  let shown := s.requests &&& ~~~s.cp0.dropped
  BitVec.ofBool (s.bus.extLines.getLsbD 5 || s.cp0.timerPending) ++ BitVec.ofBool (shown.getLsbD 4 || shown.getLsbD 5) ++
    shown.extractLsb' 0 4 ++ s.cp0.cause.extractLsb' 8 2

/-- The value Cause reads as. -/
def State.causeValue (s : State) : BitVec 32 :=
  (s.cp0.cause &&& 0xB000037C#32) ||| ((s.interruptPending &&& 0xFC#8).setWidth 32 <<< 8)

/-- The value of CP0 register `n`, a 32-bit register sign-extended (47_cp0.md R376, R378). LLAddr and the reserved
numbers read as free values (log 29), and so do Diagnostic.ITLB and BTB (log 27). -/
def State.readCp0 (s : State) (n : RegNum) : Word :=
  let c := s.cp0
  match n.toNat with
  | 0 => sext32 c.index
  | 1 => c.random.setWidth 64
  | 2 => c.entryLo0
  | 3 => c.entryLo1
  | 4 => c.context
  | 5 => sext32 c.pageMask
  | 6 => c.wired.setWidth 64
  | 8 => c.badVAddr
  | 9 => sext32 c.count
  | 10 => c.entryHi
  | 11 => sext32 c.compare
  | 12 => sext32 c.status
  | 13 => sext32 s.causeValue
  | 14 => c.epc
  | 15 => sext32 Config.prid
  | 16 => sext32 (Config.configFixed ||| c.k0.setWidth 32)
  | 18 => c.watch
  | 20 => c.xcontext
  | 22 => c.diagnostic ||| (Config.anyValue .diagnosticActions s.seq &&& 6#64)
  | 24 => c.perfCtrl
  | 25 => c.perfCnt
  | 28 => sext32 c.tagLo
  | 29 => sext32 c.tagHi
  | 30 => c.errorEpc
  | _ => Config.anyValue .reservedCp0 s.seq

/-- The bits of `new` inside `mask`, the bits of `old` outside it. -/
def mergeBits {w : Nat} (mask old new : BitVec w) : BitVec w := (old &&& ~~~mask) ||| (new &&& mask)

/-- Write `v` to CP0 register `n` (47_cp0.md R377, R385, R405): read-only and reserved fields keep their value, and the
listed side effects happen. Of TagLo and TagHi it writes the fields of figure 5-20 (10_state.md R54, R56; log 26). -/
def State.writeCp0 (s : State) (n : RegNum) (v : Word) : State :=
  let c := s.cp0
  let w := low32 v
  match n.toNat with
  | 0 => { s with cp0 := { c with index := w &&& 0x8000003F#32 } }
  | 2 => { s with cp0 := { c with entryLo0 := v &&& entryLoMask } }
  | 3 => { s with cp0 := { c with entryLo1 := v &&& entryLoMask } }
  | 4 => { s with cp0 := { c with context := mergeBits 0xFFFFFFFFFF800000#64 c.context v } }
  | 5 => { s with cp0 := { c with pageMask := w &&& 0x01FFE000#32 } }
  | 6 => { s with cp0 := { c with wired := w.setWidth 6, random := 63#6 } }
  | 9 => { s with cp0 := { c with count := w } }
  | 10 => { s with cp0 := { c with entryHi := v &&& 0xC00000FFFFFFE0FF#64 } }
  | 11 => { s with cp0 := { c with compare := w, timerPending := false } }
  | 12 => { s with cp0 := { c with status := w &&& 0xF5D0FF1F#32 } }
  | 13 => { s with cp0 := { c with cause := mergeBits 0x00000300#32 c.cause w } }
  | 14 => { s with cp0 := { c with epc := v } }
  | 16 => { s with cp0 := { c with k0 := w.setWidth 3 } }
  | 18 => { s with cp0 := { c with watch := v &&& ~~~4#64 } }
  | 20 => { s with cp0 := { c with xcontext := mergeBits 0xFFFFFFFE00000000#64 c.xcontext v } }
  | 22 => { s with cp0 := { c with diagnostic := v &&& 0x1F1#64 }, itlb := if v.getLsbD 2 then [] else s.itlb }
  | 24 => { s with cp0 := { c with perfCtrl := v &&& 0x1FFF#64 } }
  | 25 => { s with cp0 := { c with perfCnt := v } }
  | 28 => { s with cp0 := { c with tagLo := w &&& 0xFFFFFFF0#32 } }
  | 29 => { s with cp0 := { c with tagHi := w &&& 0x0000000F#32 } }
  | 30 => { s with cp0 := { c with errorEpc := v } }
  | _ => s

end Sys2Proof.Machine
end

