-- ==== Sys2Proof/Machine/Cycle.lean ====
section
/-! DEFINITION. What happens around an instruction: the advance of time, the events between instructions (resets, NMI,
interrupts), the fetch, and words that are no instruction (10_state.md R27, R38, R53, 60_exceptions.md R545 to R568,
70_reset_and_hazards.md R660, R662, 30_encoding.md R175 to R179). -/

namespace Sys2Proof.Machine

/-! Time. Each step begins with a tick; the amounts are free (log 4, 5, 6). -/

/-- Random after a tick: any entry from Wired to 63 (R27). -/
def tickRandom (wired : BitVec 6) (q : Nat) : BitVec 6 :=
  BitVec.ofNat 6 (wired.toNat + Config.anyNat .random q % (64 - wired.toNat))

/-- Whether Count equals Compare at the start of a tick of `n` increments or passes it (R38, 60_exceptions.md R565). -/
def timerMatches (count compare : BitVec 32) (n : Nat) : Bool := (compare - count).toNat ≤ n

/-- Whether the performance counters count in the present mode (R51): one qualifier matches Status. -/
def perfQualified (st : BitVec 32) (ctrl : BitVec 64) : Bool :=
  !statusErl st &&
    if statusExl st then ctrl.getLsbD 0
    else if statusKsu st = 0#2 then ctrl.getLsbD 1
    else if statusKsu st = 1#2 then ctrl.getLsbD 2
    else if statusKsu st = 2#2 then ctrl.getLsbD 3
    else false

/-- The two performance counters after a tick (R52, R53): each grows by a free amount while it counts. -/
def tickPerf (c : Cp0) (q : Nat) : BitVec 64 :=
  if perfQualified c.status c.perfCtrl then
    (c.perfCnt.extractLsb' 32 32 + low32 (Config.anyValue (.perfIncrement 1) q)) ++
      (c.perfCnt.extractLsb' 0 32 + low32 (Config.anyValue (.perfIncrement 0) q))
  else c.perfCnt

/-- The dropped requests after a tick: one whose cause has ended is forgotten, so that the next shows; one whose cause goes
on shows again at a free moment, because a bit follows its line (60_exceptions.md R564; log 24). -/
def State.tickDropped (s : State) (q : Nat) : BitVec 6 :=
  s.cp0.dropped &&& s.requests &&& (Config.anyValue .resetRequest q).setWidth 6

/-- The advance of time before an instruction: the step number, Count and the timer, Random, the performance counters,
and the requests and pulses of the interrupt sources. -/
def State.tick (s : State) : State :=
  let q := s.seq + 1
  let n := Config.anyNat .countIncrement q
  { s with
    seq := q
    cp0 := { s.cp0 with
      count := s.cp0.count + BitVec.ofNat 32 n
      timerPending := s.cp0.timerPending || timerMatches s.cp0.count s.cp0.compare n
      random := tickRandom s.cp0.wired q
      perfCnt := tickPerf s.cp0 q
      dropped := s.tickDropped q }
    bus := s.bus.recordPulses }

/-! Events between instructions (60_exceptions.md R545). -/

/-- Cold reset while running (70_reset_and_hazards.md R660): the state after reset, with ErrorEPC the old pc. Memory,
the environment's inputs, the parameters and the step number go on. Cause.IP[6:2] is 0, whatever the lines; when a line that
stays active shows again is free (log 24). -/
def State.coldReset (s : State) : State :=
  State.dropRequests { State.reset with
    cp0 := { Cp0.reset with errorEpc := s.pc }
    bus := { Bus.reset with
      mem := s.bus.mem, lines := s.bus.lines, lastLines := s.bus.lastLines,
      busErrorOnUnclaimed := s.bus.busErrorOnUnclaimed, physMap := s.bus.physMap,
      intsteerOffset := s.bus.intsteerOffset }
    nmiRequest := s.nmiRequest
    softResetRequest := s.softResetRequest
    seq := s.seq }

/-- What NMI and soft reset do (R662): ErrorEPC is the address of the next instruction, or of its branch; ERL, SR and
BEV are set; BadVAddr becomes free. -/
def State.errorEntry (s : State) : State :=
  { s with
    cp0 := { s.cp0 with
      errorEpc := if s.delay.isSome then s.pc - 4#64 else s.pc
      status := s.cp0.status ||| 0x00500004#32
      badVAddr := Config.anyValue .badVAddr s.seq }
    pc := resetVector
    delay := none }

/-- NMI. -/
def State.nmi (s : State) : State := { s.errorEntry with nmiRequest := false }

/-- Soft reset: as NMI, and Cause.IP[6:2] is cleared (R662, 60_exceptions.md R569, 92 D22): the recorded pulses go, and the
requests of lines that stay active and of the performance counters, whose registers are preserved, are dropped. When one of
these shows again is free (log 24). -/
def State.softReset (s : State) : State :=
  State.dropRequests { s.errorEntry with softResetRequest := false, bus := { s.bus with pulses := 0#15 } }

/-- Whether an interrupt may be taken (60_exceptions.md R563). -/
def State.interruptReady (s : State) : Bool :=
  let st := s.cp0.status
  statusIe st && !statusExl st && !statusErl st && (s.interruptPending &&& statusIm st) ≠ 0#8

/-- What the boundary before an instruction does. -/
inductive Boundary where
  /-- An event takes the step. -/
  | event (s : State)
  /-- An instruction executes. -/
  | run (s : State)
  /-- The state lies outside the spec. -/
  | stop (f : Fault)
  deriving DecidableEq, Repr

/-- The interrupt decision at a boundary (60_exceptions.md R568; log 7): while the condition holds, a free finite
number of instructions runs before the interrupt is taken. -/
def State.sampleInterrupt (s : State) : Boundary :=
  if s.interruptReady then
    match s.irqWait.getD (Config.anyNat .interruptDelay s.seq) with
    | 0 => .event (enterException .interrupt { s with irqWait := none })
    | n + 1 => .run { s with irqWait := some n }
  else .run { s with irqWait := none }

/-- The boundary before an instruction: cold reset, NMI, soft reset, interrupt (60_exceptions.md R545; log 24). A state
whose mode is undefined (KSU = 11 with EXL = ERL = 0) stops before any interrupt or fetch (10_state.md R37, 92 D19;
log 22); the resets and NMI leave it, because they set ERL. -/
def State.boundary (s : State) : Boundary :=
  if s.coldResetRequest then .event s.coldReset
  else if s.nmiRequest then .event s.nmi
  else if s.softResetRequest then .event s.softReset
  else
    match modeOf s.cp0.status with
    | none => .stop .ksuReserved
    | some _ => s.sampleInterrupt

/-! Fetch (20_memory.md R118, R138; 60_exceptions.md R545). -/

/-- What a fetch answers: a word and the state after it, an exception with the state it is taken in, or a stop. -/
inductive Fetched where
  | word (w : BitVec 32) (s : State)
  | exc (e : Exc) (s : State)
  | stop (f : Fault)
  deriving DecidableEq, Repr

/-- Fetch the word at pc: alignment, translation, access. -/
def State.fetch (s : State) : Fetched :=
  if s.pc.toNat % 4 ≠ 0 then .exc (.addressError false s.pc) s
  else
    match s.translateFetch with
    | .exc e => .exc e s
    | .stop f => .stop f
    | .ok pa c itlb =>
      match s.bus.fetchWord s.seq c s.pc pa with
      | .ok w b => .word w { s with itlb := itlb, bus := b }
      | .busError => .exc .busErrorFetch { s with itlb := itlb }
      | .stop f => .stop f

/-- A fetched word that is no instruction (30_encoding.md R178, R179): coprocessor unusable first, then reserved
instruction for the words of R175, else the word is outside the spec. -/
def rejectWord (r : Rejection) (w : BitVec 32) (s : State) : Outcome :=
  let k : Outcome :=
    match r with
    | .reservedInstruction => raise .reservedInstruction s
    | .outsideSpec | .truncated => .refused .outsideSpec
  let op := opField w
  let funct := functField w
  if op = 16#6 ∨ op = 47#6 then withCp0 s k
  else if op = 17#6 ∨ (op = 28#6 ∧ funct.extractLsb' 2 4 = 6#4) then withCp1 s k
  else if op = 18#6 ∧ statusCu2 s.cp0.status = false then raise (.coprocessorUnusable 2#2) s
  else k

/-! Placing a word where the next fetch reads it (log 38). -/

/-- Put the `n` low bytes of `v` at `pa` into the instruction-cache copies. -/
def Bus.patchI (b : Bus) (pa : PhysAddr) (n : Nat) (v : Word) : Bus :=
  ((primarySlots pa).filter (b.iHolds (primaryTag pa))).foldl
    (fun b k => b.setILine k { b.iLine k with data := linePut (b.iLine k).data (lineOffset pa) n v }) b

/-- Put them into the data-cache copies. -/
def Bus.patchD (b : Bus) (pa : PhysAddr) (n : Nat) (v : Word) : Bus :=
  (b.dCopies pa).foldl
    (fun b k => b.setDLine k { b.dLine k with data := linePut (b.dLine k).data (lineOffset pa) n v }) b

/-- Put them into the secondary copy. -/
def Bus.patchS (b : Bus) (pa : PhysAddr) (n : Nat) (v : Word) : Bus :=
  match b.lookupS pa with
  | .hit j => b.setSLine j { b.sLine j with data := linePut (b.sLine j).data (lineOffset pa) n v }
  | _ => b

/-- Put them into the gather buffer if it holds the line. -/
def Bus.patchUca (b : Bus) (pa : PhysAddr) (n : Nat) (v : Word) : Bus :=
  match b.uca with
  | some u =>
    if u.line = pa.extractLsb' 5 35 then { b with uca := some { u with data := linePut u.data (lineOffset pa) n v } }
    else b
  | none => b

/-- Put them into the earlier contents that a fetch may see. -/
def Bus.patchOld (b : Bus) (pa : PhysAddr) (n : Nat) (v : Word) : Bus :=
  b.record (lineNumber pa) fun h => { h with olds := h.olds.map fun o =>
    { o with data := linePut o.data (lineOffset pa) n v, uncached := o.uncached.map (linePut · (lineOffset pa) n v) } }

/-- Put them into every copy. -/
def Bus.patchCopies (b : Bus) (pa : PhysAddr) (n : Nat) (v : Word) : Bus :=
  ((((b.patchI pa n v).patchD pa n v).patchS pa n v).patchUca pa n v).patchOld pa n v

/-- Put a word at a physical address, as loading a program from outside does: into memory, the boot ROM included, and
into any cached copy. -/
def Bus.placeWord (b : Bus) (pa : PhysAddr) (w : BitVec 32) : Bus :=
  let b1 := b.patchCopies pa 4 (w.setWidth 64)
  { b1 with mem := memWrite b1.mem pa.toNat 4 w.toNat }

/-- The physical address the next step fetches from, if its translation succeeds. -/
def State.nextFetchAddr (s : State) : Option PhysAddr :=
  match s.tick.translateFetch with
  | .ok pa _ _ => some pa
  | _ => none

end Sys2Proof.Machine
end

