-- ==== Sys2Proof/Machine/Flags.lean ====
section
/-! DEFINITION. Conditions and flags: integer overflow (41_alu_immediate.md R251), the fields of the floating-point
control and status register, and what an operation's Causes do to it (10_state.md R73 to R77, 48_fpu.md R414, R452). The
integer instructions set no flags (10_state.md R74). -/

namespace Sys2Proof.Machine

/-! Integer overflow: the exact result leaves the two's-complement range (R241, R242, R251). -/

/-- Whether an exact integer lies outside the range of `w`-bit two's complement. -/
def outOfRange (w : Nat) (x : Int) : Bool := x < -(2 ^ (w - 1) : Int) || (2 ^ (w - 1) : Int) ≤ x

/-- Whether a 32-bit addition overflows. -/
def addOverflow32 (a b : BitVec 32) : Bool := outOfRange 32 (a.toInt + b.toInt)
/-- Whether a 32-bit subtraction overflows. -/
def subOverflow32 (a b : BitVec 32) : Bool := outOfRange 32 (a.toInt - b.toInt)
/-- Whether a 64-bit addition overflows. -/
def addOverflow64 (a b : Word) : Bool := outOfRange 64 (a.toInt + b.toInt)
/-- Whether a 64-bit subtraction overflows. -/
def subOverflow64 (a b : Word) : Bool := outOfRange 64 (a.toInt - b.toInt)

/-- The 32-bit sum into register `r`, or integer overflow with nothing written (R241). -/
def addOrOverflow32 (s : State) (r : RegNum) (a b : BitVec 32) : Outcome :=
  if addOverflow32 a b then raise .integerOverflow s else finishGpr s r (sext32 (a + b))
/-- The 64-bit sum into register `r`, or integer overflow with nothing written (R242). -/
def addOrOverflow64 (s : State) (r : RegNum) (a b : Word) : Outcome :=
  if addOverflow64 a b then raise .integerOverflow s else finishGpr s r (a + b)
/-- The 32-bit difference into register `r`, or integer overflow (42_alu_register.md R260). -/
def subOrOverflow32 (s : State) (r : RegNum) (a b : BitVec 32) : Outcome :=
  if subOverflow32 a b then raise .integerOverflow s else finishGpr s r (sext32 (a - b))
/-- The 64-bit difference into register `r`, or integer overflow (42_alu_register.md R261). -/
def subOrOverflow64 (s : State) (r : RegNum) (a b : Word) : Outcome :=
  if subOverflow64 a b then raise .integerOverflow s else finishGpr s r (a - b)

/-- The register value of a comparison. -/
def boolWord (b : Bool) : Word := if b then 1#64 else 0#64

/-! The floating-point control and status register (10_state.md R73). A Causes set is six bits, E V Z O U I from bit 5
down to bit 0; Enables and Flags are the five bits V Z O U I. -/

/-- A Causes set (R73). -/
abbrev FpCauses := BitVec 6

/-- No cause. -/
def causeNone : FpCauses := 0#6
/-- Unimplemented operation. -/
def causeE : FpCauses := 32#6
/-- Invalid operation. -/
def causeV : FpCauses := 16#6
/-- Division by zero. -/
def causeZ : FpCauses := 8#6
/-- Overflow. -/
def causeO : FpCauses := 4#6
/-- Underflow. -/
def causeU : FpCauses := 2#6
/-- Inexact. -/
def causeI : FpCauses := 1#6

/-- FCSR.RM. -/
def fcsrRm (f : BitVec 32) : BitVec 2 := f.extractLsb' 0 2
/-- FCSR.Flags. -/
def fcsrFlags (f : BitVec 32) : BitVec 5 := f.extractLsb' 2 5
/-- FCSR.Enables. -/
def fcsrEnables (f : BitVec 32) : BitVec 5 := f.extractLsb' 7 5
/-- FCSR.Causes. -/
def fcsrCauses (f : BitVec 32) : FpCauses := f.extractLsb' 12 6
/-- FCSR.CC0, bit 23. -/
def fcsrCc0 (f : BitVec 32) : Bool := f.getLsbD 23
/-- FCSR.FS, bit 24. -/
def fcsrFs (f : BitVec 32) : Bool := f.getLsbD 24

/-- The bits of FCSR that hold fields: CC1, FS, CC0, Causes, Enables, Flags, RM (R73, R74). -/
def fcsrMask : BitVec 32 := 0x0383FFFF#32

/-- FCSR with Causes rewritten. -/
def fcsrSetCauses (f : BitVec 32) (c : FpCauses) : BitVec 32 :=
  mergeBits 0x0003F000#32 f (c.setWidth 32 <<< 12)

/-- FCSR with the causes added to Flags; E has no flag. -/
def fcsrAddFlags (f : BitVec 32) (c : FpCauses) : BitVec 32 := f ||| ((c.setWidth 5).setWidth 32 <<< 2)

/-- FCSR with CC0 replaced. -/
def fcsrSetCc0 (f : BitVec 32) (b : Bool) : BitVec 32 :=
  mergeBits 0x00800000#32 f ((BitVec.ofBool b).setWidth 32 <<< 23)

/-- FCSR with CC1 replaced. -/
def fcsrSetCc1 (f : BitVec 32) (b : Bool) : BitVec 32 :=
  mergeBits 0x02000000#32 f ((BitVec.ofBool b).setWidth 32 <<< 25)

/-- Whether a Causes set traps under FCSR's enables: E always, the others when enabled (R75, R414 step 5). -/
def fpTraps (f : BitVec 32) (c : FpCauses) : Bool := c.getLsbD 5 || (c.setWidth 5 &&& fcsrEnables f) ≠ 0#5

/-- End a floating-point operation with its Causes (R414 steps 4 and 5): they are written to FCSR; if they trap nothing
else is, otherwise Flags accumulate and `k` writes the result. All of this is in the instruction's own step, so that the next
instruction finds FCSR and the result: no hazard (48_fpu.md R425, 92_eei_decisions.md D37). -/
def fpComplete (s : State) (c : FpCauses) (k : State → Outcome) : Outcome :=
  let f := fcsrSetCauses s.fcsr c
  if fpTraps f c then raise .floatingPoint { s with fcsr := f } else k { s with fcsr := fcsrAddFlags f c }

end Sys2Proof.Machine
end

