-- ==== Sys2Proof/Machine/AluImm.lean ====
section
/-! DEFINITION. Arithmetic with an immediate operand (41_alu_immediate.md R240 to R250). -/

namespace Sys2Proof.Machine

/-- ADDI (R241): 32-bit sum, integer overflow. -/
def execAddi (rs rt : RegNum) (imm : BitVec 16) (s : State) : Outcome :=
  addOrOverflow32 s rt (low32 (s.readGpr rs)) (low32 (sextImm imm))

/-- DADDI (R242): 64-bit sum, integer overflow. -/
def execDaddi (rs rt : RegNum) (imm : BitVec 16) (s : State) : Outcome :=
  addOrOverflow64 s rt (s.readGpr rs) (sextImm imm)

/-- ADDIU (R243): 32-bit sum, no overflow. -/
def execAddiu (rs rt : RegNum) (imm : BitVec 16) (s : State) : Outcome :=
  finishGpr s rt (sext32 (low32 (s.readGpr rs) + low32 (sextImm imm)))

/-- DADDIU (R244): 64-bit sum, no overflow. -/
def execDaddiu (rs rt : RegNum) (imm : BitVec 16) (s : State) : Outcome :=
  finishGpr s rt (s.readGpr rs + sextImm imm)

/-- SLTI (R245): 64-bit signed comparison. -/
def execSlti (rs rt : RegNum) (imm : BitVec 16) (s : State) : Outcome :=
  finishGpr s rt (boolWord ((s.readGpr rs).slt (sextImm imm)))

/-- SLTIU (R246): 64-bit unsigned comparison with the sign-extended immediate. -/
def execSltiu (rs rt : RegNum) (imm : BitVec 16) (s : State) : Outcome :=
  finishGpr s rt (boolWord ((s.readGpr rs).ult (sextImm imm)))

/-- ANDI (R247). -/
def execAndi (rs rt : RegNum) (imm : BitVec 16) (s : State) : Outcome :=
  finishGpr s rt (s.readGpr rs &&& zextImm imm)

/-- ORI (R248). -/
def execOri (rs rt : RegNum) (imm : BitVec 16) (s : State) : Outcome :=
  finishGpr s rt (s.readGpr rs ||| zextImm imm)

/-- XORI (R249). -/
def execXori (rs rt : RegNum) (imm : BitVec 16) (s : State) : Outcome :=
  finishGpr s rt (s.readGpr rs ^^^ zextImm imm)

/-- LUI (R250): the immediate in bits 31:16, sign-extended. -/
def execLui (rt : RegNum) (imm : BitVec 16) (s : State) : Outcome :=
  finishGpr s rt (sext32 (imm ++ 0#16))

end Sys2Proof.Machine
end

