-- ==== Sys2Proof/Machine/AluReg.lean ====
section
/-! DEFINITION. Three-operand register arithmetic (42_alu_register.md R255 to R269). -/

namespace Sys2Proof.Machine

/-- ADD (R256): 32-bit sum, integer overflow. -/
def execAdd (rs rt rd : RegNum) (s : State) : Outcome :=
  addOrOverflow32 s rd (low32 (s.readGpr rs)) (low32 (s.readGpr rt))

/-- DADD (R257): 64-bit sum, integer overflow. -/
def execDadd (rs rt rd : RegNum) (s : State) : Outcome :=
  addOrOverflow64 s rd (s.readGpr rs) (s.readGpr rt)

/-- ADDU (R258): 32-bit sum, no overflow. -/
def execAddu (rs rt rd : RegNum) (s : State) : Outcome :=
  finishGpr s rd (sext32 (low32 (s.readGpr rs) + low32 (s.readGpr rt)))

/-- DADDU (R259): 64-bit sum, no overflow. -/
def execDaddu (rs rt rd : RegNum) (s : State) : Outcome :=
  finishGpr s rd (s.readGpr rs + s.readGpr rt)

/-- SUB (R260): 32-bit difference, integer overflow. -/
def execSub (rs rt rd : RegNum) (s : State) : Outcome :=
  subOrOverflow32 s rd (low32 (s.readGpr rs)) (low32 (s.readGpr rt))

/-- DSUB (R261): 64-bit difference, integer overflow. -/
def execDsub (rs rt rd : RegNum) (s : State) : Outcome :=
  subOrOverflow64 s rd (s.readGpr rs) (s.readGpr rt)

/-- SUBU (R262): 32-bit difference, no overflow. -/
def execSubu (rs rt rd : RegNum) (s : State) : Outcome :=
  finishGpr s rd (sext32 (low32 (s.readGpr rs) - low32 (s.readGpr rt)))

/-- DSUBU (R263): 64-bit difference, no overflow. -/
def execDsubu (rs rt rd : RegNum) (s : State) : Outcome :=
  finishGpr s rd (s.readGpr rs - s.readGpr rt)

/-- SLT (R264): 64-bit signed comparison. -/
def execSlt (rs rt rd : RegNum) (s : State) : Outcome :=
  finishGpr s rd (boolWord ((s.readGpr rs).slt (s.readGpr rt)))

/-- SLTU (R265): 64-bit unsigned comparison. -/
def execSltu (rs rt rd : RegNum) (s : State) : Outcome :=
  finishGpr s rd (boolWord ((s.readGpr rs).ult (s.readGpr rt)))

/-- AND (R266). -/
def execAnd (rs rt rd : RegNum) (s : State) : Outcome :=
  finishGpr s rd (s.readGpr rs &&& s.readGpr rt)

/-- OR (R267). -/
def execOr (rs rt rd : RegNum) (s : State) : Outcome :=
  finishGpr s rd (s.readGpr rs ||| s.readGpr rt)

/-- XOR (R268). -/
def execXor (rs rt rd : RegNum) (s : State) : Outcome :=
  finishGpr s rd (s.readGpr rs ^^^ s.readGpr rt)

/-- NOR (R269). -/
def execNor (rs rt rd : RegNum) (s : State) : Outcome :=
  finishGpr s rd (~~~(s.readGpr rs ||| s.readGpr rt))

end Sys2Proof.Machine
end

