-- ==== Sys2Proof/Machine/Branch.lean ====
section
/-! DEFINITION. The jumps and branches (44_jump_branch.md R305 to R328). A jump outside the spec in a delay slot is refused
before it has any effect (R306). -/

namespace Sys2Proof.Machine

/-- J (R308). -/
def execJ (target : BitVec 26) (s : State) : Outcome :=
  outsideSlot s (takeBranch s (jumpTarget s.pc target))

/-- JAL (R309): the link goes to register 31. -/
def execJal (target : BitVec 26) (s : State) : Outcome :=
  outsideSlot s (takeBranch s.link (jumpTarget s.pc target))

/-- JR (R310). -/
def execJr (rs : RegNum) (s : State) : Outcome :=
  outsideSlot s (takeBranch s (s.readGpr rs))

/-- JALR (R311): the link goes to rd; rd = rs is outside the spec. -/
def execJalr (rs rd : RegNum) (s : State) : Outcome :=
  if rd = rs then .refused .jalrSameRegister
  else outsideSlot s (takeBranch (s.writeGpr rd (s.pc + 8#64)) (s.readGpr rs))

/-- BEQ (R312). -/
def execBeq (rs rt : RegNum) (imm : BitVec 16) (s : State) : Outcome :=
  branchIf s (s.readGpr rs = s.readGpr rt) imm

/-- BNE (R313). -/
def execBne (rs rt : RegNum) (imm : BitVec 16) (s : State) : Outcome :=
  branchIf s (s.readGpr rs ≠ s.readGpr rt) imm

/-- BLEZ (R314). -/
def execBlez (rs : RegNum) (imm : BitVec 16) (s : State) : Outcome :=
  branchIf s ((s.readGpr rs).sle 0#64) imm

/-- BGTZ (R315). -/
def execBgtz (rs : RegNum) (imm : BitVec 16) (s : State) : Outcome :=
  branchIf s (!(s.readGpr rs).sle 0#64) imm

/-- BLTZ (R316). -/
def execBltz (rs : RegNum) (imm : BitVec 16) (s : State) : Outcome :=
  branchIf s (s.readGpr rs).msb imm

/-- BGEZ (R317). -/
def execBgez (rs : RegNum) (imm : BitVec 16) (s : State) : Outcome :=
  branchIf s (!(s.readGpr rs).msb) imm

/-- BLTZAL (R318). -/
def execBltzal (rs : RegNum) (imm : BitVec 16) (s : State) : Outcome :=
  linkingBranch s rs fun s' => branchIf s' (s.readGpr rs).msb imm

/-- BGEZAL (R319). -/
def execBgezal (rs : RegNum) (imm : BitVec 16) (s : State) : Outcome :=
  linkingBranch s rs fun s' => branchIf s' (!(s.readGpr rs).msb) imm

/-- BEQL (R320). -/
def execBeql (rs rt : RegNum) (imm : BitVec 16) (s : State) : Outcome :=
  branchLikelyIf s (s.readGpr rs = s.readGpr rt) imm

/-- BNEL (R321). -/
def execBnel (rs rt : RegNum) (imm : BitVec 16) (s : State) : Outcome :=
  branchLikelyIf s (s.readGpr rs ≠ s.readGpr rt) imm

/-- BLEZL (R322). -/
def execBlezl (rs : RegNum) (imm : BitVec 16) (s : State) : Outcome :=
  branchLikelyIf s ((s.readGpr rs).sle 0#64) imm

/-- BGTZL (R323). -/
def execBgtzl (rs : RegNum) (imm : BitVec 16) (s : State) : Outcome :=
  branchLikelyIf s (!(s.readGpr rs).sle 0#64) imm

/-- BLTZL (R324). -/
def execBltzl (rs : RegNum) (imm : BitVec 16) (s : State) : Outcome :=
  branchLikelyIf s (s.readGpr rs).msb imm

/-- BGEZL (R325). -/
def execBgezl (rs : RegNum) (imm : BitVec 16) (s : State) : Outcome :=
  branchLikelyIf s (!(s.readGpr rs).msb) imm

/-- BLTZALL (R326). -/
def execBltzall (rs : RegNum) (imm : BitVec 16) (s : State) : Outcome :=
  linkingBranch s rs fun s' => branchLikelyIf s' (s.readGpr rs).msb imm

/-- BGEZALL (R327). -/
def execBgezall (rs : RegNum) (imm : BitVec 16) (s : State) : Outcome :=
  linkingBranch s rs fun s' => branchLikelyIf s' (!(s.readGpr rs).msb) imm

end Sys2Proof.Machine
end

