-- ==== Sys2Proof/Machine/CacheOps.lean ====
section
/-! DEFINITION. The CACHE operations (47_cp0.md R386 to R404). -/

namespace Sys2Proof.Machine

/-- The slot an index operation on a primary cache names: set VA[13:5], way VA[1:0] (R387). -/
def primaryIndex (va : Word) : Nat := primarySet va * 4 + (va.extractLsb' 0 2).toNat
/-- The slot an index operation on the secondary cache names: set PA[16:5], way PA[1:0] (R387). -/
def secondaryIndex (pa : PhysAddr) : Nat := secondarySet pa * 4 + (pa.extractLsb' 0 2).toNat
/-- The byte offset of the doubleword that bits 4:3 of an address name in a line (R400). -/
def doublewordOffset (a : Word) : Nat := (a.extractLsb' 3 2).toNat * 8

/-- Invalidate the instruction-cache line in slot `k` (R388). -/
def Bus.dropI (b : Bus) (k : Nat) : Bus := b.setILine k { b.iLine k with v := false }

/-- Diagnostic.U-Mode, bit 8 (10_state.md R49). -/
def Cp0.uMode (c : Cp0) : Bool := c.diagnostic.getLsbD 8

/-- Whether a CACHE operation is usable (R375, R386): as CP0 instructions, and the invalidate and write-back operations
(`relaxed`) also in user mode with Diagnostic.U-Mode set. -/
def cacheUsableIn (m : Mode) (c : Cp0) (relaxed : Bool) : Bool :=
  cp0UsableIn m c.status || (relaxed && m = .user && c.uMode)

/-- Complete a CACHE operation that only changes the caches. -/
def finishBus (s : State) (b : Bus) : Outcome := advance { s with bus := b }

/-- A CACHE operation: privilege, then the translation of the address as for a load, without the alignment and Watch
checks (R387); an address that is not cacheable is undefined (log 34). -/
def cacheOp (s : State) (base : RegNum) (offset : BitVec 16) (relaxed : Bool) (k : Word → PhysAddr → Outcome) :
    Outcome :=
  match modeOf s.cp0.status with
  | none => .fault .ksuReserved
  | some m =>
    if cacheUsableIn m s.cp0 relaxed then
      let va := s.effectiveAddress base offset
      match s.translateData false va with
      | .exc e => raise e s
      | .stop f => .fault f
      | .ok pa c => if c = 3#3 then k va pa else .fault .cacheOnUncached
    else raise (.coprocessorUnusable 0#2) s

/-- The ways of the set VA[13:5] of the data cache that hold the line at `pa` (R395). -/
def Bus.hitWaysD (b : Bus) (va : Word) (pa : PhysAddr) : List Nat :=
  let k := primarySet va * 4
  [k, k + 1, k + 2, k + 3].filter (b.dHolds (primaryTag pa))

/-- The ways of the secondary cache that hold the line at `pa` (R397). -/
def Bus.hitWaysS (b : Bus) (pa : PhysAddr) : List Nat :=
  let j := secondarySet pa * 4
  [j, j + 1, j + 2, j + 3].filter (b.sHolds (secondaryTag pa))

/-- Invalidate the secondary line in slot `j` and its primary copies, writing nothing back (R397). -/
def Bus.dropS (b : Bus) (pa : PhysAddr) (j : Nat) : Bus :=
  let b1 := (b.dCopies pa).foldl (fun b k => b.invalidateD k) (b.invalidateI pa)
  b1.setSLine j { b1.sLine j with state := 0#2 }

/-- Write back and invalidate each of a list of secondary slots in turn (R399). -/
def Bus.flushAllS (b : Bus) : List Nat → BusResult Unit
  | [] => .ok () b
  | j :: js => (b.flushS j).andThen fun _ b1 => b1.flushAllS js

/-! What a CACHE operation does to the record of the data accesses (20_memory.md R127, R138; log 16, 17). -/

/-- After a hit writeback-invalidate of the line at `pa`, found or not. -/
def Bus.hitWrittenBack (b : Bus) (pa : PhysAddr) : Bus := b.record (lineNumber pa) LineHistory.writtenBack

/-- Whether the data cache holds line `n` at a colour at which it has been accessed; what a prefetch brought to another one
does not count (40_load_store.md R201). -/
def Bus.heldD (b : Bus) (n : Nat) : Bool :=
  (b.dCopies (BitVec.ofNat 40 (n * 32))).any fun k => (b.historyOf n).colours.getLsbD (k / 512)

/-- After an index writeback-invalidate of data-cache set `set`: the lines of that index of which no copy is left. -/
def Bus.indexWrittenBackD (b : Bus) (set : Nat) : Bus :=
  b.recordAll (fun n => n % 128 = set % 128 && !b.heldD n) LineHistory.writtenBack

/-- After an index writeback-invalidate of secondary set `set`: the lines of that set of which no copy is left. -/
def Bus.indexWrittenBackS (b : Bus) (set : Nat) : Bus :=
  b.recordAll (fun n => n % 4096 = set && !b.dataCached (BitVec.ofNat 40 (n * 32))) LineHistory.writtenBack

/-- After Index Invalidate (I) of set `set`. -/
def Bus.indexInvalidatedI (b : Bus) (set : Nat) : Bus :=
  b.recordAll (fun n => n % 128 = set % 128) fun h => h.invalidatedI (1#4 <<< (set / 128))

/-- TagLo and TagHi from a doubleword: TagHi the upper half (R400). -/
def State.setTags (s : State) (v : Word) : State :=
  { s with cp0 := { s.cp0 with tagLo := low32 v, tagHi := v.extractLsb' 32 32 } }

/-- TagLo and TagHi after Index Load Tag (D); TagHi[31:29] is free (R391). -/
def State.loadTagD (s : State) (l : DLine) : State :=
  let lo : BitVec 32 := l.ptag.extractLsb' 0 24 ++ l.cs ++ l.scway ++ 0#4
  let hi : BitVec 32 := (Config.anyValue .stateMod s.seq).extractLsb' 0 3 ++ 0#25 ++ l.ptag.extractLsb' 24 4
  s.setTags (hi ++ lo)

/-- TagLo and TagHi after Index Load Tag (S) (R392). -/
def State.loadTagS (s : State) (l : SLine) : State :=
  let lo : BitVec 32 := l.tag.extractLsb' 0 19 ++ 0#1 ++ l.state ++ 0#10
  let hi : BitVec 32 := 0#28 ++ l.tag.extractLsb' 19 4
  s.setTags (hi ++ lo)

/-- The data-cache line in slot `k` with its tag fields from TagLo and TagHi (R393). The W bit, which R393 does not name, is
kept (DESIGN CHOICE, log 14). -/
def Bus.storeTagD (b : Bus) (k : Nat) (lo hi : BitVec 32) : Bus :=
  b.setDLine k { b.dLine k with
    scway := lo.extractLsb' 4 2, cs := lo.extractLsb' 6 2, ptag := hi.extractLsb' 0 4 ++ lo.extractLsb' 8 24 }

/-- The secondary line in slot `j` with its tag fields from TagLo and TagHi (R394). -/
def Bus.storeTagS (b : Bus) (j : Nat) (lo hi : BitVec 32) : Bus :=
  b.setSLine j { b.sLine j with state := lo.extractLsb' 10 2, tag := hi.extractLsb' 0 4 ++ lo.extractLsb' 13 19 }

/-- The data-cache line in slot `k` with a doubleword replaced (R403). -/
def Bus.storeDataD (b : Bus) (k off : Nat) (v : Word) : Bus :=
  b.setDLine k { b.dLine k with data := linePut (b.dLine k).data off 8 v }

/-- The secondary line in slot `j` with a doubleword replaced (R404). -/
def Bus.storeDataS (b : Bus) (j off : Nat) (v : Word) : Bus :=
  b.setSLine j { b.sLine j with data := linePut (b.sLine j).data off 8 v }

/-- CACHE.INDEX_INVALIDATE_I (R388): the four ways of the set. -/
def execCacheIndexInvalidateI (base : RegNum) (offset : BitVec 16) (s : State) : Outcome :=
  cacheOp s base offset true fun va _ =>
    let b := [0, 1, 2, 3].foldl (fun b k => b.dropI (primarySet va * 4 + k)) s.bus
    finishBus s (b.indexInvalidatedI (primarySet va))

/-- CACHE.INDEX_WRITEBACK_INVALIDATE_D (R389). -/
def execCacheIndexWritebackInvalidateD (base : RegNum) (offset : BitVec 16) (s : State) : Outcome :=
  cacheOp s base offset true fun va _ =>
    (s.bus.flushD (primaryIndex va)).toMem.finish s fun _ s' => finishBus s' (s'.bus.indexWrittenBackD (primarySet va))

/-- CACHE.INDEX_WRITEBACK_INVALIDATE_S (R390). -/
def execCacheIndexWritebackInvalidateS (base : RegNum) (offset : BitVec 16) (s : State) : Outcome :=
  cacheOp s base offset true fun _ pa =>
    (s.bus.flushS (secondaryIndex pa)).toMem.finish s fun _ s' =>
      finishBus s' (s'.bus.indexWrittenBackS (secondarySet pa))

/-- CACHE.INDEX_LOAD_TAG_D (R391). -/
def execCacheIndexLoadTagD (base : RegNum) (offset : BitVec 16) (s : State) : Outcome :=
  cacheOp s base offset false fun va _ => advance (s.loadTagD (s.bus.dLine (primaryIndex va)))

/-- CACHE.INDEX_LOAD_TAG_S (R392). -/
def execCacheIndexLoadTagS (base : RegNum) (offset : BitVec 16) (s : State) : Outcome :=
  cacheOp s base offset false fun _ pa => advance (s.loadTagS (s.bus.sLine (secondaryIndex pa)))

/-- CACHE.INDEX_STORE_TAG_D (R393): the data is kept, nothing is written back. -/
def execCacheIndexStoreTagD (base : RegNum) (offset : BitVec 16) (s : State) : Outcome :=
  cacheOp s base offset false fun va _ => finishBus s (s.bus.storeTagD (primaryIndex va) s.cp0.tagLo s.cp0.tagHi)

/-- CACHE.INDEX_STORE_TAG_S (R394): the data is kept, nothing is written back. -/
def execCacheIndexStoreTagS (base : RegNum) (offset : BitVec 16) (s : State) : Outcome :=
  cacheOp s base offset false fun _ pa =>
    finishBus s (s.bus.storeTagS (secondaryIndex pa) s.cp0.tagLo s.cp0.tagHi)

/-- CACHE.HIT_INVALIDATE_D (R395): no write-back. -/
def execCacheHitInvalidateD (base : RegNum) (offset : BitVec 16) (s : State) : Outcome :=
  cacheOp s base offset true fun va pa =>
    finishBus s ((s.bus.hitWaysD va pa).foldl (fun b k => b.invalidateD k) s.bus)

/-- CACHE.HIT_INVALIDATE_S (R397): no write-back. -/
def execCacheHitInvalidateS (base : RegNum) (offset : BitVec 16) (s : State) : Outcome :=
  cacheOp s base offset true fun _ pa => finishBus s ((s.bus.hitWaysS pa).foldl (fun b j => b.dropS pa j) s.bus)

/-- CACHE.HIT_WRITEBACK_INVALIDATE_D (R398). -/
def execCacheHitWritebackInvalidateD (base : RegNum) (offset : BitVec 16) (s : State) : Outcome :=
  cacheOp s base offset true fun va pa =>
    (s.bus.flushAllD (s.bus.hitWaysD va pa)).toMem.finish s fun _ s' => finishBus s' (s'.bus.hitWrittenBack pa)

/-- CACHE.HIT_WRITEBACK_INVALIDATE_S (R399). -/
def execCacheHitWritebackInvalidateS (base : RegNum) (offset : BitVec 16) (s : State) : Outcome :=
  cacheOp s base offset true fun _ pa =>
    (s.bus.flushAllS (s.bus.hitWaysS pa)).toMem.finish s fun _ s' => finishBus s' (s'.bus.hitWrittenBack pa)

/-- CACHE.INDEX_LOAD_DATA_D (R400). -/
def execCacheIndexLoadDataD (base : RegNum) (offset : BitVec 16) (s : State) : Outcome :=
  cacheOp s base offset false fun va _ =>
    advance (s.setTags (lineGet (s.bus.dLine (primaryIndex va)).data (doublewordOffset va) 8))

/-- CACHE.INDEX_LOAD_DATA_S (R401). -/
def execCacheIndexLoadDataS (base : RegNum) (offset : BitVec 16) (s : State) : Outcome :=
  cacheOp s base offset false fun _ pa =>
    advance (s.setTags (lineGet (s.bus.sLine (secondaryIndex pa)).data (doublewordOffset (pa.setWidth 64)) 8))

/-- CACHE.INDEX_STORE_DATA_D (R403): tag and state are kept. -/
def execCacheIndexStoreDataD (base : RegNum) (offset : BitVec 16) (s : State) : Outcome :=
  cacheOp s base offset false fun va _ =>
    finishBus s (s.bus.storeDataD (primaryIndex va) (doublewordOffset va) (s.cp0.tagHi ++ s.cp0.tagLo))

/-- CACHE.INDEX_STORE_DATA_S (R404): tag and state are kept. -/
def execCacheIndexStoreDataS (base : RegNum) (offset : BitVec 16) (s : State) : Outcome :=
  cacheOp s base offset false fun _ pa =>
    finishBus s (s.bus.storeDataS (secondaryIndex pa) (doublewordOffset (pa.setWidth 64)) (s.cp0.tagHi ++ s.cp0.tagLo))

end Sys2Proof.Machine
end

