-- ==== Sys2Proof/Machine/Cp0.lean ====
section
/-! DEFINITION. The CP0 moves, the TLB instructions and ERET (47_cp0.md R375 to R385). -/

namespace Sys2Proof.Machine

/-- A read of CP0 register `rd`: registers 24 and 25 in every mode (R379), the others where CP0 is usable. -/
def counterOrCp0 (s : State) (rd : RegNum) (k : Outcome) : Outcome :=
  if rd = 24#5 ∨ rd = 25#5 then k else withCp0 s k

/-- Index replaced. -/
def State.setIndex (s : State) (v : BitVec 32) : State := { s with cp0 := { s.cp0 with index := v } }

/-- The half of a TLB entry that an EntryLo register describes (10_state.md R28, R58). -/
def TlbPage.ofEntryLo (lo : BitVec 64) : TlbPage :=
  { e := lo.getLsbD 61, pfn := lo.extractLsb' 6 28, c := lo.extractLsb' 3 3, d := lo.getLsbD 2, v := lo.getLsbD 1 }

/-- The EntryLo register that describes a half of a TLB entry. -/
def TlbPage.toEntryLo (p : TlbPage) (g : Bool) : BitVec 64 :=
  0#2 ++ BitVec.ofBool p.e ++ 0#27 ++ p.pfn ++ p.c ++ BitVec.ofBool p.d ++ BitVec.ofBool p.v ++ BitVec.ofBool g

/-- The registers after TLBR of an entry (R381): EntryHi bit 12 stays 0. -/
def State.readTlbEntry (s : State) (e : TlbEntry) : State :=
  { s with
    cp0 := { s.cp0 with
      pageMask := e.mask.setWidth 32 <<< 13
      entryHi := e.r ++ 0#22 ++ maskedVpn2 e.vpn2 e.mask ++ 0#5 ++ e.asid
      entryLo1 := e.odd.toEntryLo e.g
      entryLo0 := e.even.toEntryLo e.g } }

/-- The entry that PageMask, EntryHi, EntryLo1 and EntryLo0 describe (R382). -/
def Cp0.tlbEntry (c : Cp0) : TlbEntry :=
  let mask := c.pageMask.extractLsb' 13 12
  { mask := mask
    r := regionBits c.entryHi
    vpn2 := maskedVpn2 (vpn2Of c.entryHi) mask
    g := c.entryLo0.getLsbD 0 && c.entryLo1.getLsbD 0
    asid := c.entryHi.extractLsb' 0 8
    even := TlbPage.ofEntryLo c.entryLo0
    odd := TlbPage.ofEntryLo c.entryLo1 }

/-- Write TLB entry `i` from the registers (R382, R383). A Mask value outside the table is undefined (10_state.md R31;
log 23). The instruction TLB is not updated. -/
def State.writeTlbEntry (s : State) (i : BitVec 6) : Outcome :=
  match pageShift s.pageMaskField with
  | none => .fault .tlbMaskIllegal
  | some _ => advance { s with tlb := s.tlb.set i.toNat s.cp0.tlbEntry }

/-- MFC0 (R376): bits 31:0, sign-extended; the performance counters in every mode (R379). -/
def execMfc0 (rt rd : RegNum) (s : State) : Outcome :=
  counterOrCp0 s rd (finishGpr s rt (sext32 (low32 (s.readCp0 rd))))

/-- MTC0 (R377): bits 31:0, sign-extended for a 64-bit register. -/
def execMtc0 (rt rd : RegNum) (s : State) : Outcome :=
  withCp0 s (advance (s.writeCp0 rd (sext32 (low32 (s.readGpr rt)))))

/-- DMFC0 (R378): 64 bits; the performance counters in every mode (R379). -/
def execDmfc0 (rt rd : RegNum) (s : State) : Outcome :=
  counterOrCp0 s rd (finishGpr s rt (s.readCp0 rd))

/-- DMTC0 (R385): 64 bits. -/
def execDmtc0 (rt rd : RegNum) (s : State) : Outcome :=
  withCp0 s (advance (s.writeCp0 rd (s.readGpr rt)))

/-- TLBP (R380). -/
def execTlbp (s : State) : Outcome :=
  withCp0 s <|
    match tlbFind s.tlb (regionBits s.cp0.entryHi) (vpn2Of s.cp0.entryHi) s.asid with
    | .none => advance (s.setIndex (0x80000000#32 ||| (Config.anyValue .probeIndex s.seq &&& 0x3F#64).setWidth 32))
    | .one i => advance (s.setIndex (BitVec.ofNat 32 i.val))
    | .multiple => .fault .tlbMultipleMatch

/-- TLBR (R381). -/
def execTlbr (s : State) : Outcome :=
  withCp0 s (advance (s.readTlbEntry s.tlb[(s.cp0.index.extractLsb' 0 6).toNat]))

/-- TLBWI (R382): the entry of Index. -/
def execTlbwi (s : State) : Outcome :=
  withCp0 s (s.writeTlbEntry (s.cp0.index.extractLsb' 0 6))

/-- TLBWR (R383): the entry of Random. -/
def execTlbwr (s : State) : Outcome :=
  withCp0 s (s.writeTlbEntry s.cp0.random)

/-- ERET (R384): in a delay slot it is outside the spec. -/
def execEret (s : State) : Outcome :=
  withCp0 s (if s.delay.isSome then .refused .eretInDelaySlot else .next (returnFromException s))

end Sys2Proof.Machine
end

