-- ==== Sys2Proof/Machine/SoftFloat.lean ====
section
/-! DEFINITION. Floating-point arithmetic: formats, classification, rounding, exceptional results (48_fpu.md R412 to
R424). Values are exact integers times powers of two; nothing rounds before the one final rounding. -/

namespace Sys2Proof.Machine

/-- The two floating-point formats (R412). -/
inductive FpFormat where
  | single | double
  deriving DecidableEq, Repr

/-- Bits of the significand, counting the hidden bit. -/
def FpFormat.precision : FpFormat → Nat
  | .single => 24
  | .double => 53
/-- Bits of the exponent field. -/
def FpFormat.expBits : FpFormat → Nat
  | .single => 8
  | .double => 11
/-- Emax, which is also the bias. -/
def FpFormat.emax : FpFormat → Int
  | .single => 127
  | .double => 1023
/-- Emin. -/
def FpFormat.emin : FpFormat → Int
  | .single => -126
  | .double => -1022
/-- Bits of the fraction field. -/
def FpFormat.fracBits (f : FpFormat) : Nat := f.precision - 1
/-- Bits of the whole format. -/
def FpFormat.width (f : FpFormat) : Nat := f.precision + f.expBits

/-- A classified operand (R412, R413). A finite non-zero value is `(-1)^sign * m * 2^e` with `m > 0`. -/
inductive FpValue where
  | quietNan (sign : Bool)
  | signalingNan (sign : Bool)
  | infinity (sign : Bool)
  | zero (sign : Bool)
  | finite (sign denormal : Bool) (m : Nat) (e : Int)
  deriving DecidableEq, Repr

/-- The operand in the low bits of `v` (R412); the top fraction bit of a NaN set means signaling (R413). -/
def fpUnpack (f : FpFormat) (v : Word) : FpValue :=
  let n := v.toNat
  let frac := n % 2 ^ f.fracBits
  let ex := n / 2 ^ f.fracBits % 2 ^ f.expBits
  let sign := n / 2 ^ (f.width - 1) % 2 = 1
  if ex = 2 ^ f.expBits - 1 then
    if frac = 0 then .infinity sign
    else if frac / 2 ^ (f.fracBits - 1) = 1 then .signalingNan sign
    else .quietNan sign
  else if ex = 0 then
    if frac = 0 then .zero sign else .finite sign true frac (f.emin - f.fracBits)
  else .finite sign false (frac + 2 ^ f.fracBits) (ex - f.emax - f.fracBits)

/-- The bits of a sign, a biased exponent and a fraction. -/
def fpBits (f : FpFormat) (sign : Bool) (ex frac : Nat) : Word :=
  BitVec.ofNat 64 ((if sign then 2 ^ (f.width - 1) else 0) + ex * 2 ^ f.fracBits + frac)

/-- Infinity. -/
def fpInfinity (f : FpFormat) (sign : Bool) : Word := fpBits f sign (2 ^ f.expBits - 1) 0
/-- Zero. -/
def fpZero (f : FpFormat) (sign : Bool) : Word := fpBits f sign 0 0
/-- The finite number of largest magnitude. -/
def fpLargest (f : FpFormat) (sign : Bool) : Word := fpBits f sign (2 ^ f.expBits - 2) (2 ^ f.fracBits - 1)
/-- The normal number of smallest magnitude. -/
def fpSmallestNormal (f : FpFormat) (sign : Bool) : Word := fpBits f sign 1 0
/-- The default quiet NaN (R413): 0x7FBFFFFF and 0x7FF7FFFFFFFFFFFF. -/
def fpDefaultNan (f : FpFormat) : Word := fpBits f false (2 ^ f.expBits - 1) (2 ^ (f.fracBits - 1) - 1)

/-- The rounding modes (10_state.md R76). -/
inductive RoundingMode where
  | nearest | towardZero | up | down
  deriving DecidableEq, Repr

/-- The rounding mode of FCSR.RM. -/
def roundingModeOf (rm : BitVec 2) : RoundingMode :=
  if rm = 0#2 then .nearest else if rm = 1#2 then .towardZero else if rm = 2#2 then .up else .down

/-- Whether a magnitude `q + rem / 2^shift` of this sign rounds up to `q + 1` (R415); `0 < shift`. -/
def roundsUp (rm : RoundingMode) (sign : Bool) (q rem shift : Nat) : Bool :=
  match rm with
  | .nearest => decide (2 ^ (shift - 1) < rem) || (rem = 2 ^ (shift - 1) && q % 2 = 1)
  | .towardZero => false
  | .up => !sign && rem ≠ 0
  | .down => sign && rem ≠ 0

/-- Round `m / 2^shift` to an integer magnitude, with whether it was inexact. -/
def roundShift (rm : RoundingMode) (sign : Bool) (m shift : Nat) : Nat × Bool :=
  if shift = 0 then (m, false)
  else
    let q := m / 2 ^ shift
    let rem := m % 2 ^ shift
    (if roundsUp rm sign q rem shift then q + 1 else q, rem ≠ 0)

/-- The result of an operation: its Causes and the value delivered if they do not trap. -/
structure FpResult where
  causes : FpCauses
  value : Word
  deriving DecidableEq, Repr

/-- The parts of FCSR an operation reads: RM, and whether a tiny result is flushed (FS = 1 and the U and I enables 0,
R424). -/
structure FpEnv where
  rm : RoundingMode
  flush : Bool
  deriving DecidableEq, Repr

/-- The environment FCSR describes. -/
def fpEnvOf (fcsr : BitVec 32) : FpEnv :=
  { rm := roundingModeOf (fcsrRm fcsr)
    flush := fcsrFs fcsr && !(fcsrEnables fcsr).getLsbD 0 && !(fcsrEnables fcsr).getLsbD 1 }

/-- An invalid operation: the default quiet NaN (R416, R422). -/
def fpInvalid (f : FpFormat) : FpResult := { causes := causeV, value := fpDefaultNan f }

/-- The result of an overflow (R418, R422). -/
def fpOverflow (f : FpFormat) (rm : RoundingMode) (sign : Bool) : FpResult :=
  { causes := causeO ||| causeI
    value := match rm with
      | .nearest => fpInfinity f sign
      | .towardZero => fpLargest f sign
      | .up => if sign then fpLargest f sign else fpInfinity f sign
      | .down => if sign then fpInfinity f sign else fpLargest f sign }

/-- The result of a tiny value (R424): flushed by the U row of R422, or unimplemented. -/
def fpTiny (f : FpFormat) (env : FpEnv) (sign : Bool) : FpResult :=
  if env.flush then
    { causes := causeU ||| causeI
      value := match env.rm with
        | .nearest | .towardZero => fpZero f sign
        | .up => if sign then fpZero f sign else fpSmallestNormal f sign
        | .down => if sign then fpSmallestNormal f sign else fpZero f sign }
  else { causes := causeE, value := 0#64 }

/-- Round the exact non-zero value `(-1)^sign * m * 2^e` to a format (R414, R415, R418, R419, R424). Rounding is with
unbounded exponent; overflow and tininess are judged after it. -/
def fpRound (f : FpFormat) (env : FpEnv) (sign : Bool) (m : Nat) (e : Int) : FpResult :=
  let len := m.log2 + 1
  let shift := len - f.precision
  let scaled := m * 2 ^ (f.precision - len)
  let (q0, inexact) := roundShift env.rm sign scaled shift
  let carry := q0 = 2 ^ f.precision
  let q := if carry then 2 ^ (f.precision - 1) else q0
  let expo : Int := e + len - 1 + (if carry then 1 else 0)
  if f.emax < expo then fpOverflow f env.rm sign
  else if expo < f.emin then fpTiny f env sign
  else
    { causes := if inexact then causeI else causeNone
      value := fpBits f sign (expo + f.emax).toNat (q - 2 ^ f.fracBits) }

/-! Exact arithmetic on signed values `i * 2^e`. -/

/-- The signed significand of a sign and a magnitude. -/
def signedMag (sign : Bool) (m : Nat) : Int := if sign then -(m : Int) else m

/-- The sign of an exact zero sum of opposite-signed operands: minus in RM only (R415). -/
def zeroSumSign (rm : RoundingMode) : Bool := rm = .down

/-- The exact sum of two non-zero values, rounded. -/
def fpAddFinite (f : FpFormat) (env : FpEnv) (s1 : Bool) (m1 : Nat) (e1 : Int) (s2 : Bool) (m2 : Nat) (e2 : Int) :
    FpResult :=
  let e := min e1 e2
  let sum := signedMag s1 m1 * 2 ^ (e1 - e).toNat + signedMag s2 m2 * 2 ^ (e2 - e).toNat
  if sum = 0 then { causes := causeNone, value := fpZero f (zeroSumSign env.rm) }
  else fpRound f env (sum < 0) sum.natAbs e

/-- Whether an operand makes an arithmetic or conversion instruction unimplemented: a denormal or a quiet NaN
(R420 (b), (c)). -/
def FpValue.unimplemented : FpValue → Bool
  | .quietNan _ => true
  | .finite _ d _ _ => d
  | _ => false

/-- Whether an operand is a signaling NaN. -/
def FpValue.signaling : FpValue → Bool
  | .signalingNan _ => true
  | _ => false

/-- Whether an operand is a NaN. -/
def FpValue.isNan : FpValue → Bool
  | .quietNan _ | .signalingNan _ => true
  | _ => false

/-- The value with its sign inverted. -/
def FpValue.negate : FpValue → FpValue
  | .quietNan s => .quietNan !s
  | .signalingNan s => .signalingNan !s
  | .infinity s => .infinity !s
  | .zero s => .zero !s
  | .finite s d m e => .finite (!s) d m e

/-- Steps 2 and 3 of R414: with an unimplemented operand E, and V free if the operation is also invalid (log 30; `v` is
the free bit); else V for an invalid operation; else what `k` computes. -/
def fpCheck (f : FpFormat) (v : Bool) (unimplemented invalid : Bool) (k : FpResult) : FpResult :=
  if unimplemented then { causes := if invalid && v then causeE ||| causeV else causeE, value := 0#64 }
  else if invalid then fpInvalid f
  else k

/-- Whether the sum of two operands is invalid: a signaling NaN or infinities of opposite sign (R416). -/
def addInvalid : FpValue → FpValue → Bool
  | .infinity s, .infinity t => s != t
  | a, b => a.signaling || b.signaling

/-- The sum of two operands that are not NaN. -/
def fpAddValues (f : FpFormat) (env : FpEnv) : FpValue → FpValue → FpResult
  | .infinity s, _ => { causes := causeNone, value := fpInfinity f s }
  | _, .infinity t => { causes := causeNone, value := fpInfinity f t }
  | .zero s, .zero t => { causes := causeNone, value := fpZero f (if s = t then s else zeroSumSign env.rm) }
  | .zero _, .finite t _ m e => fpRound f env t m e
  | .finite s _ m e, .zero _ => fpRound f env s m e
  | .finite s _ m e, .finite t _ n d => fpAddFinite f env s m e t n d
  | _, _ => fpInvalid f

/-- Addition (R426). -/
def fpAdd (f : FpFormat) (env : FpEnv) (v : Bool) (a b : FpValue) : FpResult :=
  fpCheck f v (a.unimplemented || b.unimplemented) (addInvalid a b) (fpAddValues f env a b)

/-- Subtraction (R427): addition of the negated operand. -/
def fpSub (f : FpFormat) (env : FpEnv) (v : Bool) (a b : FpValue) : FpResult := fpAdd f env v a b.negate

/-- Whether a product is invalid: a signaling NaN, or zero times infinity (R416). -/
def mulInvalid : FpValue → FpValue → Bool
  | .infinity _, .zero _ => true
  | .zero _, .infinity _ => true
  | a, b => a.signaling || b.signaling

/-- The sign of an operand. -/
def FpValue.sign : FpValue → Bool
  | .quietNan s | .signalingNan s | .infinity s | .zero s | .finite s _ _ _ => s

/-- The exact product of two operands, as a value. With a NaN it is a NaN, so that in a multiply-add an infinity times a
quiet NaN is no infinite product (49_fpu_ps_madd.md R515). -/
def mulValue (a b : FpValue) : FpValue :=
  let s := a.sign != b.sign
  if a.isNan || b.isNan then .quietNan s else
  match a, b with
  | .infinity _, _ => .infinity s
  | _, .infinity _ => .infinity s
  | .finite _ _ m e, .finite _ _ n d => .finite s false (m * n) (e + d)
  | _, _ => .zero s

/-- A value that is not NaN, rounded to a format. -/
def fpDeliver (f : FpFormat) (env : FpEnv) : FpValue → FpResult
  | .infinity s => { causes := causeNone, value := fpInfinity f s }
  | .zero s => { causes := causeNone, value := fpZero f s }
  | .finite s _ m e => fpRound f env s m e
  | _ => fpInvalid f

/-- Multiplication (R428). -/
def fpMul (f : FpFormat) (env : FpEnv) (v : Bool) (a b : FpValue) : FpResult :=
  fpCheck f v (a.unimplemented || b.unimplemented) (mulInvalid a b) (fpDeliver f env (mulValue a b))

/-- Whether a quotient is invalid: a signaling NaN, 0/0 or infinity/infinity (R416). -/
def divInvalid : FpValue → FpValue → Bool
  | .infinity _, .infinity _ => true
  | .zero _, .zero _ => true
  | a, b => a.signaling || b.signaling

/-- The quotient of two magnitudes to at least two bits more than the precision, its last bit set if bits were lost, with
the power of two it is scaled by. -/
def divMagnitude (f : FpFormat) (m n : Nat) : Nat × Nat :=
  let k := f.precision + 2 + (n.log2 + 1 - m.log2)
  let q := m * 2 ^ k / n
  (2 * q + (if m * 2 ^ k % n = 0 then 0 else 1), k + 1)

/-- The quotient of two operands that are not NaN; division of a finite non-zero value by zero signals Z (R417). -/
def fpDivValues (f : FpFormat) (env : FpEnv) (a b : FpValue) : FpResult :=
  let s := a.sign != b.sign
  match a, b with
  | .infinity _, _ => { causes := causeNone, value := fpInfinity f s }
  | _, .infinity _ => { causes := causeNone, value := fpZero f s }
  | .zero _, _ => { causes := causeNone, value := fpZero f s }
  | .finite _ _ _ _, .zero _ => { causes := causeZ, value := fpInfinity f s }
  | .finite _ _ m e, .finite _ _ n d =>
    let (q, k) := divMagnitude f m n
    fpRound f env s q (e - d - k)
  | _, _ => fpInvalid f

/-- Division (R429). -/
def fpDiv (f : FpFormat) (env : FpEnv) (v : Bool) (a b : FpValue) : FpResult :=
  fpCheck f v (a.unimplemented || b.unimplemented) (divInvalid a b) (fpDivValues f env a b)

/-- The integer square root of `m` below `acc + 2^k`, bit by bit from bit k - 1 down. -/
def isqrtBits (m : Nat) : Nat → Nat → Nat
  | 0, acc => acc
  | k + 1, acc => isqrtBits m k (if (acc + 2 ^ k) * (acc + 2 ^ k) ≤ m then acc + 2 ^ k else acc)

/-- The integer square root. -/
def isqrt (m : Nat) : Nat := isqrtBits m (m.log2 / 2 + 1) 0

/-- The square root of an operand that is not NaN or negative (R430): scaled so that the root has at least two bits more
than the precision, its last bit set if bits were lost. -/
def fpSqrtValue (f : FpFormat) (env : FpEnv) : FpValue → FpResult
  | .finite _ _ m e =>
    let k := 2 * (f.precision + 2) + (if e % 2 = 0 then 0 else 1)
    let r := isqrt (m * 2 ^ k)
    fpRound f env false (2 * r + (if r * r = m * 2 ^ k then 0 else 1)) ((e - k) / 2 - 1)
  | v => fpDeliver f env v

/-- Whether a square root is invalid: a signaling NaN or a value below 0; -0 is not below 0 (R416). -/
def sqrtInvalid : FpValue → Bool
  | .signalingNan _ => true
  | .infinity s | .finite s _ _ _ => s
  | _ => false

/-- Square root (R430). -/
def fpSqrt (f : FpFormat) (env : FpEnv) (v : Bool) (a : FpValue) : FpResult :=
  fpCheck f v a.unimplemented (sqrtInvalid a) (fpSqrtValue f env a)

/-- The absolute value (R431): arithmetic, exact. -/
def fpAbs (f : FpFormat) (v : Bool) (bits : Word) : FpResult :=
  let a := fpUnpack f bits
  fpCheck f v a.unimplemented a.signaling
    { causes := causeNone, value := BitVec.ofNat 64 (bits.toNat % 2 ^ (f.width - 1)) }

/-- The negated value (R433): arithmetic, exact. -/
def fpNeg (f : FpFormat) (v : Bool) (bits : Word) : FpResult :=
  let a := fpUnpack f bits
  fpCheck f v a.unimplemented a.signaling
    { causes := causeNone, value := bits ^^^ BitVec.ofNat 64 (2 ^ (f.width - 1)) }

/-! Multiply-add: the product and the sum are exact, one rounding (R515; log 30). -/

/-- The four multiply-add operations (R516 to R519). -/
inductive MaddKind where
  | madd | msub | nmadd | nmsub
  deriving DecidableEq, Repr

/-- Whether the addend is subtracted. -/
def MaddKind.subtracts : MaddKind → Bool
  | .msub | .nmsub => true
  | _ => false

/-- Whether the rounded result is negated. -/
def MaddKind.negates : MaddKind → Bool
  | .nmadd | .nmsub => true
  | _ => false

/-- fs * ft plus or minus fd, rounded once; the N forms invert the sign of the rounded result but not of a default NaN
(R515). -/
def fpMadd (f : FpFormat) (env : FpEnv) (v : Bool) (kind : MaddKind) (fd fs ft : FpValue) : FpResult :=
  let addend := if kind.subtracts then fd.negate else fd
  let product := mulValue fs ft
  let invalid := mulInvalid fs ft || addend.signaling || addInvalid product addend
  let r := fpAddValues f env product addend
  fpCheck f v (fd.unimplemented || fs.unimplemented || ft.unimplemented) invalid
    (if kind.negates then { r with value := r.value ^^^ BitVec.ofNat 64 (2 ^ (f.width - 1)) } else r)

/-! Conversions (R434 to R445). -/

/-- The most negative and the most positive `w`-bit integer. -/
def intLimit (w : Nat) (negative : Bool) : Word :=
  if negative then BitVec.ofInt 64 (-(2 ^ (w - 1))) else BitVec.ofInt 64 (2 ^ (w - 1) - 1)

/-- An invalid conversion to fixed point delivers the limit of its sign (R423). -/
def convertInvalid (w : Nat) (negative : Bool) : FpResult := { causes := causeV, value := intLimit w negative }

/-- Round a value to a `w`-bit integer (R423). -/
def fpToInt (w : Nat) (rm : RoundingMode) : FpValue → FpResult
  | .signalingNan s | .infinity s | .quietNan s => convertInvalid w s
  | .zero _ => { causes := causeNone, value := 0#64 }
  | .finite s _ m e =>
    let (q, inexact) := if 0 ≤ e then (m * 2 ^ e.toNat, false) else roundShift rm s m (-e).toNat
    let x := signedMag s q
    if outOfRange w x then convertInvalid w s
    else { causes := if inexact then causeI else causeNone, value := BitVec.ofInt 64 x }

/-- Conversion of a floating-point operand to a `w`-bit integer. -/
def fpConvertToInt (w : Nat) (rm : RoundingMode) (v : Bool) (a : FpValue) : FpResult :=
  if a.unimplemented then { causes := if a.signaling && v then causeE ||| causeV else causeE, value := 0#64 }
  else fpToInt w rm a

/-- Conversion between floating-point formats (R442, R443). -/
def fpConvert (f : FpFormat) (env : FpEnv) (v : Bool) (a : FpValue) : FpResult :=
  fpCheck f v a.unimplemented a.signaling (fpDeliver f env a)

/-- Conversion of an integer to a format (R442, R443). -/
def fpOfInt (f : FpFormat) (env : FpEnv) (x : Int) : FpResult :=
  if x = 0 then { causes := causeNone, value := 0#64 } else fpRound f env (x < 0) x.natAbs 0

/-! Comparison (R452). -/

/-- The four relations of two operands; exactly one holds. -/
inductive FpRelation where
  | less | equal | greater | unordered
  deriving DecidableEq, Repr

/-- The value of an operand that is not NaN as `i * 2^e`; infinities are beyond every finite value. -/
def compareKey : FpValue → Int × Int
  | .finite s _ m e => (signedMag s m, e)
  | _ => (0, 0)

/-- The relation of two operands: a NaN is unordered, -0 equals +0, denormals compare by value. -/
def fpRelation (a b : FpValue) : FpRelation :=
  if a.isNan || b.isNan then .unordered
  else
    match a, b with
    | .infinity s, .infinity t => if s = t then .equal else if s then .less else .greater
    | .infinity s, _ => if s then .less else .greater
    | _, .infinity t => if t then .greater else .less
    | _, _ =>
      let (m, e) := compareKey a
      let (n, d) := compareKey b
      let low := min e d
      let x := m * 2 ^ (e - low).toNat
      let y := n * 2 ^ (d - low).toNat
      if x < y then .less else if x = y then .equal else .greater

/-- Whether the condition `cond` holds of a relation (R452): bit 2 less, bit 1 equal, bit 0 unordered. -/
def conditionHolds (cond : BitVec 4) : FpRelation → Bool
  | .less => cond.getLsbD 2
  | .equal => cond.getLsbD 1
  | .unordered => cond.getLsbD 0
  | .greater => false

/-- Whether a compare is invalid: a signaling NaN, or unordered with cond bit 3 set. -/
def compareInvalid (cond : BitVec 4) (a b : FpValue) : Bool :=
  a.signaling || b.signaling || (cond.getLsbD 3 && fpRelation a b = .unordered)

end Sys2Proof.Machine
end

