-- ==== Sys2Proof/Machine/FpOps.lean ====
section
/-! DEFINITION. How the floating-point instructions read their operands and deliver their results (48_fpu.md R410 to
R414, 49_fpu_ps_madd.md R491): S and W operands are 32-bit, D, L and PS operands 64-bit registers. -/

namespace Sys2Proof.Machine

/-- Go on if every named register may hold a 64-bit operand; otherwise the instruction is outside the spec (R411). -/
def withFpr64 (s : State) (fs : List RegNum) (k : Outcome) : Outcome :=
  if fs.all (fpr64Ok s.cp0.status) then k else .refused .fpOddRegister

/-- Whether Causes.V is set beside E when both an unimplemented operand and an invalid operation are present: free
(R414). -/
def freeV (s : State) : Bool := (Config.anyValue (.causeV false) s.seq).getLsbD 0

/-- The same free bit for the upper half of a paired-single operation. -/
def freeVUpper (s : State) : Bool := (Config.anyValue (.causeV true) s.seq).getLsbD 0

/-- Deliver a result to a 32-bit register, or trap. -/
def fpFinishS (s : State) (fd : RegNum) (r : FpResult) : Outcome :=
  fpComplete s r.causes fun s' => advance (s'.writeFpr32 fd (low32 r.value))

/-- Deliver a result to a 64-bit register, or trap. -/
def fpFinishD (s : State) (fd : RegNum) (r : FpResult) : Outcome :=
  fpComplete s r.causes fun s' => advance (s'.writeFpr fd r.value)

/-- The halves of a paired-single result: the union of the Causes, the two singles (49_fpu_ps_madd.md R491). -/
def fpPair (upper lower : FpResult) : FpResult :=
  { causes := lower.causes ||| upper.causes, value := low32 upper.value ++ low32 lower.value }

/-- A single operand as a doubleword. -/
def State.fprS (s : State) (f : RegNum) : Word := (s.readFpr32 f).setWidth 64
/-- The lower single of a paired-single operand. -/
def State.fprLower (s : State) (f : RegNum) : Word := (low32 (s.readFpr f)).setWidth 64
/-- The upper single of a paired-single operand. -/
def State.fprUpper (s : State) (f : RegNum) : Word := ((s.readFpr f).extractLsb' 32 32).setWidth 64

/-- An operation on two values in a format, with the environment and the free V bit. -/
abbrev FpBinary := FpFormat → FpEnv → Bool → FpValue → FpValue → FpResult
/-- An operation on the bits of one value. -/
abbrev FpUnary := FpFormat → FpEnv → Bool → Word → FpResult

/-- A binary single operation: fs and ft, in that order. -/
def fpBinaryS (s : State) (op : FpBinary) (ft fs fd : RegNum) : Outcome :=
  withCp1 s <|
    fpFinishS s fd
      (op .single (fpEnvOf s.fcsr) (freeV s) (fpUnpack .single (s.fprS fs)) (fpUnpack .single (s.fprS ft)))

/-- A binary double operation. -/
def fpBinaryD (s : State) (op : FpBinary) (ft fs fd : RegNum) : Outcome :=
  withCp1 s <| withFpr64 s [ft, fs, fd] <|
    fpFinishD s fd
      (op .double (fpEnvOf s.fcsr) (freeV s) (fpUnpack .double (s.readFpr fs)) (fpUnpack .double (s.readFpr ft)))

/-- A binary paired-single operation: each half as a single operation. -/
def fpBinaryPs (s : State) (op : FpBinary) (ft fs fd : RegNum) : Outcome :=
  let half (v : Bool) (a b : Word) : FpResult :=
    op .single (fpEnvOf s.fcsr) v (fpUnpack .single a) (fpUnpack .single b)
  withCp1 s <| withFpr64 s [ft, fs, fd] <|
    fpFinishD s fd
      (fpPair (half (freeVUpper s) (s.fprUpper fs) (s.fprUpper ft)) (half (freeV s) (s.fprLower fs) (s.fprLower ft)))

/-- A unary single operation. -/
def fpUnaryS (s : State) (op : FpUnary) (fs fd : RegNum) : Outcome :=
  withCp1 s <| fpFinishS s fd (op .single (fpEnvOf s.fcsr) (freeV s) (s.fprS fs))

/-- A unary double operation. -/
def fpUnaryD (s : State) (op : FpUnary) (fs fd : RegNum) : Outcome :=
  withCp1 s <| withFpr64 s [fs, fd] <| fpFinishD s fd (op .double (fpEnvOf s.fcsr) (freeV s) (s.readFpr fs))

/-- A unary paired-single operation. -/
def fpUnaryPs (s : State) (op : FpUnary) (fs fd : RegNum) : Outcome :=
  withCp1 s <| withFpr64 s [fs, fd] <|
    fpFinishD s fd
      (fpPair (op .single (fpEnvOf s.fcsr) (freeVUpper s) (s.fprUpper fs))
        (op .single (fpEnvOf s.fcsr) (freeV s) (s.fprLower fs)))

/-- A single multiply-add: fd is addend and destination (49_fpu_ps_madd.md R515). -/
def fpMaddS (s : State) (kind : MaddKind) (ft fs fd : RegNum) : Outcome :=
  withCp1 s <|
    fpFinishS s fd
      (fpMadd .single (fpEnvOf s.fcsr) (freeV s) kind (fpUnpack .single (s.fprS fd)) (fpUnpack .single (s.fprS fs))
        (fpUnpack .single (s.fprS ft)))

/-- A double multiply-add. -/
def fpMaddD (s : State) (kind : MaddKind) (ft fs fd : RegNum) : Outcome :=
  withCp1 s <| withFpr64 s [ft, fs, fd] <|
    fpFinishD s fd
      (fpMadd .double (fpEnvOf s.fcsr) (freeV s) kind (fpUnpack .double (s.readFpr fd))
        (fpUnpack .double (s.readFpr fs)) (fpUnpack .double (s.readFpr ft)))

/-- A paired-single multiply-add: each half as a single one. -/
def fpMaddPs (s : State) (kind : MaddKind) (ft fs fd : RegNum) : Outcome :=
  let half (v : Bool) (d a b : Word) : FpResult :=
    fpMadd .single (fpEnvOf s.fcsr) v kind (fpUnpack .single d) (fpUnpack .single a) (fpUnpack .single b)
  withCp1 s <| withFpr64 s [ft, fs, fd] <|
    fpFinishD s fd
      (fpPair (half (freeVUpper s) (s.fprUpper fd) (s.fprUpper fs) (s.fprUpper ft))
        (half (freeV s) (s.fprLower fd) (s.fprLower fs) (s.fprLower ft)))

/-- The end of a comparison: V if it is invalid, then the trap or the condition bits (48_fpu.md R452), which the very next
instruction reads (R425). -/
def fpFinishCompare (s : State) (invalid : Bool) (update : BitVec 32 → BitVec 32) : Outcome :=
  fpComplete s (if invalid then causeV else causeNone) fun s' => advance { s' with fcsr := update s'.fcsr }

/-- A comparison of two values: CC0 is the result (R452). -/
def fpCompareValues (s : State) (cond : BitVec 4) (a b : FpValue) : Outcome :=
  fpFinishCompare s (compareInvalid cond a b) fun f => fcsrSetCc0 f (conditionHolds cond (fpRelation a b))

/-- A single comparison of fs with ft. -/
def fpCompareS (s : State) (cond : BitVec 4) (ft fs : RegNum) : Outcome :=
  withCp1 s (fpCompareValues s cond (fpUnpack .single (s.fprS fs)) (fpUnpack .single (s.fprS ft)))

/-- A double comparison of fs with ft. -/
def fpCompareD (s : State) (cond : BitVec 4) (ft fs : RegNum) : Outcome :=
  withCp1 s <| withFpr64 s [ft, fs] <|
    fpCompareValues s cond (fpUnpack .double (s.readFpr fs)) (fpUnpack .double (s.readFpr ft))

/-- A paired-single comparison: CC0 from the lower, CC1 from the upper halves (49_fpu_ps_madd.md R498). -/
def fpComparePs (s : State) (cond : BitVec 4) (ft fs : RegNum) : Outcome :=
  let la := fpUnpack .single (s.fprLower fs)
  let lb := fpUnpack .single (s.fprLower ft)
  let ua := fpUnpack .single (s.fprUpper fs)
  let ub := fpUnpack .single (s.fprUpper ft)
  withCp1 s <| withFpr64 s [ft, fs] <|
    fpFinishCompare s (compareInvalid cond la lb || compareInvalid cond ua ub) fun f =>
      fcsrSetCc1 (fcsrSetCc0 f (conditionHolds cond (fpRelation la lb))) (conditionHolds cond (fpRelation ua ub))

end Sys2Proof.Machine
end

