-- ==== Sys2Proof/Machine/FpArith.lean ====
section
/-! DEFINITION. Single and double arithmetic (48_fpu.md R426 to R433, without MOV). -/

namespace Sys2Proof.Machine

/-- ADD.S (R426). -/
def execAddS (ft fs fd : RegNum) (s : State) : Outcome :=
  fpBinaryS s fpAdd ft fs fd

/-- ADD.D (R426). -/
def execAddD (ft fs fd : RegNum) (s : State) : Outcome :=
  fpBinaryD s fpAdd ft fs fd

/-- SUB.S (R427). -/
def execSubS (ft fs fd : RegNum) (s : State) : Outcome :=
  fpBinaryS s fpSub ft fs fd

/-- SUB.D (R427). -/
def execSubD (ft fs fd : RegNum) (s : State) : Outcome :=
  fpBinaryD s fpSub ft fs fd

/-- MUL.S (R428). -/
def execMulS (ft fs fd : RegNum) (s : State) : Outcome :=
  fpBinaryS s fpMul ft fs fd

/-- MUL.D (R428). -/
def execMulD (ft fs fd : RegNum) (s : State) : Outcome :=
  fpBinaryD s fpMul ft fs fd

/-- DIV.S (R429): outside the spec with Status.NOFDIV set (log 32). -/
def execDivS (ft fs fd : RegNum) (s : State) : Outcome :=
  withCp1 s <| if statusNofdiv s.cp0.status then .refused .fpUnitDisabled else fpBinaryS s fpDiv ft fs fd

/-- DIV.D (R429): outside the spec with Status.NOFDIV set (log 32). -/
def execDivD (ft fs fd : RegNum) (s : State) : Outcome :=
  withCp1 s <| if statusNofdiv s.cp0.status then .refused .fpUnitDisabled else fpBinaryD s fpDiv ft fs fd

/-- SQRT.S (R430): outside the spec with Status.NOFSQR set (log 32). -/
def execSqrtS (fs fd : RegNum) (s : State) : Outcome :=
  withCp1 s <| if statusNofsqr s.cp0.status then .refused .fpUnitDisabled
    else fpUnaryS s (fun f env v a => fpSqrt f env v (fpUnpack f a)) fs fd

/-- SQRT.D (R430): outside the spec with Status.NOFSQR set (log 32). -/
def execSqrtD (fs fd : RegNum) (s : State) : Outcome :=
  withCp1 s <| if statusNofsqr s.cp0.status then .refused .fpUnitDisabled
    else fpUnaryD s (fun f env v a => fpSqrt f env v (fpUnpack f a)) fs fd

/-- ABS.S (R431). -/
def execAbsS (fs fd : RegNum) (s : State) : Outcome :=
  fpUnaryS s (fun f _ v a => fpAbs f v a) fs fd

/-- ABS.D (R431). -/
def execAbsD (fs fd : RegNum) (s : State) : Outcome :=
  fpUnaryD s (fun f _ v a => fpAbs f v a) fs fd

/-- NEG.S (R433). -/
def execNegS (fs fd : RegNum) (s : State) : Outcome :=
  fpUnaryS s (fun f _ v a => fpNeg f v a) fs fd

/-- NEG.D (R433). -/
def execNegD (fs fd : RegNum) (s : State) : Outcome :=
  fpUnaryD s (fun f _ v a => fpNeg f v a) fs fd

end Sys2Proof.Machine
end

