-- ==== Sys2Proof/Machine/FpCompare.lean ====
section
/-! DEFINITION. The comparisons (48_fpu.md R452 to R468, 49_fpu_ps_madd.md R498 to R514). -/

namespace Sys2Proof.Machine

/-- C.F.S (R453): cond 0. -/
def execCFS (ft fs : RegNum) (s : State) : Outcome :=
  fpCompareS s 0#4 ft fs

/-- C.F.D (R453): cond 0. -/
def execCFD (ft fs : RegNum) (s : State) : Outcome :=
  fpCompareD s 0#4 ft fs

/-- C.F.PS (R499): cond 0. -/
def execCFPs (ft fs : RegNum) (s : State) : Outcome :=
  fpComparePs s 0#4 ft fs

/-- C.UN.S (R454): cond 1. -/
def execCUnS (ft fs : RegNum) (s : State) : Outcome :=
  fpCompareS s 1#4 ft fs

/-- C.UN.D (R454): cond 1. -/
def execCUnD (ft fs : RegNum) (s : State) : Outcome :=
  fpCompareD s 1#4 ft fs

/-- C.UN.PS (R500): cond 1. -/
def execCUnPs (ft fs : RegNum) (s : State) : Outcome :=
  fpComparePs s 1#4 ft fs

/-- C.EQ.S (R455): cond 2. -/
def execCEqS (ft fs : RegNum) (s : State) : Outcome :=
  fpCompareS s 2#4 ft fs

/-- C.EQ.D (R455): cond 2. -/
def execCEqD (ft fs : RegNum) (s : State) : Outcome :=
  fpCompareD s 2#4 ft fs

/-- C.EQ.PS (R501): cond 2. -/
def execCEqPs (ft fs : RegNum) (s : State) : Outcome :=
  fpComparePs s 2#4 ft fs

/-- C.UEQ.S (R456): cond 3. -/
def execCUeqS (ft fs : RegNum) (s : State) : Outcome :=
  fpCompareS s 3#4 ft fs

/-- C.UEQ.D (R456): cond 3. -/
def execCUeqD (ft fs : RegNum) (s : State) : Outcome :=
  fpCompareD s 3#4 ft fs

/-- C.UEQ.PS (R502): cond 3. -/
def execCUeqPs (ft fs : RegNum) (s : State) : Outcome :=
  fpComparePs s 3#4 ft fs

/-- C.OLT.S (R457): cond 4. -/
def execCOltS (ft fs : RegNum) (s : State) : Outcome :=
  fpCompareS s 4#4 ft fs

/-- C.OLT.D (R457): cond 4. -/
def execCOltD (ft fs : RegNum) (s : State) : Outcome :=
  fpCompareD s 4#4 ft fs

/-- C.OLT.PS (R503): cond 4. -/
def execCOltPs (ft fs : RegNum) (s : State) : Outcome :=
  fpComparePs s 4#4 ft fs

/-- C.ULT.S (R458): cond 5. -/
def execCUltS (ft fs : RegNum) (s : State) : Outcome :=
  fpCompareS s 5#4 ft fs

/-- C.ULT.D (R458): cond 5. -/
def execCUltD (ft fs : RegNum) (s : State) : Outcome :=
  fpCompareD s 5#4 ft fs

/-- C.ULT.PS (R504): cond 5. -/
def execCUltPs (ft fs : RegNum) (s : State) : Outcome :=
  fpComparePs s 5#4 ft fs

/-- C.OLE.S (R459): cond 6. -/
def execCOleS (ft fs : RegNum) (s : State) : Outcome :=
  fpCompareS s 6#4 ft fs

/-- C.OLE.D (R459): cond 6. -/
def execCOleD (ft fs : RegNum) (s : State) : Outcome :=
  fpCompareD s 6#4 ft fs

/-- C.OLE.PS (R505): cond 6. -/
def execCOlePs (ft fs : RegNum) (s : State) : Outcome :=
  fpComparePs s 6#4 ft fs

/-- C.ULE.S (R460): cond 7. -/
def execCUleS (ft fs : RegNum) (s : State) : Outcome :=
  fpCompareS s 7#4 ft fs

/-- C.ULE.D (R460): cond 7. -/
def execCUleD (ft fs : RegNum) (s : State) : Outcome :=
  fpCompareD s 7#4 ft fs

/-- C.ULE.PS (R506): cond 7. -/
def execCUlePs (ft fs : RegNum) (s : State) : Outcome :=
  fpComparePs s 7#4 ft fs

/-- C.SF.S (R461): cond 8. -/
def execCSfS (ft fs : RegNum) (s : State) : Outcome :=
  fpCompareS s 8#4 ft fs

/-- C.SF.D (R461): cond 8. -/
def execCSfD (ft fs : RegNum) (s : State) : Outcome :=
  fpCompareD s 8#4 ft fs

/-- C.SF.PS (R507): cond 8. -/
def execCSfPs (ft fs : RegNum) (s : State) : Outcome :=
  fpComparePs s 8#4 ft fs

/-- C.NGLE.S (R462): cond 9. -/
def execCNgleS (ft fs : RegNum) (s : State) : Outcome :=
  fpCompareS s 9#4 ft fs

/-- C.NGLE.D (R462): cond 9. -/
def execCNgleD (ft fs : RegNum) (s : State) : Outcome :=
  fpCompareD s 9#4 ft fs

/-- C.NGLE.PS (R508): cond 9. -/
def execCNglePs (ft fs : RegNum) (s : State) : Outcome :=
  fpComparePs s 9#4 ft fs

/-- C.SEQ.S (R463): cond 10. -/
def execCSeqS (ft fs : RegNum) (s : State) : Outcome :=
  fpCompareS s 10#4 ft fs

/-- C.SEQ.D (R463): cond 10. -/
def execCSeqD (ft fs : RegNum) (s : State) : Outcome :=
  fpCompareD s 10#4 ft fs

/-- C.SEQ.PS (R509): cond 10. -/
def execCSeqPs (ft fs : RegNum) (s : State) : Outcome :=
  fpComparePs s 10#4 ft fs

/-- C.NGL.S (R464): cond 11. -/
def execCNglS (ft fs : RegNum) (s : State) : Outcome :=
  fpCompareS s 11#4 ft fs

/-- C.NGL.D (R464): cond 11. -/
def execCNglD (ft fs : RegNum) (s : State) : Outcome :=
  fpCompareD s 11#4 ft fs

/-- C.NGL.PS (R510): cond 11. -/
def execCNglPs (ft fs : RegNum) (s : State) : Outcome :=
  fpComparePs s 11#4 ft fs

/-- C.LT.S (R465): cond 12. -/
def execCLtS (ft fs : RegNum) (s : State) : Outcome :=
  fpCompareS s 12#4 ft fs

/-- C.LT.D (R465): cond 12. -/
def execCLtD (ft fs : RegNum) (s : State) : Outcome :=
  fpCompareD s 12#4 ft fs

/-- C.LT.PS (R511): cond 12. -/
def execCLtPs (ft fs : RegNum) (s : State) : Outcome :=
  fpComparePs s 12#4 ft fs

/-- C.NGE.S (R466): cond 13. -/
def execCNgeS (ft fs : RegNum) (s : State) : Outcome :=
  fpCompareS s 13#4 ft fs

/-- C.NGE.D (R466): cond 13. -/
def execCNgeD (ft fs : RegNum) (s : State) : Outcome :=
  fpCompareD s 13#4 ft fs

/-- C.NGE.PS (R512): cond 13. -/
def execCNgePs (ft fs : RegNum) (s : State) : Outcome :=
  fpComparePs s 13#4 ft fs

/-- C.LE.S (R467): cond 14. -/
def execCLeS (ft fs : RegNum) (s : State) : Outcome :=
  fpCompareS s 14#4 ft fs

/-- C.LE.D (R467): cond 14. -/
def execCLeD (ft fs : RegNum) (s : State) : Outcome :=
  fpCompareD s 14#4 ft fs

/-- C.LE.PS (R513): cond 14. -/
def execCLePs (ft fs : RegNum) (s : State) : Outcome :=
  fpComparePs s 14#4 ft fs

/-- C.NGT.S (R468): cond 15. -/
def execCNgtS (ft fs : RegNum) (s : State) : Outcome :=
  fpCompareS s 15#4 ft fs

/-- C.NGT.D (R468): cond 15. -/
def execCNgtD (ft fs : RegNum) (s : State) : Outcome :=
  fpCompareD s 15#4 ft fs

/-- C.NGT.PS (R514): cond 15. -/
def execCNgtPs (ft fs : RegNum) (s : State) : Outcome :=
  fpComparePs s 15#4 ft fs

end Sys2Proof.Machine
end

