-- ==== Sys2Proof/Machine/FpConvert.lean ====
section
/-! DEFINITION. The floating-point conversions (48_fpu.md R434 to R445). The mode argument picks the rounding direction. -/

namespace Sys2Proof.Machine

/-- A single rounded to a 32-bit integer. -/
def fpToFixedSW (s : State) (mode : FpEnv → RoundingMode) (fs fd : RegNum) : Outcome :=
  withCp1 s <|
    fpFinishS s fd
      (fpConvertToInt 32 (mode (fpEnvOf s.fcsr)) (freeV s) (fpUnpack .single (s.fprS fs)))

/-- A double rounded to a 32-bit integer. -/
def fpToFixedDW (s : State) (mode : FpEnv → RoundingMode) (fs fd : RegNum) : Outcome :=
  withCp1 s <| withFpr64 s [fs] <|
    fpFinishS s fd (fpConvertToInt 32 (mode (fpEnvOf s.fcsr)) (freeV s) (fpUnpack .double (s.readFpr fs)))

/-- A single rounded to a 64-bit integer. -/
def fpToFixedSL (s : State) (mode : FpEnv → RoundingMode) (fs fd : RegNum) : Outcome :=
  withCp1 s <| withFpr64 s [fd] <|
    fpFinishD s fd
      (fpConvertToInt 64 (mode (fpEnvOf s.fcsr)) (freeV s) (fpUnpack .single (s.fprS fs)))

/-- A double rounded to a 64-bit integer. -/
def fpToFixedDL (s : State) (mode : FpEnv → RoundingMode) (fs fd : RegNum) : Outcome :=
  withCp1 s <| withFpr64 s [fs, fd] <|
    fpFinishD s fd (fpConvertToInt 64 (mode (fpEnvOf s.fcsr)) (freeV s) (fpUnpack .double (s.readFpr fs)))

/-- ROUND.L.S (R434). -/
def execRoundLS (fs fd : RegNum) (s : State) : Outcome :=
  fpToFixedSL s (fun _ => .nearest) fs fd

/-- ROUND.L.D (R434). -/
def execRoundLD (fs fd : RegNum) (s : State) : Outcome :=
  fpToFixedDL s (fun _ => .nearest) fs fd

/-- TRUNC.L.S (R435). -/
def execTruncLS (fs fd : RegNum) (s : State) : Outcome :=
  fpToFixedSL s (fun _ => .towardZero) fs fd

/-- TRUNC.L.D (R435). -/
def execTruncLD (fs fd : RegNum) (s : State) : Outcome :=
  fpToFixedDL s (fun _ => .towardZero) fs fd

/-- CEIL.L.S (R436). -/
def execCeilLS (fs fd : RegNum) (s : State) : Outcome :=
  fpToFixedSL s (fun _ => .up) fs fd

/-- CEIL.L.D (R436). -/
def execCeilLD (fs fd : RegNum) (s : State) : Outcome :=
  fpToFixedDL s (fun _ => .up) fs fd

/-- FLOOR.L.S (R437). -/
def execFloorLS (fs fd : RegNum) (s : State) : Outcome :=
  fpToFixedSL s (fun _ => .down) fs fd

/-- FLOOR.L.D (R437). -/
def execFloorLD (fs fd : RegNum) (s : State) : Outcome :=
  fpToFixedDL s (fun _ => .down) fs fd

/-- ROUND.W.S (R438). -/
def execRoundWS (fs fd : RegNum) (s : State) : Outcome :=
  fpToFixedSW s (fun _ => .nearest) fs fd

/-- ROUND.W.D (R438). -/
def execRoundWD (fs fd : RegNum) (s : State) : Outcome :=
  fpToFixedDW s (fun _ => .nearest) fs fd

/-- TRUNC.W.S (R439). -/
def execTruncWS (fs fd : RegNum) (s : State) : Outcome :=
  fpToFixedSW s (fun _ => .towardZero) fs fd

/-- TRUNC.W.D (R439). -/
def execTruncWD (fs fd : RegNum) (s : State) : Outcome :=
  fpToFixedDW s (fun _ => .towardZero) fs fd

/-- CEIL.W.S (R440). -/
def execCeilWS (fs fd : RegNum) (s : State) : Outcome :=
  fpToFixedSW s (fun _ => .up) fs fd

/-- CEIL.W.D (R440). -/
def execCeilWD (fs fd : RegNum) (s : State) : Outcome :=
  fpToFixedDW s (fun _ => .up) fs fd

/-- FLOOR.W.S (R441). -/
def execFloorWS (fs fd : RegNum) (s : State) : Outcome :=
  fpToFixedSW s (fun _ => .down) fs fd

/-- FLOOR.W.D (R441). -/
def execFloorWD (fs fd : RegNum) (s : State) : Outcome :=
  fpToFixedDW s (fun _ => .down) fs fd

/-- CVT.S.D (R442). -/
def execCvtSD (fs fd : RegNum) (s : State) : Outcome :=
  withCp1 s <| withFpr64 s [fs] <|
    fpFinishS s fd (fpConvert .single (fpEnvOf s.fcsr) (freeV s) (fpUnpack .double (s.readFpr fs)))

/-- CVT.S.W (R442). -/
def execCvtSW (fs fd : RegNum) (s : State) : Outcome :=
  withCp1 s <| fpFinishS s fd (fpOfInt .single (fpEnvOf s.fcsr) (s.readFpr32 fs).toInt)

/-- CVT.S.L (R442). -/
def execCvtSL (fs fd : RegNum) (s : State) : Outcome :=
  withCp1 s <| withFpr64 s [fs] <|
    fpFinishS s fd (fpOfInt .single (fpEnvOf s.fcsr) (s.readFpr fs).toInt)

/-- CVT.D.S (R443). -/
def execCvtDS (fs fd : RegNum) (s : State) : Outcome :=
  withCp1 s <| withFpr64 s [fd] <|
    fpFinishD s fd (fpConvert .double (fpEnvOf s.fcsr) (freeV s) (fpUnpack .single (s.fprS fs)))

/-- CVT.D.W (R443). -/
def execCvtDW (fs fd : RegNum) (s : State) : Outcome :=
  withCp1 s <| withFpr64 s [fd] <|
    fpFinishD s fd (fpOfInt .double (fpEnvOf s.fcsr) (s.readFpr32 fs).toInt)

/-- CVT.D.L (R443). -/
def execCvtDL (fs fd : RegNum) (s : State) : Outcome :=
  withCp1 s <| withFpr64 s [fs, fd] <|
    fpFinishD s fd (fpOfInt .double (fpEnvOf s.fcsr) (s.readFpr fs).toInt)

/-- CVT.W.S (R444). -/
def execCvtWS (fs fd : RegNum) (s : State) : Outcome :=
  fpToFixedSW s (fun e => e.rm) fs fd

/-- CVT.W.D (R444). -/
def execCvtWD (fs fd : RegNum) (s : State) : Outcome :=
  fpToFixedDW s (fun e => e.rm) fs fd

/-- CVT.L.S (R445). -/
def execCvtLS (fs fd : RegNum) (s : State) : Outcome :=
  fpToFixedSL s (fun e => e.rm) fs fd

/-- CVT.L.D (R445). -/
def execCvtLD (fs fd : RegNum) (s : State) : Outcome :=
  fpToFixedDL s (fun e => e.rm) fs fd

end Sys2Proof.Machine
end

