-- ==== Sys2Proof/Machine/FpLoadStore.lean ====
section
/-! DEFINITION. The floating-point loads and stores (40_load_store.md R224 to R229). -/

namespace Sys2Proof.Machine

/-- LWC1 (R224): a word into a 32-bit register. -/
def execLwc1 (base ft : RegNum) (offset : BitVec 16) (s : State) : Outcome :=
  withCp1 s <|
    (loadData s (s.effectiveAddress base offset) 4).finish s fun v s' => advance (s'.writeFpr32 ft (low32 v))

/-- LDC1 (R225): a doubleword into a 64-bit register. -/
def execLdc1 (base ft : RegNum) (offset : BitVec 16) (s : State) : Outcome :=
  withCp1 s <| withFpr64 s [ft] <|
    (loadData s (s.effectiveAddress base offset) 8).finish s fun v s' => advance (s'.writeFpr ft v)

/-- SWC1 (R228): a 32-bit register. -/
def execSwc1 (base ft : RegNum) (offset : BitVec 16) (s : State) : Outcome :=
  withCp1 s <| storeWord s base offset 4 (s.fprS ft)

/-- SDC1 (R229): a 64-bit register. -/
def execSdc1 (base ft : RegNum) (offset : BitVec 16) (s : State) : Outcome :=
  withCp1 s <| withFpr64 s [ft] <| storeWord s base offset 8 (s.readFpr ft)

end Sys2Proof.Machine
end

