-- ==== Sys2Proof/Machine/FpMadd.lean ====
section
/-! DEFINITION. The multiply-add group (49_fpu_ps_madd.md R515 to R519). -/

namespace Sys2Proof.Machine

/-- MADD.S (R516). -/
def execMaddS (ft fs fd : RegNum) (s : State) : Outcome :=
  fpMaddS s .madd ft fs fd

/-- MADD.D (R516). -/
def execMaddD (ft fs fd : RegNum) (s : State) : Outcome :=
  fpMaddD s .madd ft fs fd

/-- MADD.PS (R516). -/
def execMaddPs (ft fs fd : RegNum) (s : State) : Outcome :=
  fpMaddPs s .madd ft fs fd

/-- MSUB.S (R517). -/
def execMsubS (ft fs fd : RegNum) (s : State) : Outcome :=
  fpMaddS s .msub ft fs fd

/-- MSUB.D (R517). -/
def execMsubD (ft fs fd : RegNum) (s : State) : Outcome :=
  fpMaddD s .msub ft fs fd

/-- MSUB.PS (R517). -/
def execMsubPs (ft fs fd : RegNum) (s : State) : Outcome :=
  fpMaddPs s .msub ft fs fd

/-- NMADD.S (R518). -/
def execNmaddS (ft fs fd : RegNum) (s : State) : Outcome :=
  fpMaddS s .nmadd ft fs fd

/-- NMADD.D (R518). -/
def execNmaddD (ft fs fd : RegNum) (s : State) : Outcome :=
  fpMaddD s .nmadd ft fs fd

/-- NMADD.PS (R518). -/
def execNmaddPs (ft fs fd : RegNum) (s : State) : Outcome :=
  fpMaddPs s .nmadd ft fs fd

/-- NMSUB.S (R519). -/
def execNmsubS (ft fs fd : RegNum) (s : State) : Outcome :=
  fpMaddS s .nmsub ft fs fd

/-- NMSUB.D (R519). -/
def execNmsubD (ft fs fd : RegNum) (s : State) : Outcome :=
  fpMaddD s .nmsub ft fs fd

/-- NMSUB.PS (R519). -/
def execNmsubPs (ft fs fd : RegNum) (s : State) : Outcome :=
  fpMaddPs s .nmsub ft fs fd

end Sys2Proof.Machine
end

