-- ==== Sys2Proof/Machine/FpMove.lean ====
section
/-! DEFINITION. Floating-point moves, the control registers and the branches on CC0 (48_fpu.md R432, R446 to R451, R469 to
R473, 49_fpu_ps_madd.md R496). -/

namespace Sys2Proof.Machine

/-- MOV.S (R432): the bits are copied, FCSR is unchanged. -/
def execMovS (fs fd : RegNum) (s : State) : Outcome :=
  withCp1 s (advance (s.writeFpr32 fd (s.readFpr32 fs)))

/-- MOV.D (R432): the bits are copied, FCSR is unchanged. -/
def execMovD (fs fd : RegNum) (s : State) : Outcome :=
  withCp1 s <| withFpr64 s [fs, fd] (advance (s.writeFpr fd (s.readFpr fs)))

/-- MOV.PS (R496): the bits are copied, FCSR is unchanged. -/
def execMovPs (fs fd : RegNum) (s : State) : Outcome :=
  withCp1 s <| withFpr64 s [fs, fd] (advance (s.writeFpr fd (s.readFpr fs)))

/-- MFC1 (R446). -/
def execMfc1 (rt fs : RegNum) (s : State) : Outcome :=
  withCp1 s (finishGpr s rt (sext32 (s.readFpr32 fs)))

/-- DMFC1 (R448). -/
def execDmfc1 (rt fs : RegNum) (s : State) : Outcome :=
  withCp1 s <| withFpr64 s [fs] (finishGpr s rt (s.readFpr fs))

/-- MTC1 (R447). -/
def execMtc1 (rt fs : RegNum) (s : State) : Outcome :=
  withCp1 s (advance (s.writeFpr32 fs (low32 (s.readGpr rt))))

/-- DMTC1 (R449). -/
def execDmtc1 (rt fs : RegNum) (s : State) : Outcome :=
  withCp1 s <| withFpr64 s [fs] (advance (s.writeFpr fs (s.readGpr rt)))

/-- CFC1 (R450): registers 0 and 31; the others are outside the spec. -/
def execCfc1 (rt fs : RegNum) (s : State) : Outcome :=
  withCp1 s <|
    if fs = 0#5 then finishGpr s rt (sext32 Config.fcr0)
    else if fs = 31#5 then finishGpr s rt (sext32 s.fcsr)
    else .refused .fpControlRegister

/-- CTC1 (R451): register 31, with the exception its new Causes and Enables call for; a write to 0 is ignored; the others
are outside the spec. -/
def execCtc1 (rt fs : RegNum) (s : State) : Outcome :=
  withCp1 s <|
    if fs = 0#5 then advance s
    else if fs = 31#5 then
      let f := low32 (s.readGpr rt) &&& fcsrMask
      if fpTraps f (fcsrCauses f) then raise .floatingPoint { s with fcsr := f } else advance { s with fcsr := f }
    else .refused .fpControlRegister

/-- BC1F (R470). Like the three after it, it reads CC0 as the instruction before it left it (R425, R469). -/
def execBc1f (imm : BitVec 16) (s : State) : Outcome :=
  withCp1 s (branchIf s (!fcsrCc0 s.fcsr) imm)

/-- BC1T (R471). -/
def execBc1t (imm : BitVec 16) (s : State) : Outcome :=
  withCp1 s (branchIf s (fcsrCc0 s.fcsr) imm)

/-- BC1FL (R472). -/
def execBc1fl (imm : BitVec 16) (s : State) : Outcome :=
  withCp1 s (branchLikelyIf s (!fcsrCc0 s.fcsr) imm)

/-- BC1TL (R473). -/
def execBc1tl (imm : BitVec 16) (s : State) : Outcome :=
  withCp1 s (branchLikelyIf s (fcsrCc0 s.fcsr) imm)

end Sys2Proof.Machine
end

