-- ==== Sys2Proof/Machine/FpPaired.lean ====
section
/-! DEFINITION. Paired-single arithmetic (49_fpu_ps_madd.md R490 to R497, without MOV). -/

namespace Sys2Proof.Machine

/-- ADD.PS (R492). -/
def execAddPs (ft fs fd : RegNum) (s : State) : Outcome :=
  fpBinaryPs s fpAdd ft fs fd

/-- SUB.PS (R493). -/
def execSubPs (ft fs fd : RegNum) (s : State) : Outcome :=
  fpBinaryPs s fpSub ft fs fd

/-- MUL.PS (R494). -/
def execMulPs (ft fs fd : RegNum) (s : State) : Outcome :=
  fpBinaryPs s fpMul ft fs fd

/-- ABS.PS (R495). -/
def execAbsPs (fs fd : RegNum) (s : State) : Outcome :=
  fpUnaryPs s (fun f _ v a => fpAbs f v a) fs fd

/-- NEG.PS (R497). -/
def execNegPs (fs fd : RegNum) (s : State) : Outcome :=
  fpUnaryPs s (fun f _ v a => fpNeg f v a) fs fd

end Sys2Proof.Machine
end

