-- ==== Sys2Proof/Machine/Load.lean ====
section
/-! DEFINITION. The loads (40_load_store.md R200 to R215). A load delivers its bytes as an unsigned doubleword; each
meaning gives the width and the extension. -/

namespace Sys2Proof.Machine

/-- Sign extension of the `n` low bits of a loaded value. -/
def extendSigned (n : Nat) (v : Word) : Word := (v.setWidth n).signExtend 64

/-- LWL: `v` holds bytes 0 to `b` of the word; they become the most significant bytes of the low word of `old`. -/
def placeWordLeft (b : Nat) (old v : Word) : Word :=
  let keep := BitVec.ofNat 32 (2 ^ (8 * (3 - b)) - 1)
  sext32 ((low32 v <<< (8 * (3 - b))) ||| (low32 old &&& keep))

/-- LWR: `v` holds bytes `b` to 3 of the word; they become the least significant bytes of the low word of `old`. -/
def placeWordRight (b : Nat) (old v : Word) : Word :=
  let keep := ~~~BitVec.ofNat 32 (2 ^ (32 - 8 * b) - 1)
  sext32 ((low32 old &&& keep) ||| low32 v)

/-- LDL: `v` holds bytes 0 to `b` of the doubleword; they become the most significant bytes of `old`. -/
def placeDoubleLeft (b : Nat) (old v : Word) : Word :=
  (v <<< (8 * (7 - b))) ||| (old &&& BitVec.ofNat 64 (2 ^ (8 * (7 - b)) - 1))

/-- LDR: `v` holds bytes `b` to 7 of the doubleword; they become the least significant bytes of `old`. -/
def placeDoubleRight (b : Nat) (old v : Word) : Word :=
  (old &&& ~~~BitVec.ofNat 64 (2 ^ (64 - 8 * b) - 1)) ||| v

/-- LB (R202): a byte, sign-extended. -/
def execLb (base rt : RegNum) (offset : BitVec 16) (s : State) : Outcome :=
  loadGpr s base rt offset 1 (extendSigned 8)

/-- LBU (R203): a byte, zero-extended. -/
def execLbu (base rt : RegNum) (offset : BitVec 16) (s : State) : Outcome :=
  loadGpr s base rt offset 1 id

/-- LH (R204): a halfword, sign-extended. -/
def execLh (base rt : RegNum) (offset : BitVec 16) (s : State) : Outcome :=
  loadGpr s base rt offset 2 (extendSigned 16)

/-- LHU (R205): a halfword, zero-extended. -/
def execLhu (base rt : RegNum) (offset : BitVec 16) (s : State) : Outcome :=
  loadGpr s base rt offset 2 id

/-- LW (R206): a word, sign-extended. -/
def execLw (base rt : RegNum) (offset : BitVec 16) (s : State) : Outcome :=
  loadGpr s base rt offset 4 (extendSigned 32)

/-- LWU (R207): a word, zero-extended. -/
def execLwu (base rt : RegNum) (offset : BitVec 16) (s : State) : Outcome :=
  loadGpr s base rt offset 4 id

/-- LD (R208): a doubleword. -/
def execLd (base rt : RegNum) (offset : BitVec 16) (s : State) : Outcome :=
  loadGpr s base rt offset 8 id

/-- LWL (R209): the most significant bytes of the low word from the bytes up to the address. -/
def execLwl (base rt : RegNum) (offset : BitVec 16) (s : State) : Outcome :=
  loadLeft s base rt offset 4 placeWordLeft

/-- LWR (R210): the least significant bytes of the low word from the bytes from the address up. -/
def execLwr (base rt : RegNum) (offset : BitVec 16) (s : State) : Outcome :=
  loadRight s base rt offset 4 placeWordRight

/-- LDL (R211): the most significant bytes from the bytes up to the address. -/
def execLdl (base rt : RegNum) (offset : BitVec 16) (s : State) : Outcome :=
  loadLeft s base rt offset 8 placeDoubleLeft

/-- LDR (R212): the least significant bytes from the bytes from the address up. -/
def execLdr (base rt : RegNum) (offset : BitVec 16) (s : State) : Outcome :=
  loadRight s base rt offset 8 placeDoubleRight

/-- LL (R214): as LW, and LLbit becomes 1. -/
def execLl (base rt : RegNum) (offset : BitVec 16) (s : State) : Outcome :=
  linkedLoad s base rt offset 4 (extendSigned 32)

/-- LLD (R215): as LD, and LLbit becomes 1. -/
def execLld (base rt : RegNum) (offset : BitVec 16) (s : State) : Outcome :=
  linkedLoad s base rt offset 8 id

end Sys2Proof.Machine
end

