-- ==== Sys2Proof/Machine/MulDiv.lean ====
section
/-! DEFINITION. Multiply, divide and modulo (43_mul_div.md R275 to R301). A division by zero raises nothing; its result is
a free value (R301 (a)). -/

namespace Sys2Proof.Machine

/-- HI and LO replaced. -/
def State.setHiLo (s : State) (hi lo : Word) : State := { s with hi := hi, lo := lo }

/-- A 64-bit product of 32-bit operands in HI and LO: both halves sign-extended (R276, R277). -/
def State.setHiLo32 (s : State) (p : Word) : State := s.setHiLo (sext32 (p.extractLsb' 32 32)) (sext32 (low32 p))

/-- A 128-bit product in HI and LO (R278, R279). -/
def State.setHiLo64 (s : State) (p : BitVec 128) : State := s.setHiLo (p.extractLsb' 64 64) (p.setWidth 64)

/-- A quotient, free in step `q` when the divisor is zero (R301 (a)). -/
def freeQuotient (q : Nat) (zero : Bool) (v : Word) : Word := if zero then Config.anyValue .divQuotient q else v

/-- A remainder, free in step `q` when the divisor is zero (R301 (a)). -/
def freeRemainder (q : Nat) (zero : Bool) (v : Word) : Word := if zero then Config.anyValue .divRemainder q else v

/-- The signed 32-bit quotient of bits 31:0, truncated; -2^31 / -1 wraps (R280, R301 (b)). -/
def quot32 (q : Nat) (a b : Word) : Word := freeQuotient q (low32 b = 0#32) (sext32 ((low32 a).sdiv (low32 b)))
/-- The signed 32-bit remainder, with the sign of the dividend (R280). -/
def rem32 (q : Nat) (a b : Word) : Word := freeRemainder q (low32 b = 0#32) (sext32 ((low32 a).srem (low32 b)))
/-- The unsigned 32-bit quotient (R281). -/
def quotU32 (q : Nat) (a b : Word) : Word := freeQuotient q (low32 b = 0#32) (sext32 ((low32 a).udiv (low32 b)))
/-- The unsigned 32-bit remainder (R281). -/
def remU32 (q : Nat) (a b : Word) : Word := freeRemainder q (low32 b = 0#32) (sext32 ((low32 a).umod (low32 b)))
/-- The signed 64-bit quotient (R282). -/
def quot64 (q : Nat) (a b : Word) : Word := freeQuotient q (b = 0#64) (a.sdiv b)
/-- The signed 64-bit remainder (R282). -/
def rem64 (q : Nat) (a b : Word) : Word := freeRemainder q (b = 0#64) (a.srem b)
/-- The unsigned 64-bit quotient (R283). -/
def quotU64 (q : Nat) (a b : Word) : Word := freeQuotient q (b = 0#64) (a.udiv b)
/-- The unsigned 64-bit remainder (R283). -/
def remU64 (q : Nat) (a b : Word) : Word := freeRemainder q (b = 0#64) (a.umod b)

/-- MULT (R276): signed 32-bit product into HI and LO. -/
def execMult (rs rt : RegNum) (s : State) : Outcome :=
  advance (s.setHiLo32 ((low32 (s.readGpr rs)).signExtend 64 * (low32 (s.readGpr rt)).signExtend 64))

/-- MULTU (R277): unsigned 32-bit product into HI and LO. -/
def execMultu (rs rt : RegNum) (s : State) : Outcome :=
  advance (s.setHiLo32 ((low32 (s.readGpr rs)).setWidth 64 * (low32 (s.readGpr rt)).setWidth 64))

/-- DMULT (R278): signed 64-bit product into HI and LO. -/
def execDmult (rs rt : RegNum) (s : State) : Outcome :=
  advance (s.setHiLo64 ((s.readGpr rs).signExtend 128 * (s.readGpr rt).signExtend 128))

/-- DMULTU (R279): unsigned 64-bit product into HI and LO. -/
def execDmultu (rs rt : RegNum) (s : State) : Outcome :=
  advance (s.setHiLo64 ((s.readGpr rs).setWidth 128 * (s.readGpr rt).setWidth 128))

/-- DIV (R280): signed 32-bit quotient into LO, remainder into HI. -/
def execDiv (rs rt : RegNum) (s : State) : Outcome :=
  advance (s.setHiLo (rem32 s.seq (s.readGpr rs) (s.readGpr rt)) (quot32 s.seq (s.readGpr rs) (s.readGpr rt)))

/-- DIVU (R281): unsigned 32-bit quotient into LO, remainder into HI. -/
def execDivu (rs rt : RegNum) (s : State) : Outcome :=
advance (s.setHiLo (remU32 s.seq (s.readGpr rs) (s.readGpr rt)) (quotU32 s.seq (s.readGpr rs) (s.readGpr rt)))

/-- DDIV (R282): signed 64-bit quotient into LO, remainder into HI. -/
def execDdiv (rs rt : RegNum) (s : State) : Outcome :=
  advance (s.setHiLo (rem64 s.seq (s.readGpr rs) (s.readGpr rt)) (quot64 s.seq (s.readGpr rs) (s.readGpr rt)))

/-- DDIVU (R283): unsigned 64-bit quotient into LO, remainder into HI. -/
def execDdivu (rs rt : RegNum) (s : State) : Outcome :=
advance (s.setHiLo (remU64 s.seq (s.readGpr rs) (s.readGpr rt)) (quotU64 s.seq (s.readGpr rs) (s.readGpr rt)))

/-- MFHI (R284). -/
def execMfhi (rd : RegNum) (s : State) : Outcome :=
  finishGpr s rd s.hi

/-- MTHI (R285): LO is kept. -/
def execMthi (rs : RegNum) (s : State) : Outcome :=
  advance { s with hi := s.readGpr rs }

/-- MFLO (R286). -/
def execMflo (rd : RegNum) (s : State) : Outcome :=
  finishGpr s rd s.lo

/-- MTLO (R287): HI is kept. -/
def execMtlo (rs : RegNum) (s : State) : Outcome :=
  advance { s with lo := s.readGpr rs }

/-- MULTG (R289): signed 32-bit product, its low word. -/
def execMultg (rs rt rd : RegNum) (s : State) : Outcome :=
finishGpr s rd (sext32 (((low32 (s.readGpr rs)).signExtend 64 * (low32 (s.readGpr rt)).signExtend 64).setWidth 32))

/-- DMULTG (R290): signed 64-bit product, its low doubleword. -/
def execDmultg (rs rt rd : RegNum) (s : State) : Outcome :=
  finishGpr s rd (((s.readGpr rs).signExtend 128 * (s.readGpr rt).signExtend 128).setWidth 64)

/-- MULTUG (R291): unsigned 32-bit product, its low word. -/
def execMultug (rs rt rd : RegNum) (s : State) : Outcome :=
finishGpr s rd (sext32 (((low32 (s.readGpr rs)).setWidth 64 * (low32 (s.readGpr rt)).setWidth 64).setWidth 32))

/-- DMULTUG (R292): unsigned 64-bit product, its low doubleword. -/
def execDmultug (rs rt rd : RegNum) (s : State) : Outcome :=
  finishGpr s rd (((s.readGpr rs).setWidth 128 * (s.readGpr rt).setWidth 128).setWidth 64)

/-- DIVG (R293): signed 32-bit quotient. -/
def execDivg (rs rt rd : RegNum) (s : State) : Outcome :=
  finishGpr s rd (quot32 s.seq (s.readGpr rs) (s.readGpr rt))

/-- DDIVG (R294): signed 64-bit quotient. -/
def execDdivg (rs rt rd : RegNum) (s : State) : Outcome :=
  finishGpr s rd (quot64 s.seq (s.readGpr rs) (s.readGpr rt))

/-- DIVUG (R295): unsigned 32-bit quotient. -/
def execDivug (rs rt rd : RegNum) (s : State) : Outcome :=
  finishGpr s rd (quotU32 s.seq (s.readGpr rs) (s.readGpr rt))

/-- DDIVUG (R296): unsigned 64-bit quotient. -/
def execDdivug (rs rt rd : RegNum) (s : State) : Outcome :=
  finishGpr s rd (quotU64 s.seq (s.readGpr rs) (s.readGpr rt))

/-- MODG (R297): signed 32-bit remainder. -/
def execModg (rs rt rd : RegNum) (s : State) : Outcome :=
  finishGpr s rd (rem32 s.seq (s.readGpr rs) (s.readGpr rt))

/-- DMODG (R298): signed 64-bit remainder. -/
def execDmodg (rs rt rd : RegNum) (s : State) : Outcome :=
  finishGpr s rd (rem64 s.seq (s.readGpr rs) (s.readGpr rt))

/-- MODUG (R299): unsigned 32-bit remainder. -/
def execModug (rs rt rd : RegNum) (s : State) : Outcome :=
  finishGpr s rd (remU32 s.seq (s.readGpr rs) (s.readGpr rt))

/-- DMODUG (R300): unsigned 64-bit remainder. -/
def execDmodug (rs rt rd : RegNum) (s : State) : Outcome :=
  finishGpr s rd (remU64 s.seq (s.readGpr rs) (s.readGpr rt))

end Sys2Proof.Machine
end

