-- ==== Sys2Proof/Machine/Shift.lean ====
section
/-! DEFINITION. The shifts (45_shift.md R335 to R350). 32-bit shifts act on bits 31:0 and sign-extend; a variable shift takes
its amount from the low five or six bits of rs. -/

namespace Sys2Proof.Machine

/-- The amount of a variable 32-bit shift: bits 4:0 (R335). -/
def shiftAmount32 (v : Word) : Nat := (v.extractLsb' 0 5).toNat
/-- The amount of a variable 64-bit shift: bits 5:0 (R335). -/
def shiftAmount64 (v : Word) : Nat := (v.extractLsb' 0 6).toNat

/-- SLL (R336). -/
def execSll (rt rd sa : RegNum) (s : State) : Outcome :=
  finishGpr s rd (sext32 (low32 (s.readGpr rt) <<< sa.toNat))

/-- SRL (R337). -/
def execSrl (rt rd sa : RegNum) (s : State) : Outcome :=
  finishGpr s rd (sext32 (low32 (s.readGpr rt) >>> sa.toNat))

/-- SRA (R338). -/
def execSra (rt rd sa : RegNum) (s : State) : Outcome :=
  finishGpr s rd (sext32 ((low32 (s.readGpr rt)).sshiftRight sa.toNat))

/-- DSLL (R342). -/
def execDsll (rt rd sa : RegNum) (s : State) : Outcome :=
  finishGpr s rd (s.readGpr rt <<< sa.toNat)

/-- DSRL (R343). -/
def execDsrl (rt rd sa : RegNum) (s : State) : Outcome :=
  finishGpr s rd (s.readGpr rt >>> sa.toNat)

/-- DSRA (R344). -/
def execDsra (rt rd sa : RegNum) (s : State) : Outcome :=
  finishGpr s rd ((s.readGpr rt).sshiftRight sa.toNat)

/-- DSLL32 (R348). -/
def execDsll32 (rt rd sa : RegNum) (s : State) : Outcome :=
  finishGpr s rd (s.readGpr rt <<< (sa.toNat + 32))

/-- DSRL32 (R349). -/
def execDsrl32 (rt rd sa : RegNum) (s : State) : Outcome :=
  finishGpr s rd (s.readGpr rt >>> (sa.toNat + 32))

/-- DSRA32 (R350). -/
def execDsra32 (rt rd sa : RegNum) (s : State) : Outcome :=
  finishGpr s rd ((s.readGpr rt).sshiftRight (sa.toNat + 32))

/-- SLLV (R339). -/
def execSllv (rs rt rd : RegNum) (s : State) : Outcome :=
  finishGpr s rd (sext32 (low32 (s.readGpr rt) <<< shiftAmount32 (s.readGpr rs)))

/-- SRLV (R340). -/
def execSrlv (rs rt rd : RegNum) (s : State) : Outcome :=
  finishGpr s rd (sext32 (low32 (s.readGpr rt) >>> shiftAmount32 (s.readGpr rs)))

/-- SRAV (R341). -/
def execSrav (rs rt rd : RegNum) (s : State) : Outcome :=
  finishGpr s rd (sext32 ((low32 (s.readGpr rt)).sshiftRight (shiftAmount32 (s.readGpr rs))))

/-- DSLLV (R345). -/
def execDsllv (rs rt rd : RegNum) (s : State) : Outcome :=
  finishGpr s rd (s.readGpr rt <<< shiftAmount64 (s.readGpr rs))

/-- DSRLV (R346). -/
def execDsrlv (rs rt rd : RegNum) (s : State) : Outcome :=
  finishGpr s rd (s.readGpr rt >>> shiftAmount64 (s.readGpr rs))

/-- DSRAV (R347). -/
def execDsrav (rs rt rd : RegNum) (s : State) : Outcome :=
  finishGpr s rd ((s.readGpr rt).sshiftRight (shiftAmount64 (s.readGpr rs)))

end Sys2Proof.Machine
end

