-- ==== Sys2Proof/Machine/Store.lean ====
section
/-! DEFINITION. The stores, the conditional stores and SYNC (40_load_store.md R216 to R230). -/

namespace Sys2Proof.Machine

/-- SB (R216): the low byte. -/
def execSb (base rt : RegNum) (offset : BitVec 16) (s : State) : Outcome :=
  storeWord s base offset 1 (s.readGpr rt)

/-- SH (R217): the low halfword. -/
def execSh (base rt : RegNum) (offset : BitVec 16) (s : State) : Outcome :=
  storeWord s base offset 2 (s.readGpr rt)

/-- SW (R218): the low word. -/
def execSw (base rt : RegNum) (offset : BitVec 16) (s : State) : Outcome :=
  storeWord s base offset 4 (s.readGpr rt)

/-- SD (R219): the doubleword. -/
def execSd (base rt : RegNum) (offset : BitVec 16) (s : State) : Outcome :=
  storeWord s base offset 8 (s.readGpr rt)

/-- SWL (R220): the most significant bytes of the low word, to the bytes up to the address. -/
def execSwl (base rt : RegNum) (offset : BitVec 16) (s : State) : Outcome :=
  storeLeft s base rt offset 4

/-- SWR (R221): the least significant bytes of the low word, to the bytes from the address up. -/
def execSwr (base rt : RegNum) (offset : BitVec 16) (s : State) : Outcome :=
  storeRight s base rt offset 4

/-- SDL (R222): the most significant bytes, to the bytes up to the address. -/
def execSdl (base rt : RegNum) (offset : BitVec 16) (s : State) : Outcome :=
  storeLeft s base rt offset 8

/-- SDR (R223): the least significant bytes, to the bytes from the address up. -/
def execSdr (base rt : RegNum) (offset : BitVec 16) (s : State) : Outcome :=
  storeRight s base rt offset 8

/-- SC (R226): a word, if LLbit is set. -/
def execSc (base rt : RegNum) (offset : BitVec 16) (s : State) : Outcome :=
  conditionalStore s base rt offset 4

/-- SCD (R227): a doubleword, if LLbit is set. -/
def execScd (base rt : RegNum) (offset : BitVec 16) (s : State) : Outcome :=
  conditionalStore s base rt offset 8

/-- SYNC (R230): the gather buffer is drained; the rest is order, which one core in program order has (log 43). -/
def execSync (s : State) : Outcome :=
  (s.bus.drain s.seq).toMem.finish s fun _ s' => advance s'

end Sys2Proof.Machine
end

