-- ==== Sys2Proof/Machine/Trap.lean ====
section
/-! DEFINITION. SYSCALL, BREAK and the traps (46_special_trap.md R355 to R370). The code field reaches no state. -/

namespace Sys2Proof.Machine

/-- The trap exception if the condition holds, else nothing (R358). -/
def trapIf (s : State) (c : Bool) : Outcome := if c then raise .trap s else advance s

/-- SYSCALL (R355). -/
def execSyscall (_code : BitVec 20) (s : State) : Outcome :=
  raise .systemCall s

/-- BREAK (R356). -/
def execBrk (_code : BitVec 20) (s : State) : Outcome :=
  raise .breakpoint s

/-- TGE (R359). -/
def execTge (rs rt : RegNum) (_code : BitVec 10) (s : State) : Outcome :=
  trapIf s ((s.readGpr rt).sle (s.readGpr rs))

/-- TGEU (R360). -/
def execTgeu (rs rt : RegNum) (_code : BitVec 10) (s : State) : Outcome :=
  trapIf s ((s.readGpr rt).ule (s.readGpr rs))

/-- TLT (R361). -/
def execTlt (rs rt : RegNum) (_code : BitVec 10) (s : State) : Outcome :=
  trapIf s ((s.readGpr rs).slt (s.readGpr rt))

/-- TLTU (R362). -/
def execTltu (rs rt : RegNum) (_code : BitVec 10) (s : State) : Outcome :=
  trapIf s ((s.readGpr rs).ult (s.readGpr rt))

/-- TEQ (R363). -/
def execTeq (rs rt : RegNum) (_code : BitVec 10) (s : State) : Outcome :=
  trapIf s (s.readGpr rs = s.readGpr rt)

/-- TNE (R364). -/
def execTne (rs rt : RegNum) (_code : BitVec 10) (s : State) : Outcome :=
  trapIf s (s.readGpr rs ≠ s.readGpr rt)

/-- TGEI (R365). -/
def execTgei (rs : RegNum) (imm : BitVec 16) (s : State) : Outcome :=
  trapIf s ((sextImm imm).sle (s.readGpr rs))

/-- TGEIU (R366). -/
def execTgeiu (rs : RegNum) (imm : BitVec 16) (s : State) : Outcome :=
  trapIf s ((sextImm imm).ule (s.readGpr rs))

/-- TLTI (R367). -/
def execTlti (rs : RegNum) (imm : BitVec 16) (s : State) : Outcome :=
  trapIf s ((s.readGpr rs).slt (sextImm imm))

/-- TLTIU (R368). -/
def execTltiu (rs : RegNum) (imm : BitVec 16) (s : State) : Outcome :=
  trapIf s ((s.readGpr rs).ult (sextImm imm))

/-- TEQI (R369). -/
def execTeqi (rs : RegNum) (imm : BitVec 16) (s : State) : Outcome :=
  trapIf s (s.readGpr rs = sextImm imm)

/-- TNEI (R370). -/
def execTnei (rs : RegNum) (imm : BitVec 16) (s : State) : Outcome :=
  trapIf s (s.readGpr rs ≠ sextImm imm)

end Sys2Proof.Machine
end

