-- ==== Sys2Proof/Machine/Step.lean ====
section
/-! DEFINITION. One step of the machine: time advances, an event or an instruction takes the step (44_jump_branch.md
R306, 60_exceptions.md R545, 30_encoding.md R179). The section is noncomputable because `decode` is: the kernel
evaluates `step`. -/

noncomputable section

namespace Sys2Proof.Machine

/-- Execute the word `w` fetched in state `s`. -/
def execWord (w : BitVec 32) (s : State) : Host.Outcome State Fault Refusal :=
  match decode w with
  | .ok i => exec i s
  | .error r => rejectWord r w s

/-- Fetch and execute one instruction. -/
def runInstr (s : State) : Host.Outcome State Fault Refusal :=
  match s.fetch with
  | .word w s' => execWord w s'
  | .exc e s' => raise e s'
  | .stop f => .fault f

/-- One step: the tick, then an event between instructions or one instruction. -/
def step (s : State) : Host.Outcome State Fault Refusal :=
  match s.tick.boundary with
  | .event s' => .next s'
  | .run s' => runInstr s'
  | .stop f => .fault f

/-- The state with the instruction word `w` of `nbits` bits placed where the next step fetches (log 38). -/
def State.withFetchWord (s : State) (nbits w : Nat) : State :=
  match s.nextFetchAddr with
  | some pa => { s with bus := s.bus.placeWord pa (BitVec.ofNat 32 (w % 2 ^ nbits)) }
  | none => s

end Sys2Proof.Machine

end
end

