-- ==== Sys2Proof/Safety.lean ====
section
/-! DEFINITION. The terms the statements use: where an instruction can complete, the state after it, safe steps and
runs, and the invariant of the machine. -/

namespace Sys2Proof.Machine

/-! Completing an instruction (44_jump_branch.md R306). -/

/-- Where control goes after an instruction that is no jump or branch. -/
def State.nextPc (s : State) : Word := s.delay.getD (s.pc + 4#64)

/-- The state with control moved on and nothing else changed. -/
def State.after (s : State) : State := { s with pc := s.nextPc, delay := none }

/-- Control can move on: in a delay slot, or below the last address (10_state.md R23; log 21). -/
abbrev State.CanAdvance (s : State) : Prop := s.delay ≠ none ∨ s.pc ≠ 0xFFFFFFFFFFFFFFFC#64

/-- A jump or branch can execute: outside a delay slot, below the last address (44_jump_branch.md R306, 93 S14). -/
abbrev State.CanBranch (s : State) : Prop := s.delay = none ∧ s.pc ≠ 0xFFFFFFFFFFFFFFFC#64

/-- The state after a jump or branch whose delay slot executes next, and then `target`. -/
def State.branchTo (s : State) (target : Word) : State := { s with pc := s.pc + 4#64, delay := some target }

/-- The state after a likely branch that is not taken. -/
def State.slotSkipped (s : State) : State := { s with pc := s.pc + 8#64, delay := none }

/-! Modes and coprocessors (10_state.md R37, 47_cp0.md R375, 48_fpu.md R410). -/

/-- CP0 instructions are usable. -/
def State.Cp0Usable (s : State) : Prop := ∃ m, modeOf s.cp0.status = some m ∧ cp0UsableIn m s.cp0.status = true

/-- CP0 instructions raise coprocessor unusable. -/
def State.Cp0Unusable (s : State) : Prop := ∃ m, modeOf s.cp0.status = some m ∧ cp0UsableIn m s.cp0.status = false

/-- Floating-point instructions are usable. -/
abbrev State.Cp1Usable (s : State) : Prop := statusCu1 s.cp0.status = true

/-- User mode with coprocessor 0 closed. -/
abbrev State.PlainUser (s : State) : Prop := modeOf s.cp0.status = some .user ∧ statusCu0 s.cp0.status = false

/-! Data accesses to plain memory (20_memory.md R100, R117, R125). -/

/-- A data access at `va` goes to memory at `pa`: it translates to an uncached address of memory, no Watch match, the
gather buffer empty, no data cache holding the line, and no cached access of it since its last writeback-invalidate. -/
def State.ReachesRam (s : State) (store : Bool) (va : Word) (pa : PhysAddr) : Prop :=
  (∃ c, s.translateData store va = .ok pa c ∧ attrOf c = .uncached) ∧ s.watchHit store va = false ∧
    s.bus.regionOf pa.toNat = .ram ∧ s.bus.uca = none ∧ s.bus.dataCached pa = false ∧
    (s.bus.historyOf (lineNumber pa)).cached = false

/-- The number the `n` bytes from address `a` spell, the lowest address least significant (R100). -/
def bytesAt (m : Memory) (a n : Nat) : Nat := Nat.ofDigits 256 ((List.range n).map fun i => (memByte m (a + i)).toNat)

/-- `m'` is `m` with the `n` low bytes of the number `v` at address `a`, every other byte unchanged (R100). -/
def Stored (m m' : Memory) (a n v : Nat) : Prop :=
  ∀ b, memByte m' b = if a ≤ b ∧ b < a + n then BitVec.ofNat 8 (v / 256 ^ (b - a)) else memByte m b

/-- The state with memory replaced. -/
def State.withMem (s : State) (m : Memory) : State := { s with bus := { s.bus with mem := m } }

/-- The state with an uncached access of the line at `pa` in the model's record, and nothing else (log 16). -/
def State.usedUncached (s : State) (pa : PhysAddr) : State := { s with bus := s.bus.usedUncached pa }

/-- The state with an uncached store of the `n` low bytes of `v` at `pa` in the model's record, and nothing else (log 16, 17). -/
def State.storedUncached (s : State) (pa : PhysAddr) (n : Nat) (v : Word) : State :=
  { s with bus := s.bus.storedUncached pa (linePut · (lineOffset pa) n v) }

/-- The state with the bus replaced. -/
def State.withBus (s : State) (b : Bus) : State := { s with bus := b }

/-! CACHE operations (47_cp0.md R386, R387). -/

/-- A CACHE operation is usable and its address translates to the cacheable physical address `pa`. -/
def State.CacheReaches (s : State) (base : RegNum) (offset : BitVec 16) (relaxed : Bool) (pa : PhysAddr) : Prop :=
  (∃ m, modeOf s.cp0.status = some m ∧ cacheUsableIn m s.cp0 relaxed = true) ∧
    s.translateData false (s.readGpr base + offset.signExtend 64) = .ok pa 3#3

/-! How a floating-point operation ends (48_fpu.md R414 steps 4 and 5). -/

/-- A Causes set that does not trap: E clear, no enabled cause. -/
abbrev State.Untrapped (s : State) (c : FpCauses) : Prop :=
  c.getLsbD 5 = false ∧ (c.setWidth 5 &&& fcsrEnables s.fcsr) = 0#5

/-- The state with the Causes written and added to Flags. -/
def State.withCauses (s : State) (c : FpCauses) : State :=
  { s with fcsr := fcsrAddFlags (fcsrSetCauses s.fcsr c) c }

/-- The state after the floating-point exception: the Causes written, nothing else of FCSR. -/
def State.fpTrapped (s : State) (c : FpCauses) : State :=
  enterException .floatingPoint { s with fcsr := fcsrSetCauses s.fcsr c }

/-- Instruction `i` ends with result `r` in the 32-bit register `fd`, or traps. -/
def EndsSingle (i : Instr) (s : State) (fd : RegNum) (r : FpResult) : Prop :=
  (s.Untrapped r.causes → exec i s = .next ((s.withCauses r.causes).writeFpr32 fd (low32 r.value)).after) ∧
    (¬s.Untrapped r.causes → exec i s = .next (s.fpTrapped r.causes))

/-- Instruction `i` ends with result `r` in the 64-bit register `fd`, or traps. -/
def EndsDouble (i : Instr) (s : State) (fd : RegNum) (r : FpResult) : Prop :=
  (s.Untrapped r.causes → exec i s = .next ((s.withCauses r.causes).writeFpr fd r.value).after) ∧
    (¬s.Untrapped r.causes → exec i s = .next (s.fpTrapped r.causes))

/-- Comparison `i` ends with the condition bits `update` writes, V raised where `invalid`, or traps (R452). -/
def EndsCompare (i : Instr) (s : State) (invalid : Bool) (update : BitVec 32 → BitVec 32) : Prop :=
  let c := if invalid then causeV else causeNone
  (s.Untrapped c → exec i s = .next { s.withCauses c with fcsr := update (s.withCauses c).fcsr }.after) ∧
    (¬s.Untrapped c → exec i s = .next (s.fpTrapped c))

/-- The exact value of a finite operand. -/
def FpValue.toRat : FpValue → ℚ
  | .finite s _ m e => signedMag s m * 2 ^ e
  | _ => 0

/-- `y` is a positive number with the precision of `f` and any exponent (48_fpu.md R412, R418). -/
def FpFormat.IsMag (f : FpFormat) (y : ℝ) : Prop :=
  ∃ (q : ℕ) (g : ℤ), 2 ^ (f.precision - 1) ≤ q ∧ q < 2 ^ f.precision ∧ y = q * 2 ^ g

/-- `q * 2^g` is what the magnitude `x` of a result of this sign rounds to, the exponent unbounded (R415). -/
def FpFormat.Rounds (f : FpFormat) (rm : RoundingMode) (sign : Bool) (x : ℝ) (q : ℕ) (g : ℤ) : Prop :=
  let y : ℝ := q * 2 ^ g
  let down : Prop := y ≤ x ∧ ∀ z, f.IsMag z → z ≤ x → z ≤ y
  let up : Prop := x ≤ y ∧ ∀ z, f.IsMag z → x ≤ z → y ≤ z
  2 ^ (f.precision - 1) ≤ q ∧ q < 2 ^ f.precision ∧
    match rm with
    | .nearest => ∀ z, f.IsMag z → |y - x| ≤ |z - x| ∧ (|y - x| = |z - x| → z = y ∨ q % 2 = 0)
    | .towardZero => down
    | .up => if sign then down else up
    | .down => if sign then up else down

/-- `r` is what an operation delivers whose exact result has this sign and the magnitude `x`, not zero (R414 step 3):
the rounded number with I if it is inexact (R415, R419); O and I with an infinity or the largest number, by direction
and sign, where it overflows (R418, R422); where it is tiny, U and I with a zero or the smallest normal number if it is
flushed, else E (R422, R424). -/
def FpFormat.Delivers (f : FpFormat) (env : FpEnv) (sign : Bool) (x : ℝ) (r : FpResult) : Prop :=
  ∃ (q : ℕ) (g : ℤ), f.Rounds env.rm sign x q g ∧
    let low : ℤ := f.precision - 1
    let away : Prop := (env.rm = .up ∧ sign = false) ∨ (env.rm = .down ∧ sign = true)
    (f.emax < g + low → r.causes = causeO ||| causeI ∧
        (env.rm = .nearest ∨ away → fpUnpack f r.value = .infinity sign) ∧
        (¬(env.rm = .nearest ∨ away) →
          fpUnpack f r.value = .finite sign false (2 ^ f.precision - 1) (f.emax - low))) ∧
      (g + low < f.emin →
        (env.flush = true → r.causes = causeU ||| causeI ∧
          (away → fpUnpack f r.value = .finite sign false (2 ^ (f.precision - 1)) (f.emin - low)) ∧
          (¬away → fpUnpack f r.value = .zero sign)) ∧
        (env.flush = false → r.causes = causeE)) ∧
      (f.emin ≤ g + low → g + low ≤ f.emax → fpUnpack f r.value = .finite sign false q g ∧
        (x = q * 2 ^ g → r.causes = causeNone) ∧ (x ≠ q * 2 ^ g → r.causes = causeI))

/-- `z` is the integer that `x` rounds to in a direction (R415, R434 to R437). -/
def RoundsToInt (rm : RoundingMode) (x : ℚ) (z : ℤ) : Prop :=
  match rm with
  | .nearest => |x - z| ≤ 1 / 2 ∧ (|x - z| = 1 / 2 → z % 2 = 0)
  | .towardZero => z = if 0 ≤ x then ⌊x⌋ else ⌈x⌉
  | .up => z = ⌈x⌉
  | .down => z = ⌊x⌋

/-- An operand of an arithmetic operation that makes it unimplemented (R420 (b), (c)). -/
def FpValue.Unimplemented (a : FpValue) : Prop := (∃ s, a = .quietNan s) ∨ ∃ s m e, a = .finite s true m e

/-- A signaling NaN. -/
def FpValue.Signals (a : FpValue) : Prop := ∃ s, a = .signalingNan s

/-- A zero or a normal number. -/
def FpValue.Plain (a : FpValue) : Prop := (∃ s, a = .zero s) ∨ ∃ s m e, 0 < m ∧ a = .finite s false m e

/-- How an arithmetic operation looks at its operands first (R414 steps 3 to 5): an unimplemented one is E, with V only
if the operation is also invalid (93 U19); else an invalid operation is V and the default quiet NaN (R413, R416); else
`result` holds. -/
def FpResult.Checked (r : FpResult) (f : FpFormat) (unimplemented invalid result : Prop) : Prop :=
  (unimplemented → r.causes = causeE ∨ (invalid ∧ r.causes = causeE ||| causeV)) ∧
    (¬unimplemented → invalid → r.causes = causeV ∧
      r.value = (match f with | .single => 0x7FBFFFFF#64 | .double => 0x7FF7FFFFFFFFFFFF#64)) ∧
    (¬unimplemented → ¬invalid → result)

/-- An exact result: no cause, and this value. -/
def FpResult.Exactly (r : FpResult) (f : FpFormat) (v : FpValue) : Prop :=
  r.causes = causeNone ∧ fpUnpack f r.value = v

/-- Whether a word is one of CP1: COP1, its loads and stores, the multiply-add group (30_encoding.md R178). -/
def isCp1Word (w : BitVec 32) : Prop :=
  opField w ∈ [17#6, 49#6, 53#6, 57#6, 61#6] ∨ (opField w = 28#6 ∧ functField w ∈ [24#6, 25#6, 26#6, 27#6])

/-- Whether R175 makes a word a reserved instruction: the positions marked "-" in R167, R168 and R169 but those of R176
(a), and COP1X. -/
def isReservedWord (w : BitVec 32) : Prop :=
  opField w ∈ [19#6, 29#6, 30#6, 31#6, 50#6, 51#6, 54#6, 58#6, 59#6, 62#6] ∨
    (opField w = 0#6 ∧ functField w ∈ [5#6, 14#6, 21#6, 40#6, 41#6, 53#6, 55#6, 57#6, 61#6]) ∨
    (opField w = 1#6 ∧ rtField w ∈ [4#5, 5#5, 6#5, 7#5, 13#5, 15#5, 20#5, 21#5, 22#5, 23#5, 24#5, 25#5, 26#5, 27#5, 28#5,
      29#5, 30#5, 31#5])

/-! Safe steps. -/

/-- The step answers a next state: it neither stops in a situation the manual leaves undefined nor meets a word outside
the spec. Exceptions are next states (00_scope.md R15). -/
def Safe (s : State) : Prop := ∃ t, step s = .next t

/-- The first `n` steps from `s` all answer next states. -/
def SafeFor : Nat → State → Prop
  | 0, _ => True
  | n + 1, s => ∃ t, step s = .next t ∧ SafeFor n t

/-! The invariant. -/

/-- The canonical forms of the bus: memory, the three caches and the record of the data accesses list rising keys and no
default entry. -/
def Bus.Canonical (b : Bus) : Prop :=
  b.mem.wf ∧ SparseWf ILine.unwritten b.icache ∧ SparseWf DLine.unwritten b.dcache ∧
    SparseWf SLine.unwritten b.scache ∧ SparseWf LineHistory.none b.history

/-- The register fields the spec hard-wires to zero are zero, in Index, EntryLo0, EntryLo1, PageMask, EntryHi, Status,
Watch, Context, XContext, Diagnostic, PerfCtrl and the stored part of Cause (10_state.md R26 to R56); TagLo and TagHi take
whole doublewords (47_cp0.md R400). -/
def Cp0.ReservedZero (c : Cp0) : Prop :=
  c.index &&& ~~~0x8000003F#32 = 0#32 ∧ c.entryLo0 &&& ~~~0x20000003FFFFFFFF#64 = 0#64 ∧
    c.entryLo1 &&& ~~~0x20000003FFFFFFFF#64 = 0#64 ∧ c.pageMask &&& ~~~0x01FFE000#32 = 0#32 ∧
    c.entryHi &&& ~~~0xC00000FFFFFFE0FF#64 = 0#64 ∧ c.status &&& ~~~0xF5D0FF1F#32 = 0#32 ∧
    c.watch &&& 4#64 = 0#64 ∧ c.context &&& 0xF#64 = 0#64 ∧ c.xcontext &&& 0xF#64 = 0#64 ∧
    c.diagnostic &&& ~~~0x1F1#64 = 0#64 ∧ c.perfCtrl &&& ~~~0x1FFF#64 = 0#64 ∧ c.cause &&& ~~~0xB000037C#32 = 0#32

/-- The invariant every step keeps: canonical storage, reserved fields zero, Random between Wired and 63
(10_state.md R27), and the reserved bits of FCSR zero (R73). -/
def State.Inv (s : State) : Prop :=
  s.bus.Canonical ∧ s.cp0.ReservedZero ∧ s.cp0.wired ≤ s.cp0.random ∧ s.fcsr &&& ~~~0x0383FFFF#32 = 0#32

end Sys2Proof.Machine
end

