-- ==== Sys2Proof/Certificates/Slice0/Obligations.lean ====
section
/-! DEFINITION. The statements for the provers. Next states are written out, so that each equation also says what is
unchanged. `State.after` moves control on (to the recorded target out of a delay slot, else to pc + 4) and changes
nothing else; `State.writeGpr` changes one register, or none for register 0 (RegisterWrite says so). -/

open Sys2Proof Sys2Proof.Machine

/-! Registers and integer arithmetic. -/

/-- 10_state.md R20: register 0 reads 0 and discards writes; a write changes one register and nothing else. -/
def Obligations.RegisterWrite : Prop :=
  ∀ (s : State) (r q : RegNum) (v : Word),
    (s.writeGpr r v).readGpr q = (if q = 0#5 then 0#64 else if q = r then v else s.readGpr q) ∧
      s.writeGpr 0#5 v = s ∧ { s.writeGpr r v with gpr := s.gpr } = s

/-- 41_alu_immediate.md R243 to R246, R250: the immediate arithmetic without overflow, as integers. -/
def Obligations.ImmediateArithmetic : Prop :=
  ∀ (s : State) (rs rt : RegNum) (imm : BitVec 16), s.CanAdvance →
    let a := s.readGpr rs
    exec (.addiu rs rt imm) s =
        .next (s.writeGpr rt (BitVec.ofInt 64 (Int.bmod (a.toInt + imm.toInt) (2 ^ 32)))).after ∧
      exec (.daddiu rs rt imm) s = .next (s.writeGpr rt (BitVec.ofInt 64 (a.toInt + imm.toInt))).after ∧
      exec (.slti rs rt imm) s = .next (s.writeGpr rt (if a.toInt < imm.toInt then 1#64 else 0#64)).after ∧
      exec (.sltiu rs rt imm) s =
        .next (s.writeGpr rt (if (a.toNat : Int) < imm.toInt % 2 ^ 64 then 1#64 else 0#64)).after ∧
      exec (.lui rt imm) s = .next (s.writeGpr rt (BitVec.ofInt 64 (Int.bmod (imm.toNat * 65536) (2 ^ 32)))).after

/-- 41_alu_immediate.md R247, R248, R249: encodings and results of ANDI, ORI and XORI. -/
def Obligations.LogicalImmediates : Prop :=
  ∀ (s : State) (rs rt : RegNum) (imm : BitVec 16), s.CanAdvance →
    let fields := (rs.setWidth 32 <<< 21) ||| (rt.setWidth 32 <<< 16) ||| imm.setWidth 32
    let a := (s.readGpr rs).toNat
    decode (0x30000000#32 ||| fields) = .ok (.andi rs rt imm) ∧
      decode (0x34000000#32 ||| fields) = .ok (.ori rs rt imm) ∧
      decode (0x38000000#32 ||| fields) = .ok (.xori rs rt imm) ∧
      exec (.andi rs rt imm) s = .next (s.writeGpr rt (BitVec.ofNat 64 (a &&& imm.toNat))).after ∧
      (BitVec.ofNat 64 (a &&& imm.toNat)).extractLsb' 16 48 = 0#48 ∧
      exec (.ori rs rt imm) s = .next (s.writeGpr rt (BitVec.ofNat 64 (a ||| imm.toNat))).after ∧
      exec (.xori rs rt imm) s = .next (s.writeGpr rt (BitVec.ofNat 64 (a ^^^ imm.toNat))).after

/-- 42_alu_register.md R258, R259, R262 to R269: the register arithmetic without overflow, as integers. -/
def Obligations.RegisterArithmetic : Prop :=
  ∀ (s : State) (rs rt rd : RegNum), s.CanAdvance →
    let a := s.readGpr rs
    let b := s.readGpr rt
    exec (.addu rs rt rd) s = .next (s.writeGpr rd (BitVec.ofInt 64 (Int.bmod (a.toInt + b.toInt) (2 ^ 32)))).after ∧
      exec (.daddu rs rt rd) s = .next (s.writeGpr rd (BitVec.ofNat 64 (a.toNat + b.toNat))).after ∧
      exec (.subu rs rt rd) s = .next (s.writeGpr rd (BitVec.ofInt 64 (Int.bmod (a.toInt - b.toInt) (2 ^ 32)))).after ∧
      exec (.dsubu rs rt rd) s = .next (s.writeGpr rd (BitVec.ofInt 64 (a.toInt - b.toInt))).after ∧
      exec (.slt rs rt rd) s = .next (s.writeGpr rd (if a.toInt < b.toInt then 1#64 else 0#64)).after ∧
      exec (.sltu rs rt rd) s = .next (s.writeGpr rd (if a.toNat < b.toNat then 1#64 else 0#64)).after ∧
      exec (.and rs rt rd) s = .next (s.writeGpr rd (BitVec.ofNat 64 (a.toNat &&& b.toNat))).after ∧
      exec (.or rs rt rd) s = .next (s.writeGpr rd (BitVec.ofNat 64 (a.toNat ||| b.toNat))).after ∧
      exec (.xor rs rt rd) s = .next (s.writeGpr rd (BitVec.ofNat 64 (a.toNat ^^^ b.toNat))).after ∧
      exec (.nor rs rt rd) s = .next (s.writeGpr rd (BitVec.ofNat 64 (2 ^ 64 - 1 - (a.toNat ||| b.toNat)))).after

/-- 41_alu_immediate.md R251 with R241, R242, R256, R257, R260, R261: overflow judged by the sign bits; without it the
sum or difference is written, with it the exception is precise. -/
def Obligations.SignedOverflow : Prop :=
  ∀ (s : State) (rs rt rd : RegNum) (imm : BitVec 16),
    let adds32 (i : Instr) (d : RegNum) (a b : BitVec 32) : Prop :=
      if a.msb = b.msb ∧ (a + b).msb ≠ a.msb then exec i s = .next (enterException .integerOverflow s)
      else s.CanAdvance → exec i s = .next (s.writeGpr d ((a + b).signExtend 64)).after
    let adds64 (i : Instr) (d : RegNum) (a b : Word) : Prop :=
      if a.msb = b.msb ∧ (a + b).msb ≠ a.msb then exec i s = .next (enterException .integerOverflow s)
      else s.CanAdvance → exec i s = .next (s.writeGpr d (a + b)).after
    let a := s.readGpr rs
    let b := s.readGpr rt
    let t := enterException .integerOverflow s
    adds32 (.add rs rt rd) rd (a.setWidth 32) (b.setWidth 32) ∧
      adds32 (.addi rs rt imm) rt (a.setWidth 32) (imm.signExtend 32) ∧
      adds64 (.dadd rs rt rd) rd a b ∧ adds64 (.daddi rs rt imm) rt a (imm.signExtend 64) ∧
      (let x : BitVec 32 := a.setWidth 32
       let y : BitVec 32 := b.setWidth 32
       if x.msb ≠ y.msb ∧ (x - y).msb ≠ x.msb then exec (.sub rs rt rd) s = .next t
       else s.CanAdvance → exec (.sub rs rt rd) s = .next (s.writeGpr rd ((x - y).signExtend 64)).after) ∧
      (if a.msb ≠ b.msb ∧ (a - b).msb ≠ a.msb then exec (.dsub rs rt rd) s = .next t
       else s.CanAdvance → exec (.dsub rs rt rd) s = .next (s.writeGpr rd (a - b)).after) ∧
      t.gpr = s.gpr ∧ t.hi = s.hi ∧ t.lo = s.lo ∧ t.bus = s.bus ∧ t.cp0.cause.extractLsb' 2 5 = 12#5 ∧
      (s.cp0.status.getLsbD 1 = false →
        t.cp0.epc = (if s.delay = none then s.pc else s.pc - 4#64) ∧ t.cp0.cause.getLsbD 31 = s.delay.isSome)

/-- 43_mul_div.md R276 to R279, R284 to R287, R289 to R292: the products, as exact integers, and the moves of HI and LO,
each of which keeps the other register. -/
def Obligations.ProductsAndHiLo : Prop :=
  ∀ (s : State) (rs rt rd : RegNum), s.CanAdvance →
    let a := s.readGpr rs
    let b := s.readGpr rt
    let p : Int := (a.setWidth 32).toInt * (b.setWidth 32).toInt
    let u : Nat := (a.setWidth 32).toNat * (b.setWidth 32).toNat
    exec (.mult rs rt) s =
        .next (s.setHiLo (BitVec.ofInt 64 (p / 2 ^ 32)) (BitVec.ofInt 64 (Int.bmod p (2 ^ 32)))).after ∧
      exec (.multu rs rt) s =
        .next (s.setHiLo (BitVec.ofInt 64 (Int.bmod (u / 2 ^ 32) (2 ^ 32)))
          (BitVec.ofInt 64 (Int.bmod u (2 ^ 32)))).after ∧
      exec (.dmult rs rt) s =
        .next (s.setHiLo (BitVec.ofInt 64 (a.toInt * b.toInt / 2 ^ 64)) (BitVec.ofInt 64 (a.toInt * b.toInt))).after ∧
      exec (.dmultu rs rt) s =
        .next (s.setHiLo (BitVec.ofNat 64 (a.toNat * b.toNat / 2 ^ 64)) (BitVec.ofNat 64 (a.toNat * b.toNat))).after ∧
      exec (.multg rs rt rd) s = .next (s.writeGpr rd (BitVec.ofInt 64 (Int.bmod p (2 ^ 32)))).after ∧
      exec (.multug rs rt rd) s = .next (s.writeGpr rd (BitVec.ofInt 64 (Int.bmod u (2 ^ 32)))).after ∧
      exec (.dmultg rs rt rd) s = .next (s.writeGpr rd (BitVec.ofInt 64 (a.toInt * b.toInt))).after ∧
      exec (.dmultug rs rt rd) s = .next (s.writeGpr rd (BitVec.ofNat 64 (a.toNat * b.toNat))).after ∧
      exec (.mfhi rd) s = .next (s.writeGpr rd s.hi).after ∧ exec (.mflo rd) s = .next (s.writeGpr rd s.lo).after ∧
      exec (.mthi rs) s = .next (s.setHiLo a s.lo).after ∧ exec (.mtlo rs) s = .next (s.setHiLo s.hi a).after

/-- 43_mul_div.md R280 to R283, R293 to R301: quotients and remainders for a divisor other than zero, truncated toward zero;
the overflowing quotient wraps. A division by zero raises nothing and changes only its destination, whose value is not
specified. The 32-bit forms read bits 31:0. -/
def Obligations.Quotients : Prop :=
  ∀ (s : State) (rs rt rd : RegNum), s.CanAdvance →
    let a := s.readGpr rs
    let b := s.readGpr rt
    let x : Int := (a.setWidth 32).toInt
    let y : Int := (b.setWidth 32).toInt
    let m : Nat := (a.setWidth 32).toNat
    let n : Nat := (b.setWidth 32).toNat
    let q32 := BitVec.ofInt 64 (Int.bmod (x.tdiv y) (2 ^ 32))
    let r32 := BitVec.ofInt 64 (x.tmod y)
    let qu32 := BitVec.ofInt 64 (Int.bmod (m / n : Nat) (2 ^ 32))
    let ru32 := BitVec.ofInt 64 (Int.bmod (m % n : Nat) (2 ^ 32))
    let q64 := BitVec.ofInt 64 (a.toInt.tdiv b.toInt)
    let r64 := BitVec.ofInt 64 (a.toInt.tmod b.toInt)
    let qu64 := BitVec.ofNat 64 (a.toNat / b.toNat)
    let ru64 := BitVec.ofNat 64 (a.toNat % b.toNat)
    (n ≠ 0 →
      exec (.div rs rt) s = .next (s.setHiLo r32 q32).after ∧ exec (.divu rs rt) s = .next (s.setHiLo ru32 qu32).after ∧
        exec (.divg rs rt rd) s = .next (s.writeGpr rd q32).after ∧
        exec (.divug rs rt rd) s = .next (s.writeGpr rd qu32).after ∧
        exec (.modg rs rt rd) s = .next (s.writeGpr rd r32).after ∧
        exec (.modug rs rt rd) s = .next (s.writeGpr rd ru32).after) ∧
      (b ≠ 0#64 →
        exec (.ddiv rs rt) s = .next (s.setHiLo r64 q64).after ∧
          exec (.ddivu rs rt) s = .next (s.setHiLo ru64 qu64).after ∧
          exec (.ddivg rs rt rd) s = .next (s.writeGpr rd q64).after ∧
          exec (.ddivug rs rt rd) s = .next (s.writeGpr rd qu64).after ∧
          exec (.dmodg rs rt rd) s = .next (s.writeGpr rd r64).after ∧
          exec (.dmodug rs rt rd) s = .next (s.writeGpr rd ru64).after) ∧
      (n = 0 → (∀ i ∈ [Instr.div rs rt, .divu rs rt], ∃ h l, exec i s = .next (s.setHiLo h l).after) ∧
        ∀ i ∈ [Instr.divg rs rt rd, .divug rs rt rd, .modg rs rt rd, .modug rs rt rd],
          ∃ v, exec i s = .next (s.writeGpr rd v).after) ∧
      (b = 0#64 → (∀ i ∈ [Instr.ddiv rs rt, .ddivu rs rt], ∃ h l, exec i s = .next (s.setHiLo h l).after) ∧
        ∀ i ∈ [Instr.ddivg rs rt rd, .ddivug rs rt rd, .dmodg rs rt rd, .dmodug rs rt rd],
          ∃ v, exec i s = .next (s.writeGpr rd v).after)

/-- 45_shift.md R335 to R350: the shifts, as integers. The 32-bit forms act on bits 31:0 and sign-extend; a variable shift
takes five or six bits of rs. -/
def Obligations.Shifts : Prop :=
  ∀ (s : State) (rs rt rd sa : RegNum), s.CanAdvance →
    let d := s.readGpr rt
    let w := d.setWidth 32
    let left32 (n : Nat) := BitVec.ofInt 64 (Int.bmod (w.toNat * 2 ^ n) (2 ^ 32))
    let right32 (n : Nat) := BitVec.ofInt 64 (Int.bmod (w.toNat / 2 ^ n : Nat) (2 ^ 32))
    let arith32 (n : Nat) := BitVec.ofInt 64 (w.toInt / 2 ^ n)
    let left (n : Nat) := BitVec.ofNat 64 (d.toNat * 2 ^ n)
    let right (n : Nat) := BitVec.ofNat 64 (d.toNat / 2 ^ n)
    let arith (n : Nat) := BitVec.ofInt 64 (d.toInt / 2 ^ n)
    let by5 := (s.readGpr rs).toNat % 32
    let by6 := (s.readGpr rs).toNat % 64
    let writes (i : Instr) (v : Word) : Prop := exec i s = .next (s.writeGpr rd v).after
    writes (.sll rt rd sa) (left32 sa.toNat) ∧ writes (.srl rt rd sa) (right32 sa.toNat) ∧
      writes (.sra rt rd sa) (arith32 sa.toNat) ∧ writes (.sllv rs rt rd) (left32 by5) ∧
      writes (.srlv rs rt rd) (right32 by5) ∧ writes (.srav rs rt rd) (arith32 by5) ∧
      writes (.dsll rt rd sa) (left sa.toNat) ∧ writes (.dsrl rt rd sa) (right sa.toNat) ∧
      writes (.dsra rt rd sa) (arith sa.toNat) ∧ writes (.dsll32 rt rd sa) (left (sa.toNat + 32)) ∧
      writes (.dsrl32 rt rd sa) (right (sa.toNat + 32)) ∧ writes (.dsra32 rt rd sa) (arith (sa.toNat + 32)) ∧
      writes (.dsllv rs rt rd) (left by6) ∧ writes (.dsrlv rs rt rd) (right by6) ∧ writes (.dsrav rs rt rd) (arith by6)

/-! Control flow, traps and calls. -/

/-- 46_special_trap.md R358 to R370: each trap instruction raises the trap exception exactly when its condition holds, and
otherwise does nothing. -/
def Obligations.ConditionalTraps : Prop :=
  ∀ (s : State) (rs rt : RegNum) (code : BitVec 10) (imm : BitVec 16),
    let traps (i : Instr) (c : Prop) : Prop :=
      (c → exec i s = .next (enterException .trap s)) ∧ (¬c → s.CanAdvance → exec i s = .next s.after)
    let a := s.readGpr rs
    let b := s.readGpr rt
    let m : Int := imm.toInt
    traps (.tge rs rt code) (b.toInt ≤ a.toInt) ∧ traps (.tgeu rs rt code) (b.toNat ≤ a.toNat) ∧
      traps (.tlt rs rt code) (a.toInt < b.toInt) ∧ traps (.tltu rs rt code) (a.toNat < b.toNat) ∧
      traps (.teq rs rt code) (a = b) ∧ traps (.tne rs rt code) (a ≠ b) ∧
      traps (.tgei rs imm) (m ≤ a.toInt) ∧ traps (.tgeiu rs imm) (m % 2 ^ 64 ≤ a.toNat) ∧
      traps (.tlti rs imm) (a.toInt < m) ∧ traps (.tltiu rs imm) (a.toNat < m % 2 ^ 64) ∧
      traps (.teqi rs imm) (a.toInt = m) ∧ traps (.tnei rs imm) (a.toInt ≠ m)

/-- 46_special_trap.md R355, R356 and 47_cp0.md R384: SYSCALL and BREAK enter their exception in every state; from outside
exception level the handler runs in kernel mode, and an ERET there returns to the instruction with Status as before. -/
def Obligations.CallsAndReturn : Prop :=
  ∀ (s : State) (code : BitVec 20),
    exec (.syscall code) s = .next (enterException .systemCall s) ∧
      exec (.brk code) s = .next (enterException .breakpoint s) ∧
      ∀ e ∈ [Exc.systemCall, Exc.breakpoint],
        let t := enterException e s
        modeOf t.cp0.status = some .kernel ∧
          (s.cp0.status.getLsbD 1 = false → s.cp0.status.getLsbD 2 = false → s.delay = none →
            ∃ u, exec .eret t = .next u ∧ u.pc = s.pc ∧ u.cp0.status = s.cp0.status ∧ u.delay = none ∧
              u.llbit = false ∧ u.gpr = s.gpr ∧ u.fpr = s.fpr ∧ u.hi = s.hi ∧ u.lo = s.lo ∧ u.fcsr = s.fcsr ∧
              u.tlb = s.tlb ∧ u.bus = s.bus)

/-- 44_jump_branch.md R308 to R311, 30_encoding.md R166: the jumps record their target for after the delay slot; the
links are pc + 8. -/
def Obligations.Jumps : Prop :=
  ∀ (s : State) (rs rd : RegNum) (target : BitVec 26), s.CanBranch →
    let there := BitVec.ofNat 64 ((s.pc + 4#64).toNat / 2 ^ 28 * 2 ^ 28 + target.toNat * 4)
    exec (.j target) s = .next (s.branchTo there) ∧
      exec (.jal target) s = .next ((s.writeGpr 31#5 (s.pc + 8#64)).branchTo there) ∧
      exec (.jr rs) s = .next (s.branchTo (s.readGpr rs)) ∧
      (rd ≠ rs → exec (.jalr rs rd) s = .next ((s.writeGpr rd (s.pc + 8#64)).branchTo (s.readGpr rs)))

/-- 44_jump_branch.md R306, R307, R312 to R317, R320 to R325 and 48_fpu.md R470 to R473: a conditional branch that is taken
runs its delay slot and then the target; one that is not taken runs its delay slot and goes on, or, a likely one, skips the
slot. -/
def Obligations.ConditionalBranches : Prop :=
  ∀ (s : State) (rs rt : RegNum) (imm : BitVec 16), s.CanBranch →
    let there := BitVec.ofInt 64 (s.pc.toInt + 4 + 4 * imm.toInt)
    let goes (i likely : Instr) (c : Prop) : Prop :=
      (c → exec i s = .next (s.branchTo there) ∧ exec likely s = .next (s.branchTo there)) ∧
        (¬c → exec i s = .next (s.branchTo (s.pc + 8#64)) ∧ exec likely s = .next s.slotSkipped)
    let a := s.readGpr rs
    let b := s.readGpr rt
    goes (.beq rs rt imm) (.beql rs rt imm) (a = b) ∧ goes (.bne rs rt imm) (.bnel rs rt imm) (a ≠ b) ∧
      goes (.blez rs imm) (.blezl rs imm) (a.toInt ≤ 0) ∧ goes (.bgtz rs imm) (.bgtzl rs imm) (0 < a.toInt) ∧
      goes (.bltz rs imm) (.bltzl rs imm) (a.toInt < 0) ∧ goes (.bgez rs imm) (.bgezl rs imm) (0 ≤ a.toInt) ∧
      (s.Cp1Usable → goes (.bc1f imm) (.bc1fl imm) (s.fcsr.getLsbD 23 = false) ∧
        goes (.bc1t imm) (.bc1tl imm) (s.fcsr.getLsbD 23 = true))

/-- 44_jump_branch.md R318, R319, R326, R327: the linking branches write pc + 8 to register 31 whether or not they are
taken. -/
def Obligations.LinkingBranches : Prop :=
  ∀ (s : State) (rs : RegNum) (imm : BitVec 16), s.CanBranch → rs ≠ 31#5 →
    let there := BitVec.ofInt 64 (s.pc.toInt + 4 + 4 * imm.toInt)
    let l := s.writeGpr 31#5 (s.pc + 8#64)
    let n := (s.readGpr rs).toInt
    (n < 0 → exec (.bltzal rs imm) s = .next (l.branchTo there) ∧ exec (.bltzall rs imm) s = .next (l.branchTo there) ∧
        exec (.bgezal rs imm) s = .next (l.branchTo (s.pc + 8#64)) ∧ exec (.bgezall rs imm) s = .next l.slotSkipped) ∧
      (0 ≤ n → exec (.bgezal rs imm) s = .next (l.branchTo there) ∧
        exec (.bgezall rs imm) s = .next (l.branchTo there) ∧
        exec (.bltzal rs imm) s = .next (l.branchTo (s.pc + 8#64)) ∧ exec (.bltzall rs imm) s = .next l.slotSkipped)

/-- What the spec leaves out: jumps, branches and ERET in a delay slot, JALR with rd = rs, linking branches on register 31
(44_jump_branch.md R306, R311, R318, 47_cp0.md R384), LL and LLD to register 0 (40_load_store.md R201), CFC1 and CTC1 of other
control registers (10_state.md R78), division and square root with NOFDIV and NOFSQR (R36), and 64-bit floating-point operands
with an odd number while FR = 0 (48_fpu.md R411). Each is refused by name. From 0xFFFFFFFFFFFFFFFC outside a delay slot
(10_state.md R23, 93 S14) the fifteen jumps and branches listed and ADDU, OR and LUI, for the instructions that go on to the
next address, stop by a fault of its own name; that a jump or branch stops there is the model's choice, log entry 21 (ERET,
SYSCALL, BREAK and a true trap do go on from there). -/
def Obligations.RefusedForms : Prop :=
  ∀ (s : State) (rs rt rd base ft fs fd : RegNum) (imm : BitVec 16) (target : BitVec 26),
    (s.delay = none → s.pc = 0xFFFFFFFFFFFFFFFC#64 →
      ∀ i ∈ [Instr.j target, .jal target, .jr rs, .beq rs rt imm, .bne rs rt imm, .blez rs imm, .bgtz rs imm,
        .bltz rs imm, .bgez rs imm, .beql rs rt imm, .bnel rs rt imm, .blezl rs imm, .bgtzl rs imm, .bltzl rs imm,
        .bgezl rs imm, .addu rs rt rd, .or rs rt rd, .lui rt imm], exec i s = .fault .pcWrap) ∧
    (s.delay ≠ none →
      (∀ i ∈ [Instr.j target, .jal target, .jr rs, .beq rs rt imm, .bne rs rt imm, .blez rs imm, .bgtz rs imm,
          .bltz rs imm, .bgez rs imm, .beql rs rt imm, .bnel rs rt imm, .blezl rs imm, .bgtzl rs imm, .bltzl rs imm,
          .bgezl rs imm], exec i s = .refused .branchInDelaySlot) ∧
        (rd ≠ rs → exec (.jalr rs rd) s = .refused .branchInDelaySlot) ∧
        (rs ≠ 31#5 → ∀ i ∈ [Instr.bltzal rs imm, .bgezal rs imm, .bltzall rs imm, .bgezall rs imm],
          exec i s = .refused .branchInDelaySlot) ∧
        (s.Cp1Usable → ∀ i ∈ [Instr.bc1f imm, .bc1t imm, .bc1fl imm, .bc1tl imm],
          exec i s = .refused .branchInDelaySlot) ∧
        (s.Cp0Usable → exec .eret s = .refused .eretInDelaySlot)) ∧
      exec (.jalr rs rs) s = .refused .jalrSameRegister ∧
      (∀ i ∈ [Instr.bltzal 31#5 imm, .bgezal 31#5 imm, .bltzall 31#5 imm, .bgezall 31#5 imm],
        exec i s = .refused .linkOfLinkRegister) ∧
      (∀ i ∈ [Instr.ll base 0#5 imm, .lld base 0#5 imm], exec i s = .refused .linkedLoadToZero) ∧
      (s.Cp1Usable →
        (fs ≠ 0#5 → fs ≠ 31#5 → ∀ i ∈ [Instr.cfc1 rt fs, .ctc1 rt fs], exec i s = .refused .fpControlRegister) ∧
        (s.cp0.status.getLsbD 24 = true → ∀ i ∈ [Instr.divS ft fs fd, .divD ft fs fd],
          exec i s = .refused .fpUnitDisabled) ∧
        (s.cp0.status.getLsbD 23 = true → ∀ i ∈ [Instr.sqrtS fs fd, .sqrtD fs fd], exec i s = .refused .fpUnitDisabled) ∧
        (s.cp0.status.getLsbD 26 = false →
          let odd (r : RegNum) : Prop := r.toNat % 2 = 1
          let refused (i : Instr) : Prop := exec i s = .refused .fpOddRegister
          (odd ft ∨ odd fs ∨ odd fd →
            (∀ i ∈ [Instr.addD ft fs fd, .subD ft fs fd, .mulD ft fs fd, .addPs ft fs fd, .subPs ft fs fd,
                .mulPs ft fs fd, .maddD ft fs fd, .maddPs ft fs fd, .msubD ft fs fd, .msubPs ft fs fd,
                .nmaddD ft fs fd, .nmaddPs ft fs fd, .nmsubD ft fs fd, .nmsubPs ft fs fd], refused i) ∧
              (s.cp0.status.getLsbD 24 = false → refused (.divD ft fs fd))) ∧
            (odd fs ∨ odd fd →
              (∀ i ∈ [Instr.absD fs fd, .absPs fs fd, .negD fs fd, .negPs fs fd, .movD fs fd, .movPs fs fd,
                .roundLD fs fd, .truncLD fs fd, .ceilLD fs fd, .floorLD fs fd, .cvtLD fs fd, .cvtDL fs fd], refused i) ∧
                (s.cp0.status.getLsbD 23 = false → refused (.sqrtD fs fd))) ∧
            (odd fs → ∀ i ∈ [Instr.roundWD fs fd, .truncWD fs fd, .ceilWD fs fd, .floorWD fs fd, .cvtWD fs fd,
                .cvtSD fs fd, .cvtSL fs fd, .dmfc1 rt fs, .dmtc1 rt fs], refused i) ∧
            (odd fd → ∀ i ∈ [Instr.roundLS fs fd, .truncLS fs fd, .ceilLS fs fd, .floorLS fs fd, .cvtLS fs fd,
                .cvtDS fs fd, .cvtDW fs fd], refused i) ∧
            (odd ft ∨ odd fs → ∀ i ∈ [Instr.cFD ft fs, .cUnD ft fs, .cEqD ft fs, .cUeqD ft fs, .cOltD ft fs,
                .cUltD ft fs, .cOleD ft fs, .cUleD ft fs, .cSfD ft fs, .cNgleD ft fs, .cSeqD ft fs, .cNglD ft fs,
                .cLtD ft fs, .cNgeD ft fs, .cLeD ft fs, .cNgtD ft fs, .cFPs ft fs, .cUnPs ft fs, .cEqPs ft fs,
                .cUeqPs ft fs, .cOltPs ft fs, .cUltPs ft fs, .cOlePs ft fs, .cUlePs ft fs, .cSfPs ft fs,
                .cNglePs ft fs, .cSeqPs ft fs, .cNglPs ft fs, .cLtPs ft fs, .cNgePs ft fs, .cLePs ft fs,
                .cNgtPs ft fs], refused i) ∧
            (odd ft → ∀ i ∈ [Instr.ldc1 base ft imm, .sdc1 base ft imm], refused i)))

/-! Loads and stores. -/

/-- 40_load_store.md R200 to R229: with an access that succeeds, cached or not, each load and store completes; a load
changes its register and the bus, a store the bus. -/
def Obligations.AccessCompletes : Prop :=
  ∀ (s : State) (base rt : RegNum) (offset : BitVec 16) (n : Nat) (v : Word) (b : Bus), s.CanAdvance →
    let va := s.readGpr base + offset.signExtend 64
    let w := s.withBus b
    (loadData s va n = .ok v b →
      (rt ≠ 0#5 →
        (n = 1 → exec (.lb base rt offset) s = .next (w.writeGpr rt ((v.setWidth 8).signExtend 64)).after ∧
          exec (.lbu base rt offset) s = .next (w.writeGpr rt v).after) ∧
        (n = 2 → exec (.lh base rt offset) s = .next (w.writeGpr rt ((v.setWidth 16).signExtend 64)).after ∧
          exec (.lhu base rt offset) s = .next (w.writeGpr rt v).after) ∧
        (n = 4 → exec (.lw base rt offset) s = .next (w.writeGpr rt ((v.setWidth 32).signExtend 64)).after ∧
          exec (.lwu base rt offset) s = .next (w.writeGpr rt v).after ∧
          exec (.ll base rt offset) s =
            .next (State.writeGpr { w with llbit := true } rt ((v.setWidth 32).signExtend 64)).after) ∧
        (n = 8 → exec (.ld base rt offset) s = .next (w.writeGpr rt v).after ∧
          exec (.lld base rt offset) s = .next (State.writeGpr { w with llbit := true } rt v).after)) ∧
      (s.Cp1Usable → (n = 4 → exec (.lwc1 base rt offset) s = .next (w.writeFpr32 rt (v.setWidth 32)).after) ∧
        (n = 8 → fpr64Ok s.cp0.status rt = true → exec (.ldc1 base rt offset) s = .next (w.writeFpr rt v).after))) ∧
      (storeData s va n (s.readGpr rt) = .ok () b →
        (n = 1 → exec (.sb base rt offset) s = .next w.after) ∧ (n = 2 → exec (.sh base rt offset) s = .next w.after) ∧
          (n = 4 → exec (.sw base rt offset) s = .next w.after) ∧ (n = 8 → exec (.sd base rt offset) s = .next w.after)) ∧
      (s.Cp1Usable →
        (n = 4 → storeData s va n ((s.readFpr32 rt).setWidth 64) = .ok () b →
          exec (.swc1 base rt offset) s = .next w.after) ∧
          (n = 8 → fpr64Ok s.cp0.status rt = true → storeData s va n (s.readFpr rt) = .ok () b →
            exec (.sdc1 base rt offset) s = .next w.after))

/-- 40_load_store.md R202 to R208, R214, R215, R224, R225 and 20_memory.md R100: an aligned uncached load from memory delivers
the little-endian value of its bytes and changes only its register, a load-linked also LLbit, and the model's own record of
the line (`State.usedUncached`, log entry 16). -/
def Obligations.UncachedLoads : Prop :=
  ∀ (s : State) (base rt : RegNum) (offset : BitVec 16) (pa : PhysAddr), s.CanAdvance →
    let va := s.readGpr base + offset.signExtend 64
    s.ReachesRam false va pa →
    let u := s.usedUncached pa
    let got (n : Nat) : Nat := bytesAt s.bus.mem pa.toNat n
    let signed (i : Instr) (n : Nat) : Prop :=
      rt ≠ 0#5 → va.toNat % n = 0 → exec i s = .next (u.writeGpr rt (BitVec.ofInt 64 (Int.bmod (got n) (256 ^ n)))).after
    let unsigned (i : Instr) (n : Nat) : Prop :=
      rt ≠ 0#5 → va.toNat % n = 0 → exec i s = .next (u.writeGpr rt (BitVec.ofNat 64 (got n))).after
    signed (.lb base rt offset) 1 ∧ unsigned (.lbu base rt offset) 1 ∧ signed (.lh base rt offset) 2 ∧
      unsigned (.lhu base rt offset) 2 ∧ signed (.lw base rt offset) 4 ∧ unsigned (.lwu base rt offset) 4 ∧
      unsigned (.ld base rt offset) 8 ∧
      (rt ≠ 0#5 → va.toNat % 4 = 0 → exec (.ll base rt offset) s =
        .next (State.writeGpr { u with llbit := true } rt (BitVec.ofInt 64 (Int.bmod (got 4) (2 ^ 32)))).after) ∧
      (rt ≠ 0#5 → va.toNat % 8 = 0 → exec (.lld base rt offset) s =
        .next (State.writeGpr { u with llbit := true } rt (BitVec.ofNat 64 (got 8))).after) ∧
      (s.Cp1Usable →
        (va.toNat % 4 = 0 → exec (.lwc1 base rt offset) s = .next (u.writeFpr32 rt (BitVec.ofNat 32 (got 4))).after) ∧
        (va.toNat % 8 = 0 → fpr64Ok s.cp0.status rt = true →
          exec (.ldc1 base rt offset) s = .next (u.writeFpr rt (BitVec.ofNat 64 (got 8))).after))

/-- 40_load_store.md R201, 20_memory.md R141: a load to register 0 raises nothing and changes no register, whatever the
address. It is a prefetch: the bus stays as it is, or a cacheable address that translates has its line filled. The fill is not
visible to data accesses: it counts as no access of the line (log entry 16), and an uncached read of a line of memory that no
cache held before delivers the bytes memory had. A translation that ends in a stop (more than one matching entry, R119; log
entry 23) stops it: R201 waives exceptions only. -/
def Obligations.LoadToZero : Prop :=
  ∀ (s : State) (base : RegNum) (offset : BitVec 16), s.CanAdvance →
    let va := s.readGpr base + offset.signExtend 64
    ∀ i ∈ [Instr.lb base 0#5 offset, .lbu base 0#5 offset, .lh base 0#5 offset, .lhu base 0#5 offset,
        .lw base 0#5 offset, .lwu base 0#5 offset, .ld base 0#5 offset, .lwl base 0#5 offset, .lwr base 0#5 offset,
        .ldl base 0#5 offset, .ldr base 0#5 offset],
      (∀ f, s.translateData false va = .stop f → exec i s = .fault f) ∧
        ((∀ f, s.translateData false va ≠ .stop f) → (∀ pa, s.translateData false va ≠ .ok pa 3#3) →
          exec i s = .next s.after) ∧
        ∀ pa, s.translateData false va = .ok pa 3#3 →
          exec i s = .next s.after ∨ ∃ k b, s.bus.fillD s.seq va pa = .ok k b ∧ exec i s = .next (s.withBus b).after ∧
            b.history = s.bus.history ∧ b.uca = s.bus.uca ∧
            (s.bus.uca = none → s.bus.dataCached pa = false → (s.bus.historyOf (pa.toNat / 32)).cached = false →
              ∀ (p : PhysAddr) (n : Nat), p.toNat / 32 = pa.toNat / 32 → n ≤ 8 → p.toNat % 32 + n ≤ 32 →
                s.bus.regionOf p.toNat = .ram →
                  ∃ b2, b.uncachedRead s.seq p n = .ok (BitVec.ofNat 64 (bytesAt s.bus.mem p.toNat n)) b2)

/-- 40_load_store.md R209 to R213, R220 to R223: the left and right loads from memory put the bytes they touch at their end of
the register and keep the other bytes; the left and right stores change exactly the bytes they touch; besides, the model's own
record of the line (log entries 16 and 17). -/
def Obligations.LeftAndRight : Prop :=
  ∀ (s : State) (base rt : RegNum) (offset : BitVec 16) (pa : PhysAddr), s.CanAdvance →
    let va := s.readGpr base + offset.signExtend 64
    pa.toNat % 8 = va.toNat % 8 →
    let mem := s.bus.mem
    let old := s.readGpr rt
    let u := s.usedUncached pa
    let b4 := va.toNat % 4
    let b8 := va.toNat % 8
    (s.ReachesRam false va pa → rt ≠ 0#5 →
      exec (.lwl base rt offset) s =
          .next (u.writeGpr rt (BitVec.ofInt 64 (Int.bmod
            (bytesAt mem (pa.toNat - b4) (b4 + 1) * 256 ^ (3 - b4) + old.toNat % 256 ^ (3 - b4) : Nat) (2 ^ 32)))).after ∧
        exec (.lwr base rt offset) s =
          .next (u.writeGpr rt (BitVec.ofInt 64 (Int.bmod
            (old.toNat % 2 ^ 32 / 256 ^ (4 - b4) * 256 ^ (4 - b4) + bytesAt mem pa.toNat (4 - b4) : Nat) (2 ^ 32)))).after ∧
        exec (.ldl base rt offset) s =
          .next (u.writeGpr rt (BitVec.ofNat 64
            (bytesAt mem (pa.toNat - b8) (b8 + 1) * 256 ^ (7 - b8) + old.toNat % 256 ^ (7 - b8)))).after ∧
        exec (.ldr base rt offset) s =
          .next (u.writeGpr rt (BitVec.ofNat 64
            (old.toNat / 256 ^ (8 - b8) * 256 ^ (8 - b8) + bytesAt mem pa.toNat (8 - b8)))).after) ∧
      (s.ReachesRam true va pa →
        let stores (i : Instr) (a n v : Nat) : Prop :=
          ∃ m, Stored mem m a n v ∧ exec i s = .next ((s.storedUncached (BitVec.ofNat 40 a) n (BitVec.ofNat 64 v)).withMem m).after
        stores (.swl base rt offset) (pa.toNat - b4) (b4 + 1) (old.toNat % 2 ^ 32 / 256 ^ (3 - b4)) ∧
          stores (.swr base rt offset) pa.toNat (4 - b4) old.toNat ∧
          stores (.sdl base rt offset) (pa.toNat - b8) (b8 + 1) (old.toNat / 256 ^ (7 - b8)) ∧
          stores (.sdr base rt offset) pa.toNat (8 - b8) old.toNat)

/-- 40_load_store.md R209 to R212: a right load at an address and a left load at its last byte together deliver the word
or doubleword at that address, aligned or not, and change nothing else of the bus but the model's own record of the line or
lines (log entry 16). -/
def Obligations.UnalignedPairs : Prop :=
  ∀ (s t u : State) (base rt : RegNum) (lo hi : BitVec 16) (p q : PhysAddr),
    rt ≠ 0#5 → base ≠ rt → s.ReachesRam false (s.readGpr base + lo.signExtend 64) p →
    s.ReachesRam false (s.readGpr base + hi.signExtend 64) q →
    p.toNat % 8 = (s.readGpr base + lo.signExtend 64).toNat % 8 →
    q.toNat % 8 = (s.readGpr base + hi.signExtend 64).toNat % 8 →
    (q.toNat = p.toNat + 3 → exec (.lwr base rt lo) s = .next t → exec (.lwl base rt hi) t = .next u →
      u.readGpr rt = BitVec.ofInt 64 (Int.bmod (bytesAt s.bus.mem p.toNat 4) (2 ^ 32)) ∧
        u.bus = (s.bus.usedUncached p).usedUncached q) ∧
      (q.toNat = p.toNat + 7 → exec (.ldr base rt lo) s = .next t → exec (.ldl base rt hi) t = .next u →
        u.readGpr rt = BitVec.ofNat 64 (bytesAt s.bus.mem p.toNat 8) ∧ u.bus = (s.bus.usedUncached p).usedUncached q)

/-- 60_exceptions.md R548, 40_load_store.md R201, R226 and 10_state.md R23: a misaligned load or store raises the address error
with the failing address, before anything else of the access; so does a fetch at a pc that is not a multiple of 4.
60_exceptions.md R562 with 10_state.md R47: an aligned load or store that translates and whose doubleword Watch names raises
the Watch exception, and stops by name while EXL or ERL is set (93 S11). 20_memory.md R118: an aligned access whose translation
raises an exception takes that exception, and so does a load, or a fetch, whose physical read ends in a bus error (R553). -/
def Obligations.MisalignedAccess : Prop :=
  ∀ (s : State) (base rt : RegNum) (offset : BitVec 16),
    let va := s.readGpr base + offset.signExtend 64
    let bad (n : Nat) : Prop := va.toNat % n ≠ 0
    let loadError := enterException (.addressError false va) s
    let storeError := enterException (.addressError true va) s
    (rt ≠ 0#5 → ∀ p ∈ [(Instr.lh base rt offset, 2), (.lhu base rt offset, 2), (.lw base rt offset, 4),
        (.lwu base rt offset, 4), (.ll base rt offset, 4), (.ld base rt offset, 8), (.lld base rt offset, 8)],
      bad p.2 → exec p.1 s = .next loadError) ∧
      (∀ p ∈ [(Instr.sh base rt offset, 2), (.sw base rt offset, 4), (.sc base rt offset, 4), (.sd base rt offset, 8),
          (.scd base rt offset, 8)], bad p.2 → exec p.1 s = .next storeError) ∧
      (s.Cp1Usable →
        (bad 4 → exec (.lwc1 base rt offset) s = .next loadError ∧ exec (.swc1 base rt offset) s = .next storeError) ∧
        (bad 8 → fpr64Ok s.cp0.status rt = true → exec (.ldc1 base rt offset) s = .next loadError ∧
          exec (.sdc1 base rt offset) s = .next storeError)) ∧
      loadError.cp0.badVAddr = va ∧ loadError.cp0.cause.extractLsb' 2 5 = 4#5 ∧
      storeError.cp0.badVAddr = va ∧ storeError.cp0.cause.extractLsb' 2 5 = 5#5 ∧ storeError.bus = s.bus ∧
      (∀ u, s.tick.boundary = .run u → u.pc.toNat % 4 ≠ 0 →
        step s = .next (enterException (.addressError false u.pc) u) ∧
          (enterException (.addressError false u.pc) u).cp0.badVAddr = u.pc) ∧
      let loads := [(Instr.lb base rt offset, 1), (.lbu base rt offset, 1), (.lh base rt offset, 2),
        (.lhu base rt offset, 2), (.lw base rt offset, 4), (.lwu base rt offset, 4), (.ll base rt offset, 4),
        (.ld base rt offset, 8), (.lld base rt offset, 8), (.lwl base rt offset, 1), (.lwr base rt offset, 1),
        (.ldl base rt offset, 1), (.ldr base rt offset, 1)]
      let stores := [(Instr.sb base rt offset, 1), (.sh base rt offset, 2), (.sw base rt offset, 4),
        (.sc base rt offset, 4), (.sd base rt offset, 8), (.scd base rt offset, 8), (.swl base rt offset, 1),
        (.swr base rt offset, 1), (.sdl base rt offset, 1), (.sdr base rt offset, 1)]
      let allLoads (p : Instr → Prop) : Prop :=
        (rt ≠ 0#5 → ∀ i ∈ loads, va.toNat % i.2 = 0 → p i.1) ∧
          (s.Cp1Usable → (va.toNat % 4 = 0 → p (.lwc1 base rt offset)) ∧
            (va.toNat % 8 = 0 → fpr64Ok s.cp0.status rt = true → p (.ldc1 base rt offset)))
      let allStores (p : Instr → Prop) : Prop :=
        (∀ i ∈ stores, va.toNat % i.2 = 0 → p i.1) ∧
          (s.Cp1Usable → (va.toNat % 4 = 0 → p (.swc1 base rt offset)) ∧
            (va.toNat % 8 = 0 → fpr64Ok s.cp0.status rt = true → p (.sdc1 base rt offset)))
      let noAnswer (b : Bus) (pa : PhysAddr) : Prop :=
        b.regionOf pa.toNat = .unclaimed ∧ b.busErrorOnUnclaimed = true ∧ b.uca = none
      (∀ e, s.translateData false va = .exc e → allLoads fun i => exec i s = .next (enterException e s)) ∧
      (∀ e, s.translateData true va = .exc e → allStores fun i => exec i s = .next (enterException e s)) ∧
      (∀ pa c, s.translateData false va = .ok pa c → s.watchHit false va = false → noAnswer s.bus pa →
        attrOf c ≠ .cached ∨ (s.bus.lookupD va pa = .miss ∧ s.bus.lookupS pa = .miss) →
          allLoads fun i => exec i s = .next (enterException .busErrorData s)) ∧
      (∀ u pa c l, s.tick.boundary = .run u → u.pc.toNat % 4 = 0 → u.translateFetch = .ok pa c l → noAnswer u.bus pa →
        attrOf c ≠ .cached → step s = .next (enterException .busErrorFetch { u with itlb := l })) ∧
      let watched (i : Instr) : Prop :=
        (s.cp0.status.getLsbD 1 = false → s.cp0.status.getLsbD 2 = false →
          exec i s = .next (enterException .watch s)) ∧
          (s.cp0.status.getLsbD 1 = true ∨ s.cp0.status.getLsbD 2 = true → exec i s = .fault .watchDeferred)
      s.cp0.watch.extractLsb' 3 61 = va.extractLsb' 3 61 →
        (s.cp0.watch.getLsbD 1 = true → (∃ pa c, s.translateData false va = .ok pa c) → allLoads watched) ∧
          (s.cp0.watch.getLsbD 0 = true → (∃ pa c, s.translateData true va = .ok pa c) → allStores watched)

/-- 40_load_store.md R216 to R219, R228, R229 and 20_memory.md R100: an aligned uncached store to memory changes exactly its
bytes, and the model's own record of the line (`State.storedUncached`, log entries 16 and 17). -/
def Obligations.UncachedStores : Prop :=
  ∀ (s : State) (base rt : RegNum) (offset : BitVec 16) (pa : PhysAddr), s.CanAdvance →
    let va := s.readGpr base + offset.signExtend 64
    s.ReachesRam true va pa →
    let stores (i : Instr) (n v : Nat) : Prop :=
      va.toNat % n = 0 → ∃ m, Stored s.bus.mem m pa.toNat n v ∧
        exec i s = .next ((s.storedUncached pa n (BitVec.ofNat 64 v)).withMem m).after
    let v := (s.readGpr rt).toNat
    stores (.sb base rt offset) 1 v ∧ stores (.sh base rt offset) 2 v ∧ stores (.sw base rt offset) 4 v ∧
      stores (.sd base rt offset) 8 v ∧
      (s.Cp1Usable → stores (.swc1 base rt offset) 4 (s.readFpr32 rt).toNat ∧
        (fpr64Ok s.cp0.status rt = true → stores (.sdc1 base rt offset) 8 (s.readFpr rt).toNat))

/-- 40_load_store.md R226, R227: SC and SCD store only while LLbit is set, deliver it and clear it; a store also
changes the model's own record of the line (log entries 16 and 17). -/
def Obligations.ConditionalStores : Prop :=
  ∀ (s : State) (base rt : RegNum) (offset : BitVec 16) (pa : PhysAddr), s.CanAdvance →
    let va := s.readGpr base + offset.signExtend 64
    s.ReachesRam true va pa →
    ∀ p ∈ [(Instr.sc base rt offset, 4), (.scd base rt offset, 8)], va.toNat % p.2 = 0 →
      (s.llbit = true → ∃ m, Stored s.bus.mem m pa.toNat p.2 (s.readGpr rt).toNat ∧
        exec p.1 s = .next (State.writeGpr
          { (s.storedUncached pa p.2 (s.readGpr rt)).withMem m with llbit := false } rt 1#64).after) ∧
        (s.llbit = false → exec p.1 s = .next (s.writeGpr rt 0#64).after)

/-- 40_load_store.md R230 and 20_memory.md R128: SYNC completes with the gather buffer empty; with no gathered store it only
moves on, and otherwise only the bus changes: the valid gathered bytes reach memory and no other byte does, and where no data
cache holds the line nothing else changes (the record of log entries 16 and 17 has the stores since they were gathered). A
store of attribute 7 to memory is gathered: its bytes join those of its line; a full line goes to memory as one block; the
bytes of another line go to memory first. -/
def Obligations.SyncDrains : Prop :=
  let full (u : UcaBuffer) (m m' : Memory) : Prop := ∀ a, memByte m' a =
    if u.line.toNat * 32 ≤ a ∧ a < u.line.toNat * 32 + 32 ∧ u.valid.getLsbD (a - u.line.toNat * 32) = true
    then u.data.extractLsb' (8 * (a - u.line.toNat * 32)) 8 else memByte m a
  let inRam (b : Bus) (u : UcaBuffer) : Prop :=
    ∀ n < 32, u.valid.getLsbD n = true → b.regionOf (u.line.toNat * 32 + n) = .ram
  (∀ (s : State), s.CanAdvance →
    (s.bus.uca = none → exec .sync s = .next s.after) ∧
      (∀ b, s.bus.drain s.seq = .ok () b → exec .sync s = .next (s.withBus b).after ∧ b.uca = none) ∧
      ∀ u, s.bus.uca = some u → inRam s.bus u →
        ∃ b, exec .sync s = .next (s.withBus b).after ∧ b.uca = none ∧ full u s.bus.mem b.mem ∧
          (s.bus.dataCached (u.line ++ 0#5) = false →
            { b with mem := s.bus.mem, uca := s.bus.uca } = s.bus)) ∧
  ∀ (s : State) (base rt : RegNum) (offset : BitVec 16) (pa : PhysAddr), s.CanAdvance →
    let va := s.readGpr base + offset.signExtend 64
    s.translateData true va = .ok pa 7#3 → s.watchHit true va = false → pa.toNat % 8 = va.toNat % 8 →
    let off := pa.toNat % 32
    let gathers (i : Instr) (size : Nat) (v : Word) : Prop := va.toNat % size = 0 →
      let mine (n : Nat) : Prop := off ≤ n ∧ n < off + size
      let joins (u u' : UcaBuffer) : Prop := u'.line.toNat = pa.toNat / 32 ∧
        ∀ n < 32, (u'.valid.getLsbD n = true ↔ u.valid.getLsbD n = true ∨ mine n) ∧
          u'.data.extractLsb' (8 * n) 8 = if mine n then v.extractLsb' (8 * (n - off)) 8 else u.data.extractLsb' (8 * n) 8
      let empty : UcaBuffer := { line := pa.extractLsb' 5 35, valid := 0#32, data := 0#256 }
      let ends (b : Bus) : Prop := exec i s = .next (s.withBus b).after
      (∀ u, s.bus.uca = some u ∨ (s.bus.uca = none ∧ u = empty) → u.line.toNat = pa.toNat / 32 →
        ((∃ n < 32, u.valid.getLsbD n = false ∧ ¬mine n) →
          ∃ b u', ends b ∧ b.uca = some u' ∧ joins u u' ∧ { b with uca := s.bus.uca, history := s.bus.history } = s.bus) ∧
        ((∀ n < 32, u.valid.getLsbD n = true ∨ mine n) → (∀ n < 32, s.bus.regionOf (u.line.toNat * 32 + n) = .ram) →
          ∃ b u', ends b ∧ b.uca = none ∧ joins u u' ∧ full u' s.bus.mem b.mem)) ∧
        ∀ u, s.bus.uca = some u → u.line.toNat ≠ pa.toNat / 32 → inRam s.bus u →
          ∃ b u', ends b ∧ b.uca = some u' ∧ joins empty u' ∧ full u s.bus.mem b.mem
    let v := s.readGpr rt
    gathers (.sb base rt offset) 1 v ∧ gathers (.sh base rt offset) 2 v ∧ gathers (.sw base rt offset) 4 v ∧
      gathers (.sd base rt offset) 8 v ∧
      (s.Cp1Usable → gathers (.swc1 base rt offset) 4 ((s.readFpr32 rt).setWidth 64) ∧
        (fpr64Ok s.cp0.status rt = true → gathers (.sdc1 base rt offset) 8 (s.readFpr rt)))

/-- 20_memory.md R117, R126: after a cached store, a cached load of the same bytes delivers them and changes nothing,
whatever slot the refill took, unless the line has been accessed at another colour or uncached (R127). The model's own record
of a line (log entries 16 and 17): an access enters its attribute and colour, so that what R127 leaves undefined is free; a
store, a gathered one when it is executed and not when it is drained, enters what the line held, so that a fetch may see it
(R138); after a writeback-invalidate of the line and Index Invalidate (I) of its set a fetch there sees no earlier content,
after another store the content before that one alone, and an uncached fetch none after another uncached store; a word stored
uncached, with no cached access since the last writeback-invalidate, is the one an uncached fetch delivers, with no further
maintenance; with no earlier content and no copy in a cache a fetch delivers the word of memory. -/
def Obligations.CachedStoreForwarded : Prop :=
  (∀ (b b1 : Bus) (q q' : Nat) (va : Word) (pa : PhysAddr) (n : Nat) (v : Word),
    n ≤ 8 → lineOffset pa + n ≤ 32 → b.cachedWrite q va pa n v = .ok () b1 →
      (b1.historyOf (pa.toNat / 32)).mixedCached (colourBit va) = false →
        b1.cachedRead q' va pa n = .ok (v &&& BitVec.ofNat 64 (256 ^ n - 1)) b1) ∧
  ∀ (b b1 : Bus) (q n : Nat) (va va' : Word) (pa : PhysAddr) (v : Word),
    let line := pa.toNat / 32
    let other : Prop := va'.extractLsb' 12 2 ≠ va.extractLsb' 12 2
    (b.cachedWrite q va pa n v = .ok () b1 → (b1.historyOf line).cached = true ∧
      (other → (b1.historyOf line).mixedCached (colourBit va') = true) ∧
      ∃ c k b0, b.drainLine q pa = .ok () c ∧ c.fillD q va pa = .ok k b0 ∧ (b0.dLine k).data ∈ b1.oldLines va' pa) ∧
      (b.cachedRead q va pa n = .ok v b1 → (b1.historyOf line).cached = true ∧
        (other → (b1.historyOf line).mixedCached (colourBit va') = true) ∧ b1.oldLines va' pa = b.oldLines va' pa) ∧
      (b.uncachedWrite q pa n v = .ok () b1 → (b1.historyOf line).mixedCached (colourBit va) = true ∧
        (b.regionOf pa.toNat = .ram → b.newest pa ∈ b1.oldLines va' pa)) ∧
      (b.drain q = .ok () b1 → b1.history = b.history) ∧
      (b.gather q pa n v = .ok () b1 → b.uca = none → b.regionOf pa.toNat = .ram →
        (b1.historyOf line).mixedCached (colourBit va) = true ∧ b.newest pa ∈ b1.oldLines va' pa ∧
          ∀ d ∈ b1.oldLines va' pa, d = b.newest pa ∨ d ∈ b.oldLines va' pa) ∧
      (b.uncachedRead q pa n = .ok v b1 → (b1.historyOf line).mixedCached (colourBit va) = true) ∧
      (pa.toNat % 4096 = va.toNat % 4096 →
        let clean := (b.hitWrittenBack pa).indexInvalidatedI (va.toNat / 32 % 512)
        clean.oldLines va pa = [] ∧ clean.oldLinesUncached pa = [] ∧
          (clean.cachedWrite q va' pa n v = .ok () b1 →
            ∃ c k b0, clean.drainLine q pa = .ok () c ∧ c.fillD q va' pa = .ok k b0 ∧
              b1.oldLines va pa = [(b0.dLine k).data]) ∧
          (clean.uncachedWrite q pa n v = .ok () b1 → b1.oldLinesUncached pa = [] ∧
            (b.regionOf pa.toNat = .ram → b1.oldLines va pa = [b.newest pa]))) ∧
      (b.uncachedWrite q pa 4 v = .ok () b1 → b.regionOf pa.toNat = .ram → pa.toNat % 4 = 0 → b.uca = none →
        (b.historyOf line).cached = false → ∀ q, b1.fetchUncached q pa = .ok (v.setWidth 32) b1) ∧
      (∀ w, b.oldLines va pa = [] → b.lookupI va pa = .miss → b.dataCached pa = false → b.uca = none →
        (∀ n < 32, b.regionOf (line * 32 + n) = .ram) → pa.toNat % 4 = 0 → b.fetchCached q va pa = .ok w b1 →
          w.toNat = bytesAt b.mem pa.toNat 4)

/-! CP0, the TLB and exceptions. -/

/-- 47_cp0.md R375, 30_encoding.md R178, 48_fpu.md R410: a word of a closed coprocessor, defined or not, raises coprocessor
unusable with its number in CE and has no other effect. For CP0 the reads of registers 24 and 25 (R379) and CACHE under
Diagnostic.U-Mode (R386) are apart; CP1 and CP2 are closed by CU1 = 0 and CU2 = 0 in every mode. -/
def Obligations.CoprocessorsClosed : Prop :=
  ∀ (s : State) (w : BitVec 32),
    let unusable (n : BitVec 2) : Prop :=
      let t := enterException (.coprocessorUnusable n) s
      execWord w s = .next t ∧ t.cp0.cause.extractLsb' 28 2 = n ∧ t.cp0.cause.extractLsb' 2 5 = 11#5
    (s.Cp0Unusable → opField w = 16#6 ∨ opField w = 47#6 →
      (∀ rt rd, decode w = .ok (.mfc0 rt rd) ∨ decode w = .ok (.dmfc0 rt rd) → rd ≠ 24#5 ∧ rd ≠ 25#5) →
      (opField w = 47#6 → s.cp0.diagnostic.getLsbD 8 = false) → unusable 0#2) ∧
      (s.cp0.status.getLsbD 29 = false → isCp1Word w → unusable 1#2) ∧
      (s.cp0.status.getLsbD 30 = false → opField w = 18#6 → unusable 2#2)

/-- 47_cp0.md R379: MFC0 and DMFC0 of registers 24 and 25 never raise coprocessor unusable, in any mode; their writes stay
privileged. -/
def Obligations.CounterReads : Prop :=
  ∀ (s : State) (rt rd : RegNum), rd = 24#5 ∨ rd = 25#5 →
    (s.CanAdvance →
      exec (.mfc0 rt rd) s = .next (s.writeGpr rt (((s.readCp0 rd).setWidth 32).signExtend 64)).after ∧
        exec (.dmfc0 rt rd) s = .next (s.writeGpr rt (s.readCp0 rd)).after) ∧
      (s.Cp0Unusable → exec (.mtc0 rt rd) s = .next (enterException (.coprocessorUnusable 0#2) s) ∧
        exec (.dmtc0 rt rd) s = .next (enterException (.coprocessorUnusable 0#2) s))

/-- 47_cp0.md R376, R377, R378, R385: the CP0 moves where CP0 is usable. The 32-bit forms move the low word, sign-extended. -/
def Obligations.CoprocessorZeroMoves : Prop :=
  ∀ (s : State) (rt rd : RegNum), s.Cp0Usable → s.CanAdvance →
    exec (.mfc0 rt rd) s = .next (s.writeGpr rt (((s.readCp0 rd).setWidth 32).signExtend 64)).after ∧
      exec (.dmfc0 rt rd) s = .next (s.writeGpr rt (s.readCp0 rd)).after ∧
      exec (.mtc0 rt rd) s = .next (s.writeCp0 rd (((s.readGpr rt).setWidth 32).signExtend 64)).after ∧
      exec (.dmtc0 rt rd) s = .next (s.writeCp0 rd (s.readGpr rt)).after

/-- 10_state.md R26 to R56 and 47_cp0.md R405: what each CP0 register reads as after a DMTC0, in terms of the value written
and the value before. The widths follow the register's rule; read-only registers keep their value. Of TagLo and
TagHi the fields of figure 5-20 are written (R54, R56; log entry 26). Each write changes its register alone, and with it
Random for Wired (R32), the pending timer interrupt for Compare (R38) and the instruction TLB for a 1 written to
Diagnostic.ITLB (R49). -/
def Obligations.WrittenThenRead : Prop :=
  ∀ (s : State) (v : Word),
    let after (n : RegNum) := (s.writeCp0 n v).readCp0 n
    let before (n : RegNum) := s.readCp0 n
    let word (m : BitVec 32) := ((v.setWidth 32) &&& m).signExtend 64
    after 0#5 = word 0x8000003F#32 ∧ after 1#5 = before 1#5 ∧ after 2#5 = v &&& 0x20000003FFFFFFFF#64 ∧
      after 3#5 = v &&& 0x20000003FFFFFFFF#64 ∧
      after 4#5 = (before 4#5 &&& 0x00000000007FFFFF#64) ||| (v &&& 0xFFFFFFFFFF800000#64) ∧
      after 5#5 = word 0x01FFE000#32 ∧ after 6#5 = word 0x3F#32 ∧ (s.writeCp0 6#5 v).readCp0 1#5 = 63#64 ∧
      after 8#5 = before 8#5 ∧ after 9#5 = word 0xFFFFFFFF#32 ∧ after 10#5 = v &&& 0xC00000FFFFFFE0FF#64 ∧
      after 11#5 = word 0xFFFFFFFF#32 ∧ after 12#5 = word 0xF5D0FF1F#32 ∧
      after 13#5 = (before 13#5 &&& ~~~0x300#64) ||| (v &&& 0x300#64) ∧ after 14#5 = v ∧ after 15#5 = 0x6302#64 ∧
      after 16#5 = 0x30930#64 ||| (v &&& 7#64) ∧ after 18#5 = v &&& ~~~4#64 ∧
      after 20#5 = (before 20#5 &&& 0x00000001FFFFFFFF#64) ||| (v &&& 0xFFFFFFFE00000000#64) ∧
      after 22#5 &&& ~~~6#64 = v &&& 0x1F1#64 ∧ after 24#5 = v &&& 0x1FFF#64 ∧ after 25#5 = v ∧
      after 28#5 = word 0xFFFFFFF0#32 ∧ after 29#5 = word 0xF#32 ∧ after 30#5 = v ∧
      let w (n : RegNum) := s.writeCp0 n v
      let d (n : RegNum) := (w n).cp0
      let c := s.cp0
      (∀ n, { w n with cp0 := c, itlb := s.itlb } = s ∧
        (w n).itlb = if n = 22#5 ∧ v.getLsbD 2 = true then [] else s.itlb) ∧
      d 0#5 = { c with index := (d 0#5).index } ∧ d 2#5 = { c with entryLo0 := (d 2#5).entryLo0 } ∧
      d 3#5 = { c with entryLo1 := (d 3#5).entryLo1 } ∧ d 4#5 = { c with context := (d 4#5).context } ∧
      d 5#5 = { c with pageMask := (d 5#5).pageMask } ∧ d 6#5 = { c with wired := (d 6#5).wired, random := 63#6 } ∧
      d 9#5 = { c with count := (d 9#5).count } ∧ d 10#5 = { c with entryHi := (d 10#5).entryHi } ∧
      d 11#5 = { c with compare := (d 11#5).compare, timerPending := false } ∧
      d 12#5 = { c with status := (d 12#5).status } ∧ d 13#5 = { c with cause := (d 13#5).cause } ∧
      d 14#5 = { c with epc := (d 14#5).epc } ∧ d 16#5 = { c with k0 := (d 16#5).k0 } ∧
      d 18#5 = { c with watch := (d 18#5).watch } ∧ d 20#5 = { c with xcontext := (d 20#5).xcontext } ∧
      d 22#5 = { c with diagnostic := (d 22#5).diagnostic } ∧ d 24#5 = { c with perfCtrl := (d 24#5).perfCtrl } ∧
      d 25#5 = { c with perfCnt := (d 25#5).perfCnt } ∧ d 28#5 = { c with tagLo := (d 28#5).tagLo } ∧
      d 29#5 = { c with tagHi := (d 29#5).tagHi } ∧ d 30#5 = { c with errorEpc := (d 30#5).errorEpc } ∧
      ∀ n ∈ [1#5, 7#5, 8#5, 15#5, 17#5, 19#5, 21#5, 23#5, 26#5, 27#5, 31#5], d n = c

/-- 47_cp0.md R380 and 20_memory.md R113: TLBP delivers the number of the one matching entry, or sets Index.P; nothing else
changes. -/
def Obligations.TlbProbe : Prop :=
  ∀ (s : State), s.Cp0Usable → s.CanAdvance →
    let hi := s.cp0.entryHi
    let hits (i : Fin 64) : Prop :=
      let e := s.tlb[i]
      (∀ j : Nat, j < 27 → (e.mask.setWidth 27).getLsbD j = false → e.vpn2.getLsbD j = hi.getLsbD (13 + j)) ∧
        e.r = hi.extractLsb' 62 2 ∧ (e.g = true ∨ e.asid = hi.extractLsb' 0 8)
    (∀ i, hits i → (∀ j, hits j → j = i) → exec .tlbp s = .next (s.setIndex (BitVec.ofNat 32 i.val)).after) ∧
      ((∀ i, ¬hits i) → ∃ v : BitVec 6, exec .tlbp s = .next (s.setIndex (1#1 ++ 0#25 ++ v)).after) ∧
      ∀ i j, hits i → hits j → i ≠ j → exec .tlbp s = .fault .tlbMultipleMatch

/-- 47_cp0.md R382, R383: TLBWI and TLBWR write the entry of Index or Random from the registers and change nothing else, the
instruction TLB included. -/
def Obligations.TlbWrite : Prop :=
  ∀ (s : State), s.Cp0Usable → s.CanAdvance →
    s.cp0.pageMask.extractLsb' 13 12 ∈ [0x000#12, 0x003#12, 0x00F#12, 0x03F#12, 0x0FF#12, 0x3FF#12, 0xFFF#12] →
    let c := s.cp0
    let m := c.pageMask.extractLsb' 13 12
    let half (lo : BitVec 64) : TlbPage :=
      { e := lo.getLsbD 61, pfn := lo.extractLsb' 6 28, c := lo.extractLsb' 3 3, d := lo.getLsbD 2, v := lo.getLsbD 1 }
    let e : TlbEntry :=
      { mask := m, r := c.entryHi.extractLsb' 62 2, vpn2 := c.entryHi.extractLsb' 13 27 &&& ~~~(m.setWidth 27),
        g := c.entryLo0.getLsbD 0 && c.entryLo1.getLsbD 0, asid := c.entryHi.extractLsb' 0 8,
        even := half c.entryLo0, odd := half c.entryLo1 }
    let writes (i : Instr) (k : BitVec 6) : Prop :=
      ∃ t, exec i s = .next t ∧ t.tlb[k.toNat] = e ∧
        (∀ j : BitVec 6, j ≠ k → t.tlb[j.toNat] = s.tlb[j.toNat]) ∧ { t with tlb := s.tlb } = s.after
    writes .tlbwi (c.index.extractLsb' 0 6) ∧ writes .tlbwr c.random

/-- 47_cp0.md R381, R382: TLBR delivers the entry that Index names, whatever it holds, to PageMask, EntryHi, EntryLo0 and
EntryLo1, and changes nothing else. After TLBWI it delivers the registers written, with G the conjunction of the two G bits
and the VPN2 bits under Mask clear. -/
def Obligations.TlbRoundTrip : Prop :=
  (∀ (s : State), s.Cp0Usable → s.CanAdvance →
    let e := s.tlb[(s.cp0.index.extractLsb' 0 6).toNat]
    let lo (p : TlbPage) : BitVec 64 :=
      0#2 ++ BitVec.ofBool p.e ++ 0#27 ++ p.pfn ++ p.c ++ BitVec.ofBool p.d ++ BitVec.ofBool p.v ++ BitVec.ofBool e.g
    exec .tlbr s = .next { s.after with cp0 := { s.cp0 with
      pageMask := BitVec.ofNat 32 (e.mask.toNat * 2 ^ 13)
      entryHi := e.r ++ 0#22 ++ (e.vpn2 &&& ~~~(e.mask.setWidth 27)) ++ 0#5 ++ e.asid
      entryLo0 := lo e.even
      entryLo1 := lo e.odd } }) ∧
  ∀ (s : State), s.Cp0Usable → s.CanAdvance → (s.after).CanAdvance → s.cp0.ReservedZero →
    s.cp0.pageMask.extractLsb' 13 12 ∈ [0x000#12, 0x003#12, 0x00F#12, 0x03F#12, 0x0FF#12, 0x3FF#12, 0xFFF#12] →
    let c := s.cp0
    let g := c.entryLo0 &&& c.entryLo1 &&& 1#64
    let under := (c.pageMask.extractLsb' 13 12).setWidth 64 <<< 13
    ∃ t u, exec .tlbwi s = .next t ∧ exec .tlbr t = .next u ∧ u.tlb = t.tlb ∧ u.gpr = s.gpr ∧
      u.cp0 = { c with entryLo0 := (c.entryLo0 &&& ~~~1#64) ||| g, entryLo1 := (c.entryLo1 &&& ~~~1#64) ||| g,
                       entryHi := c.entryHi &&& ~~~under }

/-- 20_memory.md R111: the segment classification in every mode, as unsigned address ranges; an unmapped address translates
without the TLB. So do data accesses and fetches (R118): an address error raises its exception, an unmapped address has the
physical address and the attribute of its segment. -/
def Obligations.SegmentMap : Prop :=
  (∀ (s : State) (m : Mode), modeOf s.cp0.status = some m →
    (∀ (store : Bool) (va : Word),
      (segmentOf m s.cp0.k0 va = .addressError → s.translateData store va = .exc (.addressError store va)) ∧
        ∀ pa c, segmentOf m s.cp0.k0 va = .unmapped pa c → s.translateData store va = .ok pa c) ∧
      (segmentOf m s.cp0.k0 s.pc = .addressError → s.translateFetch = .exc (.addressError false s.pc)) ∧
      ∀ pa c, segmentOf m s.cp0.k0 s.pc = .unmapped pa c → s.translateFetch = .ok pa c s.itlb) ∧
  ∀ (m : Mode) (k0 : BitVec 3) (va : Word),
    let a := va.toNat
    let is (seg : Segment) : Prop := segmentOf m k0 va = seg
    let within (lo n : Nat) : Prop := lo ≤ a ∧ a < lo + n
    (within 0 (2 ^ 40) → is .mapped) ∧ (within (2 ^ 40) (2 ^ 62 - 2 ^ 40) → is .addressError) ∧
      (within (2 ^ 62) (2 ^ 40) → is (if m = .user then .addressError else .mapped)) ∧
      (within (2 ^ 62 + 2 ^ 40) (2 ^ 62 - 2 ^ 40) → is .addressError) ∧
      (∀ c : BitVec 3, ∀ p : PhysAddr, a = 2 ^ 63 + c.toNat * 2 ^ 59 + p.toNat →
        is (if m = .kernel then .unmapped p c else .addressError)) ∧
      (within (2 ^ 63) (2 ^ 62) → 2 ^ 40 ≤ a % 2 ^ 59 → is .addressError) ∧
      (within (3 * 2 ^ 62) (2 ^ 40 - 2 ^ 31) → is (if m = .kernel then .mapped else .addressError)) ∧
      (within (3 * 2 ^ 62 + 2 ^ 40 - 2 ^ 31) (2 ^ 62 - 2 ^ 40) → is .addressError) ∧
      (within (2 ^ 64 - 2 ^ 31) (2 ^ 29) →
        is (if m = .kernel then .unmapped (BitVec.ofNat 40 (a % 2 ^ 29)) k0 else .addressError)) ∧
      (within (2 ^ 64 - 3 * 2 ^ 29) (2 ^ 29) →
        is (if m = .kernel then .unmapped (BitVec.ofNat 40 (a % 2 ^ 29)) 2#3 else .addressError)) ∧
      (within (2 ^ 64 - 2 ^ 30) (2 ^ 29) → is (if m = .user then .addressError else .mapped)) ∧
      (within (2 ^ 64 - 2 ^ 29) (2 ^ 29) → is (if m = .kernel then .mapped else .addressError))

/-- 20_memory.md R113 to R118: a mapped data address that one valid entry matches translates to its frame and offset; no entry
is a refill, an invalid or a clean page its exception. A mapped fetch through the joint TLB does the same and checks E
(60_exceptions.md R561) and the page size (R121); while the recorded set holds no match it goes through the joint TLB, else it
may also be served by a matching recorded translation (R123). Its exception is taken before any instruction, and writing 1 to
Diagnostic.ITLB empties the set (10_state.md R49). That only successful translations are recorded is the model's (log 18). -/
def Obligations.TlbTranslation : Prop :=
  (∀ (s : State) (store : Bool) (va : Word) (m : Mode),
    modeOf s.cp0.status = some m → segmentOf m s.cp0.k0 va = .mapped →
    (tlbFind s.tlb (va.extractLsb' 62 2) (va.extractLsb' 13 27) (s.cp0.entryHi.extractLsb' 0 8) = .none →
      s.translateData store va = .exc (.tlbRefill store va)) ∧
      ∀ (i : Fin 64) (k : Nat),
        tlbFind s.tlb (va.extractLsb' 62 2) (va.extractLsb' 13 27) (s.cp0.entryHi.extractLsb' 0 8) = .one i →
        k ≤ 6 → (s.tlb[i]).mask.toNat = 4 ^ k - 1 →
        let page := if va.toNat / 2 ^ (12 + 2 * k) % 2 = 1 then (s.tlb[i]).odd else (s.tlb[i]).even
        (page.v = false → s.translateData store va = .exc (.tlbInvalid store va)) ∧
          (page.v = true → store = true → page.d = false → s.translateData store va = .exc (.tlbModified va)) ∧
          (page.v = true → store = false ∨ page.d = true →
            ∃ pa, s.translateData store va = .ok pa page.c ∧
              pa.toNat = page.pfn.toNat * 2 ^ 12 / 2 ^ (12 + 2 * k) * 2 ^ (12 + 2 * k) + va.toNat % 2 ^ (12 + 2 * k))) ∧
  (∀ (s : State) (m : Mode), modeOf s.cp0.status = some m → segmentOf m s.cp0.k0 s.pc = .mapped →
    let pc := s.pc
    let size := s.cp0.pageMask.extractLsb' 13 12
    let address (p : TlbPage) (k : Nat) : Nat :=
      p.pfn.toNat * 2 ^ 12 / 2 ^ (12 + 2 * k) * 2 ^ (12 + 2 * k) + pc.toNat % 2 ^ (12 + 2 * k)
    let find := tlbFind s.tlb (pc.extractLsb' 62 2) (pc.extractLsb' 13 27) (s.cp0.entryHi.extractLsb' 0 8)
    (find = .none → s.fetchThroughJtlb = .exc (.tlbRefill false pc)) ∧
      (∀ (i : Fin 64) (k : Nat), find = .one i → k ≤ 6 → (s.tlb[i]).mask.toNat = 4 ^ k - 1 →
        let e := s.tlb[i]
        let odd : Bool := pc.toNat / 2 ^ (12 + 2 * k) % 2 = 1
        let page := if odd then e.odd else e.even
        let used : ItlbEntry :=
          { mask := e.mask, r := e.r, vpn2 := e.vpn2, g := e.g, asid := e.asid, oddPage := odd, page := page }
        (page.v = false → s.fetchThroughJtlb = .exc (.tlbInvalid false pc)) ∧
          (page.v = true → e.mask ≠ size → s.fetchThroughJtlb = .stop .tlbMaskMixed) ∧
          (page.v = true → e.mask = size → page.e = true → s.fetchThroughJtlb = .exc (.addressError false pc)) ∧
          (page.v = true → e.mask = size → page.e = false →
            ∃ pa l, s.fetchThroughJtlb = .ok pa page.c l ∧ pa.toNat = address page k ∧
              ∀ x, x ∈ l ↔ x = used ∨ x ∈ s.itlb)) ∧
      ((∀ x ∈ s.itlb, x.holds pc (s.cp0.entryHi.extractLsb' 0 8) = false) → s.translateFetch = s.fetchThroughJtlb) ∧
      (s.translateFetch = s.fetchThroughJtlb ∨
        ∃ x ∈ s.itlb, x.holds pc (s.cp0.entryHi.extractLsb' 0 8) = true ∧
          ∀ k ≤ 6, x.mask.toNat = 4 ^ k - 1 → x.mask = size → x.page.e = false →
            ∃ pa, s.translateFetch = .ok pa x.page.c s.itlb ∧ pa.toNat = address x.page k)) ∧
  (∀ (s u : State) (e : Exc), s.tick.boundary = .run u → u.pc.toNat % 4 = 0 → u.translateFetch = .exc e →
    step s = .next (enterException e u)) ∧
  ∀ (s : State) (rt : RegNum), s.Cp0Usable → s.CanAdvance → (s.readGpr rt).getLsbD 2 = true →
    ∀ i ∈ [Instr.mtc0 rt 22#5, .dmtc0 rt 22#5], ∃ t, exec i s = .next t ∧ t.itlb = []

/-- 47_cp0.md R384: ERET returns to EPC in every case, clears ERL if it is set and else EXL, clears LLbit, has no delay slot,
and changes nothing else; in a delay slot it is outside the spec; elsewhere than where CP0 is usable it raises coprocessor
unusable. -/
def Obligations.ExceptionReturn : Prop :=
  ∀ (s : State),
    decode 0x42000018#32 = .ok .eret ∧
      (s.Cp0Usable → s.delay = none →
        exec .eret s = .next { s with
          pc := s.cp0.epc
          llbit := false
          cp0 := { s.cp0 with
            status := if s.cp0.status.getLsbD 2 then s.cp0.status &&& 0xFFFFFFFB#32 else s.cp0.status &&& 0xFFFFFFFD#32 } }) ∧
      (s.Cp0Usable → s.delay ≠ none → exec .eret s = .refused .eretInDelaySlot) ∧
      (s.Cp0Unusable → exec .eret s = .next (enterException (.coprocessorUnusable 0#2) s))

/-- 60_exceptions.md R540, with the codes of R530 and the vectors of R541: what the entry of every exception saves, sets and
leaves. The registers that record an address are R548's and R549's: BadVAddr for an address error; BadVAddr, Context, XContext, EntryHi
and the undefined EntryLo0 and EntryLo1 for a TLB exception. -/
def Obligations.ExceptionEntry : Prop :=
  ∀ (s : State) (e : Exc),
    let t := enterException e s
    let st := s.cp0.status
    let refill := match e with
      | .tlbRefill _ _ => true
      | _ => false
    let base : Word := if st.getLsbD 22 then 0xFFFFFFFFBFC00200#64 else 0xFFFFFFFF80000000#64
    (st.getLsbD 1 = false →
      t.cp0.epc = (if s.delay = none then s.pc else s.pc - 4#64) ∧ t.cp0.cause.getLsbD 31 = s.delay.isSome ∧
        t.pc = base + (if refill then 0#64 else 0x180#64)) ∧
      (st.getLsbD 1 = true → t.cp0.epc = s.cp0.epc ∧ t.cp0.cause.getLsbD 31 = s.cp0.cause.getLsbD 31 ∧
        t.pc = base + 0x180#64) ∧
      t.cp0.cause.extractLsb' 2 5 = (match e with
        | .interrupt => 0#5 | .tlbModified _ => 1#5
        | .tlbRefill store _ | .tlbInvalid store _ => if store then 3#5 else 2#5
        | .addressError store _ => if store then 5#5 else 4#5
        | .busErrorFetch => 6#5 | .busErrorData => 7#5 | .systemCall => 8#5 | .breakpoint => 9#5
        | .reservedInstruction => 10#5 | .coprocessorUnusable _ => 11#5 | .integerOverflow => 12#5 | .trap => 13#5
        | .floatingPoint => 15#5 | .watch => 23#5) ∧
      (∀ u, e = .coprocessorUnusable u → t.cp0.cause.extractLsb' 28 2 = u) ∧
      t.cp0.status = st ||| 2#32 ∧ modeOf t.cp0.status = some .kernel ∧ t.interruptReady = false ∧
      t.cp0.cause.extractLsb' 8 2 = s.cp0.cause.extractLsb' 8 2 ∧
      t = { s with cp0 := t.cp0, pc := t.pc, delay := none } ∧
      let c := t.cp0
      let kept := { s.cp0 with epc := c.epc, cause := c.cause, status := c.status }
      match e with
      | .addressError _ va => c = { kept with badVAddr := va }
      | .tlbModified va | .tlbRefill _ va | .tlbInvalid _ va => c = { kept with
          badVAddr := va, context := c.context, xcontext := c.xcontext, entryHi := c.entryHi, entryLo0 := c.entryLo0,
          entryLo1 := c.entryLo1 }
      | _ => c = kept

/-- 60_exceptions.md R549: what the three TLB exceptions record of the failing address. -/
def Obligations.TlbExceptionRegisters : Prop :=
  ∀ (s : State) (va : Word) (store : Bool),
    ∀ e ∈ [Exc.tlbRefill store va, .tlbInvalid store va, .tlbModified va],
      let c := (enterException e s).cp0
      c.badVAddr = va ∧ c.context.extractLsb' 4 19 = va.extractLsb' 13 19 ∧
        c.context.extractLsb' 23 41 = s.cp0.context.extractLsb' 23 41 ∧
        c.xcontext.extractLsb' 31 2 = va.extractLsb' 62 2 ∧ c.xcontext.extractLsb' 4 27 = va.extractLsb' 13 27 ∧
        c.xcontext.extractLsb' 33 31 = s.cp0.xcontext.extractLsb' 33 31 ∧
        c.entryHi.extractLsb' 62 2 = va.extractLsb' 62 2 ∧ c.entryHi.extractLsb' 13 27 = va.extractLsb' 13 27 ∧
        c.entryHi.extractLsb' 0 8 = s.cp0.entryHi.extractLsb' 0 8 ∧ c.random = s.cp0.random ∧
        c.pageMask = s.cp0.pageMask

/-- 60_exceptions.md R563, R568 and R540: at a boundary with no reset requested, the interrupt condition decides. While it is
false an instruction runs; while it holds the interrupt is taken once the wait is over, and each instruction that runs first
shortens the wait by one. The wait counter is the model's (log entry 7). In the undefined mode (10_state.md R37) the step
stops instead, whatever is pending. -/
def Obligations.InterruptSampling : Prop :=
  ∀ (s : State), s.coldResetRequest = false → s.nmiRequest = false → s.softResetRequest = false →
    let u := s.tick
    let st := u.cp0.status
    let pending : Prop := st.getLsbD 0 = true ∧ st.getLsbD 1 = false ∧ st.getLsbD 2 = false ∧
      ∃ k < 8, u.causeValue.getLsbD (8 + k) = true ∧ st.getLsbD (8 + k) = true
    let undefined : Prop := st.extractLsb' 3 2 = 3#2 ∧ st.getLsbD 1 = false ∧ st.getLsbD 2 = false
    (undefined → step s = .fault .ksuReserved) ∧
      (¬undefined →
        (¬pending → step s = runInstr { u with irqWait := none }) ∧
          (pending → s.irqWait = some 0 → step s = .next (enterException .interrupt { u with irqWait := none })) ∧
          (∀ n, pending → s.irqWait = some (n + 1) → step s = runInstr { u with irqWait := some n }) ∧
          (pending → s.irqWait = none →
            ∃ n, (n = 0 → step s = .next (enterException .interrupt { u with irqWait := none })) ∧
              ∀ k, n = k + 1 → step s = runInstr { u with irqWait := some k }))

/-- 70_reset_and_hazards.md R662: NMI saves the next instruction's address, or its branch's, in ErrorEPC, sets ERL, SR and BEV,
goes to the reset vector, and keeps everything else, the registers, CP0, the caches and memory; BadVAddr becomes undefined.
(Count, Random, the timer and the performance counters move as at the start of any step: log entries 4, 5 and 6.) Soft reset
does the same and clears Cause.IP[6:2] (60_exceptions.md R569, 92_eei_decisions.md D22), whatever the lines and the counters. Cold
reset (R660) sets the listed fields, Cause.IP[6:2] among them, and keeps the old pc in ErrorEPC. The model's choices, not the
spec's: by log entry 24 a cold reset is served before an NMI and an NMI before a soft reset, a cold reset keeps memory, which
R660 calls any value, and cold and soft reset clear the recorded pulses of the interrupt controller, while an NMI keeps a soft
reset request; by log entry 1 no delay slot is pending after a cold reset (DEDUCED). -/
def Obligations.NonMaskableInterrupt : Prop :=
  ∀ (s : State),
    let entered (t : State) : Prop :=
      t.pc = 0xFFFFFFFFBFC00000#64 ∧ t.delay = none ∧
        t.cp0.errorEpc = (if s.delay = none then s.pc else s.pc - 4#64) ∧
        t.cp0.status.getLsbD 2 = true ∧ t.cp0.status.getLsbD 20 = true ∧ t.cp0.status.getLsbD 22 = true ∧
        (∀ k < 32, k ≠ 2 → k ≠ 20 → k ≠ 22 → t.cp0.status.getLsbD k = s.cp0.status.getLsbD k) ∧
        t.cp0.cause = s.cp0.cause ∧ t.cp0.epc = s.cp0.epc ∧ t.gpr = s.gpr ∧ t.hi = s.hi ∧ t.lo = s.lo ∧
        t.fpr = s.fpr ∧ t.fcsr = s.fcsr ∧ t.tlb = s.tlb ∧ t.llbit = s.llbit ∧ t.bus.mem = s.bus.mem ∧
        t.bus.dcache = s.bus.dcache ∧ t.bus.scache = s.bus.scache ∧ t.bus.icache = s.bus.icache ∧
        t = { s with
          pc := t.pc
          delay := none
          seq := t.seq
          nmiRequest := t.nmiRequest
          softResetRequest := t.softResetRequest
          bus := { s.bus with pulses := t.bus.pulses, lastLines := t.bus.lastLines }
          cp0 := { s.cp0 with
            errorEpc := t.cp0.errorEpc, status := t.cp0.status, badVAddr := t.cp0.badVAddr, count := s.tick.cp0.count,
            timerPending := s.tick.cp0.timerPending, random := s.tick.cp0.random, perfCnt := s.tick.cp0.perfCnt,
            dropped := t.cp0.dropped } }
    let cleared (t : State) : Prop := t.causeValue.extractLsb' 10 5 = 0#5
    (s.coldResetRequest = false → s.nmiRequest = true → ∃ t, step s = .next t ∧ entered t ∧
      t.nmiRequest = false ∧ t.softResetRequest = s.softResetRequest ∧ t.bus.pulses = s.tick.bus.pulses ∧
      t.causeValue = s.tick.causeValue) ∧
      (s.coldResetRequest = false → s.nmiRequest = false → s.softResetRequest = true →
        ∃ t, step s = .next t ∧ entered t ∧ t.softResetRequest = false ∧ t.nmiRequest = false ∧ t.bus.pulses = 0#15 ∧
          cleared t) ∧
      (s.coldResetRequest = true →
        ∃ t, step s = .next t ∧ t.pc = 0xFFFFFFFFBFC00000#64 ∧ t.delay = none ∧ t.cp0.errorEpc = s.pc ∧
          t.cp0.status = 0x30400004#32 ∧ t.readCp0 16#5 = 0x00030932#64 ∧ t.readCp0 1#5 = 63#64 ∧
          t.readCp0 6#5 = 0#64 ∧ t.cp0.perfCtrl.extractLsb' 5 8 = 0#8 ∧ t.bus.pulses = 0#15 ∧ cleared t ∧
          modeOf t.cp0.status = some .kernel ∧ t.interruptReady = false ∧ t.bus.mem = s.bus.mem ∧
          t.coldResetRequest = false)

/-- 60_exceptions.md R565 and 10_state.md R38, with the moment of log entry 4: the timer interrupt becomes pending at the tick
of a step that begins with Count equal to Compare, and a write of Compare clears it. That the match is seen at the tick alone,
so that no other instruction changes the pending bit (a write of Count with the value of Compare among them), is the model's
choice. Cause.IP (R41, 60_exceptions.md R564, R566): IP7 is external line 5 or the timer, IP6 line 4 or a
performance counter with its top bit set while PerfCtrl.IE allows it, IP5 to IP2 the other lines, IP1 and IP0 as written; of the
requests on IP6 to IP2 those do not show that a reset has cleared (R569) and whose line or counter has gone on since without
a break (until when is free, log entry 24). The performance counters stand still while no count-enable bit matches Status (R51), and no instruction but a write to them
changes them; the advance of time changes nothing else. -/
def Obligations.TimerInterrupt : Prop :=
  ∀ (s t : State) (i : Instr),
    (s.cp0.count = s.cp0.compare → s.tick.cp0.timerPending = true) ∧
      (s.cp0.timerPending = true → s.tick.cp0.timerPending = true ∧ s.causeValue.getLsbD 15 = true) ∧
      (s.Cp0Usable → s.CanAdvance → ∀ rt, (∃ u, exec (.mtc0 rt 11#5) s = .next u ∧ u.cp0.timerPending = false) ∧
        ∃ u, exec (.dmtc0 rt 11#5) s = .next u ∧ u.cp0.timerPending = false) ∧
      (exec i s = .next t → (∀ rt, i ≠ .mtc0 rt 11#5) → (∀ rt, i ≠ .dmtc0 rt 11#5) →
        t.cp0.timerPending = s.cp0.timerPending) ∧
      (let ext := s.bus.extLines
       let ip (k : Nat) : Bool := s.causeValue.getLsbD (8 + k)
       let overflow : Bool := s.cp0.perfCtrl.getLsbD 4 && (s.cp0.perfCnt.getLsbD 31 || s.cp0.perfCnt.getLsbD 63)
       let request (k : Nat) : Bool := if k = 5 then overflow else ext.getLsbD k
       let shown (k : Nat) : Bool := request k && !s.cp0.dropped.getLsbD k
       ip 7 = (ext.getLsbD 5 || s.cp0.timerPending) ∧ ip 6 = (shown 4 || shown 5) ∧
         (∀ k < 4, ip (2 + k) = shown k) ∧ (∀ k < 2, ip k = s.cp0.cause.getLsbD (8 + k)) ∧
         (∀ k < 6, (s.cp0.dropped.getLsbD k && request k) = false → s.tick.cp0.dropped.getLsbD k = false)) ∧
      (exec i s = .next t → t.cp0.dropped = s.cp0.dropped) ∧
      (let st := s.cp0.status
       let on (k : Nat) : Prop := s.cp0.perfCtrl.getLsbD k = true
       let counts : Prop := st.getLsbD 2 = false ∧ ((st.getLsbD 1 = true ∧ on 0) ∨ (st.getLsbD 1 = false ∧
         ((st.extractLsb' 3 2 = 0#2 ∧ on 1) ∨ (st.extractLsb' 3 2 = 1#2 ∧ on 2) ∨ (st.extractLsb' 3 2 = 2#2 ∧ on 3))))
       (¬counts → s.tick.cp0.perfCnt = s.cp0.perfCnt) ∧
         (exec i s = .next t → (∀ rt, i ≠ .mtc0 rt 25#5) → (∀ rt, i ≠ .dmtc0 rt 25#5) →
           t.cp0.perfCnt = s.cp0.perfCnt)) ∧
      s.tick = { s with
        seq := s.tick.seq
        cp0 := { s.cp0 with
          count := s.tick.cp0.count, timerPending := s.tick.cp0.timerPending, random := s.tick.cp0.random,
          perfCnt := s.tick.cp0.perfCnt, dropped := s.tick.cp0.dropped }
        bus := { s.bus with pulses := s.tick.bus.pulses, lastLines := s.tick.bus.lastLines } }

/-- 10_state.md R95 and 70_reset_and_hazards.md R660, R661: the values the spec states for reset, and the mode and interrupt
state they give. Two clauses rest on log entry 1: that no delay slot is pending (DEDUCED), and that the instruction TLB is
empty (the `[]` of the fetch translation), which R95 calls any value (DESIGN CHOICE). -/
def Obligations.ResetValues : Prop :=
  let s := State.reset
  s.pc = 0xFFFFFFFFBFC00000#64 ∧ s.delay = none ∧ s.cp0.status = 0x30400004#32 ∧ s.readCp0 16#5 = 0x00030932#64 ∧
    s.readCp0 1#5 = 63#64 ∧ s.cp0.wired = 0#6 ∧ s.readCp0 15#5 = 0x00006302#64 ∧ Config.fcr0 = 0x00000501#32 ∧
    s.causeValue.extractLsb' 10 5 = 0#5 ∧ s.cp0.perfCtrl.extractLsb' 5 8 = 0#8 ∧ modeOf s.cp0.status = some .kernel ∧
    s.interruptReady = false ∧ s.Cp0Usable ∧ s.Cp1Usable ∧ statusBev s.cp0.status = true ∧
    s.translateFetch = .ok 0x1FC00000#40 2#3 []

/-- 30_encoding.md R175: the words with an undefined opcode, SPECIAL function or REGIMM selector, and the COP1X words, raise
reserved instruction in every state. The SPECIAL functions 1, 10 and 11 are left to R176 (a), which refuses them; R175 itself
excepts two of the three, so that reading is the model's choice (log entry 36). -/
def Obligations.ReservedInstructions : Prop :=
  ∀ (s : State) (w : BitVec 32),
    (isReservedWord w →
      execWord w s = .next (enterException .reservedInstruction s) ∧
        (enterException .reservedInstruction s).cp0.cause.extractLsb' 2 5 = 10#5) ∧
      (opField w = 0#6 → functField w ∈ [1#6, 10#6, 11#6] → execWord w s = .refused .outsideSpec)

/-- 47_cp0.md R375, R379, R386 and 60_exceptions.md R540: no instruction run in user mode with CP0 closed changes a CP0
register or the TLB, except by taking an exception. -/
def Obligations.UserModeConfined : Prop :=
  ∀ (s t : State) (i : Instr), s.PlainUser → exec i s = .next t →
    (t.cp0 = s.cp0 ∧ t.tlb = s.tlb ∧ t.itlb = s.itlb) ∨
      ∃ e u, t = enterException e u ∧ u.cp0 = s.cp0 ∧ u.tlb = s.tlb ∧ u.itlb = s.itlb

/-! The CACHE operations. -/

/-- 47_cp0.md R391 to R394, R400, R401, R403, R404: the tag and data operations move exactly the listed fields, and change
nothing else. That Index Store Tag (D) and Index Store Data (D) keep the W bit of the line, which R393 and R403 do not name, is
the model's choice, log entry 14. -/
def Obligations.CacheTagsAndData : Prop :=
  ∀ (s : State) (base : RegNum) (offset : BitVec 16) (pa : PhysAddr),
    s.CacheReaches base offset false pa → s.CanAdvance →
    let va := s.readGpr base + offset.signExtend 64
    let k := va.toNat / 32 % 512 * 4 + va.toNat % 4
    let j := pa.toNat / 32 % 4096 * 4 + pa.toNat % 4
    let dw := va.toNat / 8 % 4
    let sw := pa.toNat / 8 % 4
    let d := s.bus.dLine k
    let l := s.bus.sLine j
    let lo := s.cp0.tagLo
    let hi := s.cp0.tagHi
    let loads (i : Instr) (p : BitVec 32 → BitVec 32 → Prop) : Prop :=
      ∃ x y, p x y ∧ exec i s = .next { s.after with cp0 := { s.cp0 with tagLo := x, tagHi := y } }
    let storesD (i : Instr) (p : DLine → Prop) : Prop :=
      ∃ b, p (b.dLine k) ∧ (∀ n, n ≠ k → b.dLine n = s.bus.dLine n) ∧ { b with dcache := s.bus.dcache } = s.bus ∧
        exec i s = .next (s.withBus b).after
    let storesS (i : Instr) (p : SLine → Prop) : Prop :=
      ∃ b, p (b.sLine j) ∧ (∀ n, n ≠ j → b.sLine n = s.bus.sLine n) ∧ { b with scache := s.bus.scache } = s.bus ∧
        exec i s = .next (s.withBus b).after
    let put (old new : Line) (w : Nat) : Prop :=
      ∀ n < 4, new.extractLsb' (64 * n) 64 = if n = w then hi ++ lo else old.extractLsb' (64 * n) 64
    loads (.cacheIndexLoadTagD base offset) (fun x y =>
        x.extractLsb' 4 2 = d.scway ∧ x.extractLsb' 6 2 = d.cs ∧ y.extractLsb' 0 4 ++ x.extractLsb' 8 24 = d.ptag ∧
          x.extractLsb' 0 4 = 0#4 ∧ y.extractLsb' 4 25 = 0#25) ∧
      loads (.cacheIndexLoadTagS base offset) (fun x y =>
        x.extractLsb' 10 2 = l.state ∧ y.extractLsb' 0 4 ++ x.extractLsb' 13 19 = l.tag ∧ x.extractLsb' 0 10 = 0#10 ∧
          x.getLsbD 12 = false ∧ y.extractLsb' 4 28 = 0#28) ∧
      loads (.cacheIndexLoadDataD base offset) (fun x y => y ++ x = d.data.extractLsb' (64 * dw) 64) ∧
      loads (.cacheIndexLoadDataS base offset) (fun x y => y ++ x = l.data.extractLsb' (64 * sw) 64) ∧
      storesD (.cacheIndexStoreTagD base offset) (fun n => n = { d with
        scway := lo.extractLsb' 4 2, cs := lo.extractLsb' 6 2, ptag := hi.extractLsb' 0 4 ++ lo.extractLsb' 8 24 }) ∧
      storesS (.cacheIndexStoreTagS base offset) (fun n => n = { l with
        state := lo.extractLsb' 10 2, tag := hi.extractLsb' 0 4 ++ lo.extractLsb' 13 19 }) ∧
      storesD (.cacheIndexStoreDataD base offset) (fun n => put d.data n.data dw ∧ n = { d with data := n.data }) ∧
      storesS (.cacheIndexStoreDataS base offset) (fun n => put l.data n.data sw ∧ n = { l with data := n.data })

/-- 47_cp0.md R388, R395, R397: the invalidations clear the valid state of the lines they name, keep every other line, and
write nothing to memory. Index Invalidate (I) also is the second half of the sequence of 20_memory.md R138 in the model's own
record (log entry 17). -/
def Obligations.CacheInvalidations : Prop :=
  ∀ (s : State) (base : RegNum) (offset : BitVec 16) (pa : PhysAddr),
    s.CacheReaches base offset true pa → s.CanAdvance →
    let va := s.readGpr base + offset.signExtend 64
    let set := va.toNat / 32 % 512
    let tag := pa.extractLsb' 12 28
    (∃ b, exec (.cacheIndexInvalidateI base offset) s = .next (s.withBus b).after ∧
      (∀ k, b.iLine k = if k / 4 = set then { s.bus.iLine k with v := false } else s.bus.iLine k) ∧
      { b with icache := s.bus.icache, history := s.bus.history } = s.bus ∧
      ∀ n, b.historyOf n = if n % 128 = set % 128 then (s.bus.historyOf n).invalidatedI (1#4 <<< (set / 128))
        else s.bus.historyOf n) ∧
      (∃ b, exec (.cacheHitInvalidateD base offset) s = .next (s.withBus b).after ∧
        (∀ k, b.dLine k = if k / 4 = set ∧ (s.bus.dLine k).cs ≠ 0#2 ∧ (s.bus.dLine k).ptag = tag
          then { s.bus.dLine k with cs := 0#2 } else s.bus.dLine k) ∧
        { b with dcache := s.bus.dcache } = s.bus) ∧
      ∃ b, exec (.cacheHitInvalidateS base offset) s = .next (s.withBus b).after ∧ b.lookupS pa = .miss ∧
        (s.bus.lookupS pa = .miss → b = s.bus) ∧ (s.bus.lookupS pa ≠ .miss → b.dCopies pa = []) ∧
        (let inS (n : Nat) : Prop := n / 4 = pa.toNat / 32 % 4096 ∧ (s.bus.sLine n).state ≠ 0#2 ∧
           (s.bus.sLine n).tag = pa.extractLsb' 17 23
         let slot (n : Nat) : Prop := n < 2048 ∧ n / 4 % 128 = pa.toNat / 32 % 128
         let inD (n : Nat) : Prop := slot n ∧ (s.bus.dLine n).cs ≠ 0#2 ∧ (s.bus.dLine n).ptag = tag
         let inI (n : Nat) : Prop := slot n ∧ (s.bus.iLine n).v = true ∧ (s.bus.iLine n).ptag = tag
         ∀ n, (inS n → b.sLine n = { s.bus.sLine n with state := 0#2 }) ∧ (¬inS n → b.sLine n = s.bus.sLine n) ∧
           ((∃ j, inS j) → (inD n → b.dLine n = { s.bus.dLine n with cs := 0#2 }) ∧
             (inI n → b.iLine n = { s.bus.iLine n with v := false })) ∧
           ((¬∃ j, inS j) ∨ ¬inD n → b.dLine n = s.bus.dLine n) ∧
           ((¬∃ j, inS j) ∨ ¬inI n → b.iLine n = s.bus.iLine n)) ∧
        { b with icache := s.bus.icache, dcache := s.bus.dcache, scache := s.bus.scache } = s.bus

/-- 47_cp0.md R389, R390, R398, R399: the write-back operations, line by line. A clean primary line only becomes invalid; a
dirty one goes to its secondary line first. A secondary line becomes invalid with its primary copies; a dirty one, or one that
a dirty copy has just gone to, is written to memory byte for byte. Every other line and every other byte stays. A hit
operation that finds no line changes no line. In the model's own record (20_memory.md R127, R138; log entries 16 and 17) a hit
operation counts for the line at its address, found or not, an index operation for the lines of its index of which no copy is
left, in the data cache at the colours of their accesses. -/
def Obligations.CacheWritebacks : Prop :=
  ∀ (s : State) (base : RegNum) (offset : BitVec 16) (pa : PhysAddr),
    s.CacheReaches base offset true pa → s.CanAdvance →
    let va := s.readGpr base + offset.signExtend 64
    let bus := s.bus
    let ends (i : Instr) (b : Bus) : Prop := exec i s = .next (s.withBus b).after
    let onlyCaches (b : Bus) : Prop :=
      { b with icache := bus.icache, dcache := bus.dcache, scache := bus.scache, history := bus.history } = bus
    let counts (b : Bus) (p : Bus → Nat → Prop) : Prop :=
      ∀ n, (p b n → b.historyOf n = (bus.historyOf n).writtenBack) ∧ (¬p b n → b.historyOf n = bus.historyOf n)
    let atAddress (_ : Bus) (n : Nat) : Prop := n = pa.toNat / 32
    let atIndexD (b : Bus) (n : Nat) : Prop := n % 128 = va.toNat / 32 % 128 ∧
      ∀ k ∈ b.dCopies (BitVec.ofNat 40 (n * 32)), (bus.historyOf n).colours.getLsbD (k / 512) = false
    let atIndexS (b : Bus) (n : Nat) : Prop :=
      n % 4096 = pa.toNat / 32 % 4096 ∧ b.dataCached (BitVec.ofNat 40 (n * 32)) = false
    let flushesD (i : Instr) (k : Nat) (p : Bus → Nat → Prop) : Prop :=
      let d := bus.dLine k
      (d.cs ≠ 3#2 → ∃ b, ends i b ∧ { b with history := bus.history } = bus.setDLine k { d with cs := 0#2 } ∧ counts b p) ∧
        ∀ j, d.cs = 3#2 → bus.lookupS (primaryLineAddr d.ptag (k / 4)) = .hit j →
          ∃ b, ends i b ∧ b.dLine k = { d with cs := 0#2, w := (b.dLine k).w } ∧
            (∀ n, n ≠ k → b.dLine n = bus.dLine n) ∧
            b.sLine j = { bus.sLine j with state := 3#2, data := d.data } ∧
            (∀ n, n ≠ j → b.sLine n = bus.sLine n) ∧ (∀ n, b.iLine n = bus.iLine n) ∧ onlyCaches b ∧ counts b p
    let flushesS (i : Instr) (j : Nat) (p : Bus → Nat → Prop) : Prop :=
      let l := bus.sLine j
      let home := secondaryLineAddr l.tag (j / 4)
      let slot (n : Nat) : Prop := n < 2048 ∧ n / 4 % 128 = home.toNat / 32 % 128
      let inD (n : Nat) : Prop := slot n ∧ (bus.dLine n).cs ≠ 0#2 ∧ (bus.dLine n).ptag = home.extractLsb' 12 28
      let inI (n : Nat) : Prop := slot n ∧ (bus.iLine n).v = true ∧ (bus.iLine n).ptag = home.extractLsb' 12 28
      (l.state = 0#2 → ∃ b, ends i b ∧ { b with history := bus.history } = bus ∧ counts b p) ∧
        (l.state ≠ 0#2 → (∀ n, inD n → (bus.dLine n).cs ≠ 3#2) → l.state ≠ 3#2 ∨ bus.regionOf home.toNat = .ram →
          ∃ b, ends i b ∧ b.sLine j = { l with state := 0#2 } ∧ (∀ n, n ≠ j → b.sLine n = bus.sLine n) ∧
            (∀ n, (inD n → b.dLine n = { bus.dLine n with cs := 0#2 }) ∧ (¬inD n → b.dLine n = bus.dLine n) ∧
              (inI n → b.iLine n = { bus.iLine n with v := false }) ∧ (¬inI n → b.iLine n = bus.iLine n)) ∧
            (l.state ≠ 3#2 → b.mem = bus.mem) ∧ (l.state = 3#2 → Stored bus.mem b.mem home.toNat 32 l.data.toNat) ∧
            onlyCaches { b with mem := bus.mem } ∧ counts b p) ∧
        ∀ k, l.state ≠ 0#2 → inD k → (bus.dLine k).cs = 3#2 → (∀ n, inD n → n = k) → bus.lookupS home = .hit j →
          bus.regionOf home.toNat = .ram →
          ∃ b, ends i b ∧ b.sLine j = { l with state := 0#2, data := (bus.dLine k).data } ∧
            (∀ n, n ≠ j → b.sLine n = bus.sLine n) ∧ (b.dLine k).cs = 0#2 ∧ (∀ n, n ≠ k → b.dLine n = bus.dLine n) ∧
            (∀ n, (inI n → b.iLine n = { bus.iLine n with v := false }) ∧ (¬inI n → b.iLine n = bus.iLine n)) ∧
            Stored bus.mem b.mem home.toNat 32 (bus.dLine k).data.toNat ∧ onlyCaches { b with mem := bus.mem } ∧ counts b p
    let missed (i : Instr) : Prop := ∃ b, ends i b ∧ { b with history := bus.history } = bus ∧ counts b atAddress
    flushesD (.cacheIndexWritebackInvalidateD base offset) (va.toNat / 32 % 512 * 4 + va.toNat % 4) atIndexD ∧
      flushesS (.cacheIndexWritebackInvalidateS base offset) (pa.toNat / 32 % 4096 * 4 + pa.toNat % 4) atIndexS ∧
      (∀ n, bus.lookupD va pa = .hit n → flushesD (.cacheHitWritebackInvalidateD base offset) n atAddress) ∧
      (bus.lookupD va pa = .miss → missed (.cacheHitWritebackInvalidateD base offset)) ∧
      (∀ n, bus.lookupS pa = .hit n → flushesS (.cacheHitWritebackInvalidateS base offset) n atAddress) ∧
      (bus.lookupS pa = .miss → missed (.cacheHitWritebackInvalidateS base offset))

/-- 47_cp0.md R386, R387: with Diagnostic.U-Mode user mode may run the invalidate and write-back operations but not the tag and
data operations, and supervisor mode with CP0 closed none of them (R375; R386 opens them to user mode alone); a failing
translation raises the exception of a load; an uncached address is undefined. -/
def Obligations.CachePrivilege : Prop :=
  ∀ (s : State) (base : RegNum) (offset : BitVec 16),
    let va := s.readGpr base + offset.signExtend 64
    let open_ := [Instr.cacheIndexInvalidateI base offset, .cacheIndexWritebackInvalidateD base offset,
      .cacheIndexWritebackInvalidateS base offset, .cacheHitInvalidateD base offset, .cacheHitInvalidateS base offset,
      .cacheHitWritebackInvalidateD base offset, .cacheHitWritebackInvalidateS base offset]
    let closed := [Instr.cacheIndexLoadTagD base offset, .cacheIndexLoadTagS base offset,
      .cacheIndexStoreTagD base offset, .cacheIndexStoreTagS base offset, .cacheIndexLoadDataD base offset,
      .cacheIndexLoadDataS base offset, .cacheIndexStoreDataD base offset, .cacheIndexStoreDataS base offset]
    (s.PlainUser →
      (∀ i ∈ closed, exec i s = .next (enterException (.coprocessorUnusable 0#2) s)) ∧
        (s.cp0.diagnostic.getLsbD 8 = false →
          ∀ i ∈ open_, exec i s = .next (enterException (.coprocessorUnusable 0#2) s))) ∧
      (modeOf s.cp0.status = some .supervisor → s.cp0.status.getLsbD 28 = false →
        ∀ i ∈ open_ ++ closed, exec i s = .next (enterException (.coprocessorUnusable 0#2) s)) ∧
      (s.Cp0Usable ∨ (s.PlainUser ∧ s.cp0.diagnostic.getLsbD 8 = true) →
        ∀ i ∈ open_, (∀ e, s.translateData false va = .exc e → exec i s = .next (enterException e s)) ∧
          ∀ p c, s.translateData false va = .ok p c → c ≠ 3#3 → exec i s = .fault .cacheOnUncached) ∧
      (s.Cp0Usable →
        ∀ i ∈ closed, (∀ e, s.translateData false va = .exc e → exec i s = .next (enterException e s)) ∧
          ∀ p c, s.translateData false va = .ok p c → c ≠ 3#3 → exec i s = .fault .cacheOnUncached)

/-! Floating point. -/

/-- 48_fpu.md R411, R432, R446 to R451 and 49_fpu_ps_madd.md R496: the floating-point moves copy bits and leave FCSR; CTC1
writes FCSR and traps on an enabled cause. The registers (10_state.md R72, 48_fpu.md R411): a write is read back and changes
nothing else; with FR = 1 a 32-bit write says nothing of the upper half, which is undefined; with FR = 0 an even register is
the pair of its 32-bit registers, and writing one of these keeps every other. -/
def Obligations.FloatingMoves : Prop :=
  (∀ (s : State) (f g : RegNum) (v : Word) (w : BitVec 32),
    (s.writeFpr f v).readFpr g = (if g = f then v else s.readFpr g) ∧ { s.writeFpr f v with fpr := s.fpr } = s ∧
      (s.writeFpr32 f w).readFpr32 g = (if g = f then w else s.readFpr32 g) ∧
      { s.writeFpr32 f w with fpr := s.fpr } = s ∧
      (s.cp0.status.getLsbD 26 = true → s.readFpr32 f = (s.readFpr f).extractLsb' 0 32 ∧
        (g ≠ f → (s.writeFpr32 f w).readFpr g = s.readFpr g)) ∧
      (s.cp0.status.getLsbD 26 = false → f.toNat % 2 = 0 → g.toNat = f.toNat + 1 →
        s.readFpr f = s.readFpr32 g ++ s.readFpr32 f)) ∧
  ∀ (s : State) (rt fs fd : RegNum), s.Cp1Usable → s.CanAdvance →
    let f := (s.readGpr rt).setWidth 32 &&& 0x0383FFFF#32
    exec (.movS fs fd) s = .next (s.writeFpr32 fd (s.readFpr32 fs)).after ∧
      exec (.mfc1 rt fs) s = .next (s.writeGpr rt ((s.readFpr32 fs).signExtend 64)).after ∧
      exec (.mtc1 rt fs) s = .next (s.writeFpr32 fs ((s.readGpr rt).setWidth 32)).after ∧
      (fpr64Ok s.cp0.status fs = true →
        exec (.dmfc1 rt fs) s = .next (s.writeGpr rt (s.readFpr fs)).after ∧
          exec (.dmtc1 rt fs) s = .next (s.writeFpr fs (s.readGpr rt)).after ∧
          (fpr64Ok s.cp0.status fd = true →
            exec (.movD fs fd) s = .next (s.writeFpr fd (s.readFpr fs)).after ∧
              exec (.movPs fs fd) s = .next (s.writeFpr fd (s.readFpr fs)).after)) ∧
      exec (.cfc1 rt 0#5) s = .next (s.writeGpr rt 0x501#64).after ∧
      exec (.cfc1 rt 31#5) s = .next (s.writeGpr rt (s.fcsr.signExtend 64)).after ∧
      exec (.ctc1 rt 0#5) s = .next s.after ∧
      ((f.getLsbD 17 = false ∧ f.extractLsb' 12 5 &&& f.extractLsb' 7 5 = 0#5) →
        exec (.ctc1 rt 31#5) s = .next { s with fcsr := f }.after) ∧
      (¬(f.getLsbD 17 = false ∧ f.extractLsb' 12 5 &&& f.extractLsb' 7 5 = 0#5) →
        exec (.ctc1 rt 31#5) s = .next (enterException .floatingPoint { s with fcsr := f }))

/-- 48_fpu.md R414, R426 to R433: the single and double arithmetic reads its operands, and ends with its result and Causes or
with the floating-point exception. The special operands: denormals and quiet NaNs are E (R420), invalid
operations V with the default quiet NaN (R413, R416), a finite number over zero Z (R417); infinities and zeros otherwise give
exact results (R415 for the sign of a zero sum). The formats (R412, R413): what every word stands for as an operand, and the
bits of the default quiet NaN. -/
def Obligations.FloatingArithmetic : Prop :=
  (let reads (x : FpValue) (sign : Bool) (ex frac fracBits top : Nat) (bias : Int) : Prop :=
     (ex = top → frac = 0 → x = .infinity sign) ∧
       (ex = top → 2 ^ (fracBits - 1) ≤ frac → x = .signalingNan sign) ∧
       (ex = top → frac ≠ 0 → frac < 2 ^ (fracBits - 1) → x = .quietNan sign) ∧
       (ex = 0 → frac = 0 → x = .zero sign) ∧
       (ex = 0 → frac ≠ 0 → ∃ m e, x = .finite sign true m e ∧ (m : ℚ) * 2 ^ e = frac * 2 ^ (1 - bias - fracBits)) ∧
       (0 < ex → ex < top → ∃ m e, x = .finite sign false m e ∧
         (m : ℚ) * 2 ^ e = (2 ^ fracBits + frac) * 2 ^ (ex - bias - fracBits))
   ∀ w : Word,
     reads (fpUnpack .single w) (w.getLsbD 31) (w.extractLsb' 23 8).toNat (w.extractLsb' 0 23).toNat 23 255 127 ∧
       reads (fpUnpack .double w) (w.getLsbD 63) (w.extractLsb' 52 11).toNat (w.extractLsb' 0 52).toNat 52 2047 1023) ∧
  (fpDefaultNan .single = 0x7FBFFFFF#64 ∧ fpDefaultNan .double = 0x7FF7FFFFFFFFFFFF#64) ∧
  (∀ (s : State) (ft fs fd : RegNum), s.Cp1Usable → s.CanAdvance →
    let env := fpEnvOf s.fcsr
    let v := freeV s
    let a := fpUnpack .single ((s.readFpr32 fs).setWidth 64)
    let b := fpUnpack .single ((s.readFpr32 ft).setWidth 64)
    let c := fpUnpack .double (s.readFpr fs)
    let d := fpUnpack .double (s.readFpr ft)
    EndsSingle (.addS ft fs fd) s fd (fpAdd .single env v a b) ∧
      EndsSingle (.subS ft fs fd) s fd (fpSub .single env v a b) ∧
      EndsSingle (.mulS ft fs fd) s fd (fpMul .single env v a b) ∧
      EndsSingle (.absS fs fd) s fd (fpAbs .single v ((s.readFpr32 fs).setWidth 64)) ∧
      EndsSingle (.negS fs fd) s fd (fpNeg .single v ((s.readFpr32 fs).setWidth 64)) ∧
      (s.cp0.status.getLsbD 24 = false → EndsSingle (.divS ft fs fd) s fd (fpDiv .single env v a b)) ∧
      (s.cp0.status.getLsbD 23 = false → EndsSingle (.sqrtS fs fd) s fd (fpSqrt .single env v a)) ∧
      (fpr64Ok s.cp0.status fs = true → fpr64Ok s.cp0.status fd = true →
        EndsDouble (.absD fs fd) s fd (fpAbs .double v (s.readFpr fs)) ∧
          EndsDouble (.negD fs fd) s fd (fpNeg .double v (s.readFpr fs)) ∧
          (s.cp0.status.getLsbD 23 = false → EndsDouble (.sqrtD fs fd) s fd (fpSqrt .double env v c)) ∧
          (fpr64Ok s.cp0.status ft = true →
            EndsDouble (.addD ft fs fd) s fd (fpAdd .double env v c d) ∧
              EndsDouble (.subD ft fs fd) s fd (fpSub .double env v c d) ∧
              EndsDouble (.mulD ft fs fd) s fd (fpMul .double env v c d) ∧
              (s.cp0.status.getLsbD 24 = false → EndsDouble (.divD ft fs fd) s fd (fpDiv .double env v c d))))) ∧
  ∀ (f : FpFormat) (env : FpEnv) (v : Bool) (a b : FpValue) (bits : Word),
    let bad := a.Unimplemented ∨ b.Unimplemented
    let signals := a.Signals ∨ b.Signals
    let sign := a.sign != b.sign
    let down := decide (env.rm = .down)
    let unary (r : FpResult) (bit : Nat → Bool) : Prop :=
      r.Checked f (fpUnpack f bits).Unimplemented (fpUnpack f bits).Signals
        (r.causes = causeNone ∧ ∀ n < f.width, r.value.getLsbD n = bit n)
    (fpAdd f env v a b).Checked f bad (signals ∨ ∃ s, a = .infinity s ∧ b = .infinity (!s))
        ((∀ s, a = .infinity s ∨ b = .infinity s → (fpAdd f env v a b).Exactly f (.infinity s)) ∧
          ∀ s t, a = .zero s → b = .zero t → (fpAdd f env v a b).Exactly f (.zero (if s = t then s else down))) ∧
      (fpSub f env v a b).Checked f bad (signals ∨ ∃ s, a = .infinity s ∧ b = .infinity s)
        ((∀ s, a = .infinity s ∨ b = .infinity (!s) → (fpSub f env v a b).Exactly f (.infinity s)) ∧
          ∀ s t, a = .zero s → b = .zero t → (fpSub f env v a b).Exactly f (.zero (if s = !t then s else down))) ∧
      (fpMul f env v a b).Checked f bad
        (signals ∨ ∃ s t, (a = .infinity s ∧ b = .zero t) ∨ (a = .zero s ∧ b = .infinity t))
        (∀ s, (a = .infinity s ∨ b = .infinity s → (fpMul f env v a b).Exactly f (.infinity sign)) ∧
          (a = .zero s ∨ b = .zero s → (fpMul f env v a b).Exactly f (.zero sign))) ∧
      (fpDiv f env v a b).Checked f bad
        (signals ∨ ∃ s t, (a = .infinity s ∧ b = .infinity t) ∨ (a = .zero s ∧ b = .zero t))
        (∀ s, (a = .infinity s → (fpDiv f env v a b).Exactly f (.infinity sign)) ∧
          (b = .infinity s ∨ a = .zero s → (fpDiv f env v a b).Exactly f (.zero sign)) ∧
          ∀ t m e, a = .finite s false m e → b = .zero t →
            (fpDiv f env v a b).causes = causeZ ∧ fpUnpack f (fpDiv f env v a b).value = .infinity sign) ∧
      (fpSqrt f env v a).Checked f a.Unimplemented
        (a.Signals ∨ a = .infinity true ∨ ∃ d m e, a = .finite true d m e)
        ((a = .infinity false → (fpSqrt f env v a).Exactly f (.infinity false)) ∧
          ∀ s, a = .zero s → (fpSqrt f env v a).Exactly f (.zero s)) ∧
      unary (fpAbs f v bits) (fun n => decide (n ≠ f.width - 1) && bits.getLsbD n) ∧
      unary (fpNeg f v bits) (fun n => if n = f.width - 1 then !bits.getLsbD n else bits.getLsbD n)

/-- 49_fpu_ps_madd.md R491 to R497, R515 to R519: paired-single arithmetic does each half as a single operation and joins
the Causes; the multiply-add group takes fd as addend and destination. The special operands of the group (R515): an infinite
product is one with no NaN, and the N forms turn the sign of the result but not of the default NaN. -/
def Obligations.PairedAndMultiplyAdd : Prop :=
  (∀ (s : State) (ft fs fd : RegNum), s.Cp1Usable → s.CanAdvance →
    let env := fpEnvOf s.fcsr
    let v := freeV s
    let w := freeVUpper s
    let single (r : RegNum) := fpUnpack .single ((s.readFpr32 r).setWidth 64)
    let double (r : RegNum) := fpUnpack .double (s.readFpr r)
    let lo (r : RegNum) : Word := ((s.readFpr r).extractLsb' 0 32).setWidth 64
    let hi (r : RegNum) : Word := ((s.readFpr r).extractLsb' 32 32).setWidth 64
    let low (r : RegNum) := fpUnpack .single (lo r)
    let high (r : RegNum) := fpUnpack .single (hi r)
    let pair (u l : FpResult) : FpResult :=
      { causes := u.causes ||| l.causes, value := u.value.extractLsb' 0 32 ++ l.value.extractLsb' 0 32 }
    let ok (r : RegNum) : Prop := fpr64Ok s.cp0.status r = true
    (∀ p ∈ [(Instr.maddS ft fs fd, MaddKind.madd), (.msubS ft fs fd, .msub), (.nmaddS ft fs fd, .nmadd),
        (.nmsubS ft fs fd, .nmsub)],
      EndsSingle p.1 s fd (fpMadd .single env v p.2 (single fd) (single fs) (single ft))) ∧
      (ok fs → ok fd →
        EndsDouble (.absPs fs fd) s fd (pair (fpAbs .single w (hi fs)) (fpAbs .single v (lo fs))) ∧
          EndsDouble (.negPs fs fd) s fd (pair (fpNeg .single w (hi fs)) (fpNeg .single v (lo fs))) ∧
          (ok ft →
            EndsDouble (.addPs ft fs fd) s fd
                (pair (fpAdd .single env w (high fs) (high ft)) (fpAdd .single env v (low fs) (low ft))) ∧
              EndsDouble (.subPs ft fs fd) s fd
                (pair (fpSub .single env w (high fs) (high ft)) (fpSub .single env v (low fs) (low ft))) ∧
              EndsDouble (.mulPs ft fs fd) s fd
                (pair (fpMul .single env w (high fs) (high ft)) (fpMul .single env v (low fs) (low ft))) ∧
              (∀ p ∈ [(Instr.maddD ft fs fd, MaddKind.madd), (.msubD ft fs fd, .msub), (.nmaddD ft fs fd, .nmadd),
                  (.nmsubD ft fs fd, .nmsub)],
                EndsDouble p.1 s fd (fpMadd .double env v p.2 (double fd) (double fs) (double ft))) ∧
              ∀ p ∈ [(Instr.maddPs ft fs fd, MaddKind.madd), (.msubPs ft fs fd, .msub), (.nmaddPs ft fs fd, .nmadd),
                  (.nmsubPs ft fs fd, .nmsub)],
                EndsDouble p.1 s fd (pair (fpMadd .single env w p.2 (high fd) (high fs) (high ft))
                  (fpMadd .single env v p.2 (low fd) (low fs) (low ft)))))) ∧
  ∀ (f : FpFormat) (env : FpEnv) (v : Bool) (fd fs ft : FpValue),
    ∀ p ∈ [(MaddKind.madd, false, false), (.msub, true, false), (.nmadd, false, true), (.nmsub, true, true)],
      let r := fpMadd f env v p.1 fd fs ft
      let sign := fs.sign != ft.sign
      let turn (s : Bool) : Bool := s != p.2.2
      let addend (s : Bool) : Bool := s != p.2.1
      let infinite : Prop := (∃ s, fs = .infinity s ∨ ft = .infinity s) ∧ fs.isNan = false ∧ ft.isNan = false
      r.Checked f (fd.Unimplemented ∨ fs.Unimplemented ∨ ft.Unimplemented)
        (fd.Signals ∨ fs.Signals ∨ ft.Signals ∨
          (∃ s t, (fs = .infinity s ∧ ft = .zero t) ∨ (fs = .zero s ∧ ft = .infinity t)) ∨
          (infinite ∧ ∃ s, fd = .infinity s ∧ addend s ≠ sign))
        ((infinite → r.Exactly f (.infinity (turn sign))) ∧
          (∀ s, fd = .infinity s → r.Exactly f (.infinity (turn (addend s)))) ∧
          ∀ s t, fs = .zero s ∨ ft = .zero s → fd = .zero t →
            r.Exactly f (.zero (turn (if sign = addend t then sign else decide (env.rm = .down)))))

/-- 48_fpu.md R434 to R445: the conversions, each with its direction; CVT.W and CVT.L round by FCSR.RM. What they compute: a
normal operand rounded to an integer in the direction, V with the limit of its sign where that does not fit, for an infinity
and for a signaling NaN (R423); a number rounded to the other format; E for a denormal or a quiet NaN (R420). -/
def Obligations.FloatingConversions : Prop :=
  (∀ (s : State) (fs fd : RegNum), s.Cp1Usable → s.CanAdvance →
    let env := fpEnvOf s.fcsr
    let v := freeV s
    let a := fpUnpack .single ((s.readFpr32 fs).setWidth 64)
    let c := fpUnpack .double (s.readFpr fs)
    (∀ p ∈ [(Instr.roundWS fs fd, RoundingMode.nearest), (.truncWS fs fd, .towardZero), (.ceilWS fs fd, .up),
        (.floorWS fs fd, .down), (.cvtWS fs fd, env.rm)], EndsSingle p.1 s fd (fpConvertToInt 32 p.2 v a)) ∧
      EndsSingle (.cvtSW fs fd) s fd (fpOfInt .single env (s.readFpr32 fs).toInt) ∧
      (fpr64Ok s.cp0.status fs = true →
        (∀ p ∈ [(Instr.roundWD fs fd, RoundingMode.nearest), (.truncWD fs fd, .towardZero), (.ceilWD fs fd, .up),
            (.floorWD fs fd, .down), (.cvtWD fs fd, env.rm)], EndsSingle p.1 s fd (fpConvertToInt 32 p.2 v c)) ∧
          EndsSingle (.cvtSD fs fd) s fd (fpConvert .single env v c) ∧
          EndsSingle (.cvtSL fs fd) s fd (fpOfInt .single env (s.readFpr fs).toInt)) ∧
      (fpr64Ok s.cp0.status fd = true →
        (∀ p ∈ [(Instr.roundLS fs fd, RoundingMode.nearest), (.truncLS fs fd, .towardZero), (.ceilLS fs fd, .up),
            (.floorLS fs fd, .down), (.cvtLS fs fd, env.rm)], EndsDouble p.1 s fd (fpConvertToInt 64 p.2 v a)) ∧
          EndsDouble (.cvtDS fs fd) s fd (fpConvert .double env v a) ∧
          EndsDouble (.cvtDW fs fd) s fd (fpOfInt .double env (s.readFpr32 fs).toInt) ∧
          (fpr64Ok s.cp0.status fs = true →
            (∀ p ∈ [(Instr.roundLD fs fd, RoundingMode.nearest), (.truncLD fs fd, .towardZero), (.ceilLD fs fd, .up),
                (.floorLD fs fd, .down), (.cvtLD fs fd, env.rm)], EndsDouble p.1 s fd (fpConvertToInt 64 p.2 v c)) ∧
              EndsDouble (.cvtDL fs fd) s fd (fpOfInt .double env (s.readFpr fs).toInt)))) ∧
  ∀ (f : FpFormat) (env : FpEnv) (rm : RoundingMode) (v : Bool) (a : FpValue) (n : Int),
    (∀ w : Nat, w = 32 ∨ w = 64 →
      let r := fpConvertToInt w rm v a
      let limit (s : Bool) : Word := BitVec.ofInt 64 (if s then -(2 ^ (w - 1)) else 2 ^ (w - 1) - 1)
      (a.Unimplemented → r.causes = causeE) ∧
        (∀ s, a = .signalingNan s ∨ a = .infinity s → r.causes = causeV ∧ r.value = limit s) ∧
        (∀ s, a = .zero s → r.causes = causeNone ∧ r.value = 0#64) ∧
        ∀ s m e, 0 < m → a = .finite s false m e → ∃ z : Int, RoundsToInt rm a.toRat z ∧
          (-(2 ^ (w - 1)) ≤ z ∧ z < 2 ^ (w - 1) →
            r.value = BitVec.ofInt 64 z ∧ r.causes = if (z : ℚ) = a.toRat then causeNone else causeI) ∧
          (¬(-(2 ^ (w - 1)) ≤ z ∧ z < 2 ^ (w - 1)) → r.causes = causeV ∧ r.value = limit s)) ∧
      (fpConvert f env v a).Checked f a.Unimplemented a.Signals
        (∀ s, (a = .infinity s → (fpConvert f env v a).Exactly f (.infinity s)) ∧
          (a = .zero s → (fpConvert f env v a).Exactly f (.zero s)) ∧
          ∀ m e, 0 < m → a = .finite s false m e → f.Delivers env s (m * 2 ^ e) (fpConvert f env v a)) ∧
      (fpOfInt f env 0).Exactly f (.zero false) ∧
      (n ≠ 0 → f.Delivers env (decide (n < 0)) |(n : ℝ)| (fpOfInt f env n))

/-- 48_fpu.md R452 to R468 and 49_fpu_ps_madd.md R498 to R514: each comparison sets its condition bits from the relation of
its operands, is invalid on a signaling NaN, and for conditions 8 to 15 on an unordered pair; paired-single compares each
half. The relation is that of the exact values, denormals included: -0 equals +0, the infinities lie beyond every number, a
NaN is unordered. The fields of FCSR (10_state.md R73 to R75): an operation's Causes are bits 17:12, E to I, the Enables 11:7,
Flags 6:2, CC0 bit 23 and CC1 bit 25, and writing one of them keeps every other bit. No hazard (R425): the next instruction
uses the condition; BC1T right after a comparison branches by it. -/
def Obligations.FloatingComparisons : Prop :=
  (∀ (f : BitVec 32) (c : FpCauses) (b : Bool), (∀ n < 32,
      (fcsrSetCauses f c).getLsbD n = (if 12 ≤ n ∧ n ≤ 17 then c.getLsbD (n - 12) else f.getLsbD n) ∧
        (fcsrAddFlags f c).getLsbD n = (if 2 ≤ n ∧ n ≤ 6 then f.getLsbD n || c.getLsbD (n - 2) else f.getLsbD n) ∧
        (fcsrSetCc0 f b).getLsbD n = (if n = 23 then b else f.getLsbD n) ∧
        (fcsrSetCc1 f b).getLsbD n = (if n = 25 then b else f.getLsbD n)) ∧
      (∀ n < 5, (fcsrEnables f).getLsbD n = f.getLsbD (7 + n))) ∧
  [causeE, causeV, causeZ, causeO, causeU, causeI].map (fcsrSetCauses 0#32) =
    [0x20000#32, 0x10000#32, 0x8000#32, 0x4000#32, 0x2000#32, 0x1000#32] ∧
  (∀ (s : State) (ft fs : RegNum), s.Cp1Usable → s.CanAdvance →
    let holds (k : Nat) (a b : FpValue) : Bool :=
      (k / 4 % 2 = 1 && fpRelation a b = .less) || (k / 2 % 2 = 1 && fpRelation a b = .equal) ||
        (k % 2 = 1 && fpRelation a b = .unordered)
    let invalid (k : Nat) (a b : FpValue) : Bool :=
      a.signaling || b.signaling || (8 ≤ k && fpRelation a b = .unordered)
    let single (r : RegNum) := fpUnpack .single ((s.readFpr32 r).setWidth 64)
    let double (r : RegNum) := fpUnpack .double (s.readFpr r)
    let low (r : RegNum) := fpUnpack .single (((s.readFpr r).extractLsb' 0 32).setWidth 64)
    let high (r : RegNum) := fpUnpack .single (((s.readFpr r).extractLsb' 32 32).setWidth 64)
    (∀ p ∈ [(Instr.cFS ft fs, 0), (.cUnS ft fs, 1), (.cEqS ft fs, 2), (.cUeqS ft fs, 3), (.cOltS ft fs, 4),
        (.cUltS ft fs, 5), (.cOleS ft fs, 6), (.cUleS ft fs, 7), (.cSfS ft fs, 8), (.cNgleS ft fs, 9),
        (.cSeqS ft fs, 10), (.cNglS ft fs, 11), (.cLtS ft fs, 12), (.cNgeS ft fs, 13), (.cLeS ft fs, 14),
        (.cNgtS ft fs, 15)],
      EndsCompare p.1 s (invalid p.2 (single fs) (single ft))
        (fun f => fcsrSetCc0 f (holds p.2 (single fs) (single ft)))) ∧
      (fpr64Ok s.cp0.status fs = true → fpr64Ok s.cp0.status ft = true →
        (∀ p ∈ [(Instr.cFD ft fs, 0), (.cUnD ft fs, 1), (.cEqD ft fs, 2), (.cUeqD ft fs, 3), (.cOltD ft fs, 4),
            (.cUltD ft fs, 5), (.cOleD ft fs, 6), (.cUleD ft fs, 7), (.cSfD ft fs, 8), (.cNgleD ft fs, 9),
            (.cSeqD ft fs, 10), (.cNglD ft fs, 11), (.cLtD ft fs, 12), (.cNgeD ft fs, 13), (.cLeD ft fs, 14),
            (.cNgtD ft fs, 15)],
          EndsCompare p.1 s (invalid p.2 (double fs) (double ft))
            (fun f => fcsrSetCc0 f (holds p.2 (double fs) (double ft)))) ∧
          ∀ p ∈ [(Instr.cFPs ft fs, 0), (.cUnPs ft fs, 1), (.cEqPs ft fs, 2), (.cUeqPs ft fs, 3), (.cOltPs ft fs, 4),
              (.cUltPs ft fs, 5), (.cOlePs ft fs, 6), (.cUlePs ft fs, 7), (.cSfPs ft fs, 8), (.cNglePs ft fs, 9),
              (.cSeqPs ft fs, 10), (.cNglPs ft fs, 11), (.cLtPs ft fs, 12), (.cNgePs ft fs, 13), (.cLePs ft fs, 14),
              (.cNgtPs ft fs, 15)],
            EndsCompare p.1 s (invalid p.2 (low fs) (low ft) || invalid p.2 (high fs) (high ft))
              (fun f => fcsrSetCc1 (fcsrSetCc0 f (holds p.2 (low fs) (low ft))) (holds p.2 (high fs) (high ft))))) ∧
  (∀ (s : State) (ft fs : RegNum) (imm : BitVec 16), s.Cp1Usable → s.CanAdvance →
    let r := fpRelation (fpUnpack .single ((s.readFpr32 fs).setWidth 64)) (fpUnpack .single ((s.readFpr32 ft).setWidth 64))
    r ≠ .unordered → ∃ t, exec (.cEqS ft fs) s = .next t ∧ (t.CanBranch → exec (.bc1t imm) t =
      .next (t.branchTo (if r = .equal then BitVec.ofInt 64 (t.pc.toInt + 4 + 4 * imm.toInt) else t.pc + 8#64)))) ∧
  ∀ a b : FpValue,
    let nan (x : FpValue) : Prop := (∃ s, x = .quietNan s) ∨ ∃ s, x = .signalingNan s
    let number (x : FpValue) : Prop := (∃ s, x = .zero s) ∨ ∃ s d m e, x = .finite s d m e
    (nan a ∨ nan b → fpRelation a b = .unordered) ∧
      (number a → number b → fpRelation a b =
        if a.toRat < b.toRat then .less else if a.toRat = b.toRat then .equal else .greater) ∧
      ∀ s, (number b → a = .infinity s → fpRelation a b = if s then .less else .greater) ∧
        (number a → b = .infinity s → fpRelation a b = if s then .greater else .less) ∧
        ∀ t, a = .infinity s → b = .infinity t →
          fpRelation a b = if s = t then .equal else if s then .less else .greater

/-- 48_fpu.md R415, R418, R419, R424: rounding an exact positive magnitude. A result that is neither overflowing nor tiny is
a normal number of the format; it is inexact exactly when it differs; its distance from the exact value is what the
direction allows, to the even one of two equally near. The sign is kept. In full, with the results that overflow or are
tiny: what a rounding delivers is `FpFormat.Delivers` (R415, R418, R419, R422, R424), and the direction and the flush
condition are those of FCSR. -/
def Obligations.RoundingDirections : Prop :=
  (∀ (f : FpFormat) (rm : RoundingMode) (flush sign : Bool) (m : Nat) (e : Int), 0 < m →
    let r := fpRound f { rm := rm, flush := flush } sign m e
    r.causes = causeNone ∨ r.causes = causeI →
      ∃ (q : Nat) (g : Int), fpUnpack f r.value = .finite sign false q g ∧
        2 ^ (f.precision - 1) ≤ q ∧ q < 2 ^ f.precision ∧
        (let x : ℚ := m * 2 ^ e
         let y : ℚ := q * 2 ^ g
         let ulp : ℚ := 2 ^ g
         (r.causes = causeI ↔ x ≠ y) ∧
           match rm with
           | .nearest => |y - x| ≤ ulp / 2 ∧ (|y - x| = ulp / 2 → q % 2 = 0)
           | .towardZero => y ≤ x ∧ x < y + ulp
           | .up => if sign then y ≤ x ∧ x < y + ulp else x ≤ y ∧ y < x + ulp
           | .down => if sign then x ≤ y ∧ y < x + ulp else y ≤ x ∧ x < y + ulp)) ∧
  (∀ (f : FpFormat) (env : FpEnv) (sign : Bool) (m : Nat) (e : Int), 0 < m →
    f.Delivers env sign (m * 2 ^ e) (fpRound f env sign m e)) ∧
  ∀ (fcsr : BitVec 32) (rm : RoundingMode),
    ((fpEnvOf fcsr).rm = rm ↔ fcsr.extractLsb' 0 2 = (match rm with
        | .nearest => 0#2 | .towardZero => 1#2 | .up => 2#2 | .down => 3#2)) ∧
      ((fpEnvOf fcsr).flush = true ↔
        fcsr.getLsbD 24 = true ∧ fcsr.getLsbD 8 = false ∧ fcsr.getLsbD 7 = false)

/-- 48_fpu.md R414 step 3, R426 to R428: sums, differences and products of normal operands are computed exactly and rounded
once: any way to write the exact result gives the same rounding. Quotients, square roots and conversions are rounded from
the exact real value; the multiply-add group rounds the exact sum of the exact product once, and the N forms turn the sign
after the rounding (R429, R430, R442, 49_fpu_ps_madd.md R515 to R519). An exact zero sum is + but in RM (R415). Zeros are
operands here too. -/
def Obligations.ExactThenRounded : Prop :=
  (∀ (f : FpFormat) (env : FpEnv) (v s1 s2 : Bool) (m1 m2 n : Nat) (e1 e2 d : Int), 0 < m1 → 0 < m2 → 0 < n →
    let a := FpValue.finite s1 false m1 e1
    let b := FpValue.finite s2 false m2 e2
    let isMag (x : ℚ) : Prop := |x| = n * 2 ^ d
    (isMag (a.toRat + b.toRat) → fpAdd f env v a b = fpRound f env (decide (a.toRat + b.toRat < 0)) n d) ∧
      (isMag (a.toRat - b.toRat) → fpSub f env v a b = fpRound f env (decide (a.toRat - b.toRat < 0)) n d) ∧
      (isMag (a.toRat * b.toRat) → fpMul f env v a b = fpRound f env (decide (a.toRat * b.toRat < 0)) n d)) ∧
  ∀ (f : FpFormat) (env : FpEnv) (v : Bool) (a b c : FpValue), a.Plain → b.Plain → c.Plain →
    let x := a.toRat
    let y := b.toRat
    let zero : FpValue := .zero (decide (env.rm = .down))
    let rounds (r : FpResult) (t : ℚ) : Prop :=
      ∀ (n : Nat) (d : Int), 0 < n → |t| = n * 2 ^ d → r = fpRound f env (decide (t < 0)) n d
    rounds (fpAdd f env v a b) (x + y) ∧ rounds (fpSub f env v a b) (x - y) ∧ rounds (fpMul f env v a b) (x * y) ∧
      (x ≠ 0 → x + y = 0 → (fpAdd f env v a b).Exactly f zero) ∧
      (x ≠ 0 → x - y = 0 → (fpSub f env v a b).Exactly f zero) ∧
      (x ≠ 0 → y ≠ 0 → f.Delivers env (decide (x / y < 0)) |((x / y : ℚ) : ℝ)| (fpDiv f env v a b)) ∧
      (0 < x → f.Delivers env false (Real.sqrt (x : ℝ)) (fpSqrt f env v a)) ∧
      (x ≠ 0 → f.Delivers env (decide (x < 0)) |(x : ℝ)| (fpConvert f env v a)) ∧
      ∀ p ∈ [(MaddKind.madd, false, false), (.msub, true, false), (.nmadd, false, true), (.nmsub, true, true)],
        let r := fpMadd f env v p.1 c a b
        let t := x * y + (if p.2.1 then -c.toRat else c.toRat)
        let turned (r : FpResult) : FpResult :=
          if p.2.2 then { r with value := r.value ^^^ BitVec.ofNat 64 (2 ^ (f.width - 1)) } else r
        (∀ (n : Nat) (d : Int), 0 < n → |t| = n * 2 ^ d → r = turned (fpRound f env (decide (t < 0)) n d)) ∧
          (x * y ≠ 0 → t = 0 → r.Exactly f (.zero (decide (env.rm = .down) != p.2.2)))

/-! The whole machine. -/

/-- 20_memory.md R118 and 44_jump_branch.md R306: when a boundary runs an instruction and the fetched word decodes, the step is
that instruction; in particular for an uncached kernel fetch from memory or the boot ROM with no event due, of a line with no
cached store that the sequence of R138 has not followed. -/
def Obligations.StepRunsDecoded : Prop :=
  ∀ (s u t : State) (w : BitVec 32) (i : Instr),
    (s.tick.boundary = .run u → u.fetch = .word w t → decode w = .ok i → step s = exec i t) ∧
      (∀ pa : PhysAddr, s.coldResetRequest = false → s.nmiRequest = false → s.softResetRequest = false →
        s.cp0.status.getLsbD 0 = false → modeOf s.cp0.status = some .kernel →
        s.pc = 0xFFFFFFFFA0000000#64 + pa.setWidth 64 → pa.toNat < 2 ^ 29 → s.pc.toNat % 4 = 0 →
        s.bus.regionOf pa.toNat = .ram ∨ s.bus.regionOf pa.toNat = .rom → s.bus.uca = none →
        s.bus.dirtyCopy pa = none → s.bus.oldLinesUncached pa = [] →
        w.toNat = bytesAt s.bus.mem pa.toNat 4 → decode w = .ok i →
          step s = exec i { s.tick with irqWait := none })

/-- Every step keeps the invariant: memory, caches and access records in canonical form (the model's, log entry 2), the
reserved fields of the CP0 registers but TagLo and TagHi zero (10_state.md R26 to R56), Random between Wired and 63 (R27),
the reserved bits of FCSR zero (R73). -/
def Obligations.StepKeepsInvariant : Prop :=
  ∀ (s t : State), s.Inv → step s = .next t → t.Inv

/-- The state after reset satisfies the invariant. -/
def Obligations.ResetInvariant : Prop := State.reset.Inv

/-- 30_encoding.md R160 to R177: decoding the word of an instruction gives the instruction back, with every operand. -/
def Obligations.DecodeOfEncode : Prop :=
  ∀ (i : Instr), WellFormed i = true → decode (encode i) = .ok i ∧ decodeBytes (bytesOfWord (encode i)) = .ok (i, [])

/-- 30_encoding.md R177, R179: a word that decodes is the word of its instruction, so no two words are one instruction and no
bit of a word is dropped. -/
def Obligations.EncodeOfDecode : Prop :=
  ∀ (w : BitVec 32) (i : Instr), decode w = .ok i → encode i = w

/-- 30_encoding.md R160 to R174: a few words written out from the encodings decode to their instructions. -/
def Obligations.WrittenWords : Prop :=
  decode 0x8C620000#32 = .ok (.lw 3#5 2#5 0#16) ∧ decode 0x24220001#32 = .ok (.addiu 1#5 2#5 1#16) ∧
    decode 0x00011843#32 = .ok (.sra 1#5 3#5 1#5) ∧ decode 0x40025000#32 = .ok (.mfc0 2#5 10#5) ∧
    decode 0x42000002#32 = .ok .tlbwi ∧ decode 0x44C2F800#32 = .ok (.ctc1 2#5 31#5) ∧
    decode 0x0000000C#32 = .ok (.syscall 0#20) ∧ decode 0xBC610000#32 = .ok (.cacheIndexWritebackInvalidateD 3#5 0#16)

/-- 61_platform_devices.md R640 to R642: the six inputs of the core; a word written to Intenset enables exactly its sources, a
word written to Intenclr disables exactly its sources and drops their pulses. The model's choices: that bits 14:11 of Intenclr
drop the pulses of the INTn pins (log entry 13), and that a window register reads back what was stored, which R602 does not
say and R603 makes a storage decision (log entries 11 and 46). -/
def Obligations.DeviceRegisters : Prop :=
  ∀ (b : Bus) (q : Nat) (v : Word) (k : Nat), k < 48 →
    (∃ b1, b.physWrite 0x1FE00130 4 v = .ok () b1 ∧ b1.mem = b.mem ∧ b1.pulses = b.pulses ∧
      b1.physRead q 0x1FE00138 4 =
        .ok (((b.ioWord 0x38).setWidth 64) ||| (v &&& 0x7FF#64)) b1) ∧
      (∃ b1, b.physWrite 0x1FE00134 4 v = .ok () b1 ∧ b1.mem = b.mem ∧
        b1.pulses = b.pulses &&& ~~~(v.setWidth 15) ∧
        b1.physRead q 0x1FE00138 4 = .ok (((b.ioWord 0x38).setWidth 64) &&& ~~~v) b1) ∧
      (∃ b1, b.physWrite (0x3FF00000 + 8 * k) 8 v = .ok () b1 ∧ b1.mem = b.mem ∧
        b1.physRead q (0x3FF00000 + 8 * k) 8 = .ok v b1) ∧
      (∀ n < 4, b.extLines.getLsbD (2 + n) = (b.lines.getLsbD (11 + n) == (b.ioWord 0x2C).getLsbD (11 + n))) ∧
      ∀ line : Bool, b.extLines.getLsbD (if line then 1 else 0) = true ↔
        ∃ n < 11, (b.ioWord 0x38).getLsbD n = true ∧ (b.ioWord b.intsteerOffset).getLsbD n = line ∧
          b.activeSources.getLsbD n = true
end

