-- ==== Sys2Proof/Laws/State.lean ====
section
/-! SUPPORT. One lemma for each field and each named update of the state, tagged simp: what an update leaves alone and
what it sets. Later proofs never unfold an update. -/

namespace Sys2Proof.Machine

/-! `State.writeGpr`. -/

@[simp] theorem State.writeGpr_hi (s : State) (r : RegNum) (v : Word) : (s.writeGpr r v).hi = s.hi := by
  unfold State.writeGpr; split <;> rfl
@[simp] theorem State.writeGpr_lo (s : State) (r : RegNum) (v : Word) : (s.writeGpr r v).lo = s.lo := by
  unfold State.writeGpr; split <;> rfl
@[simp] theorem State.writeGpr_pc (s : State) (r : RegNum) (v : Word) : (s.writeGpr r v).pc = s.pc := by
  unfold State.writeGpr; split <;> rfl
@[simp] theorem State.writeGpr_delay (s : State) (r : RegNum) (v : Word) : (s.writeGpr r v).delay = s.delay := by
  unfold State.writeGpr; split <;> rfl
@[simp] theorem State.writeGpr_llbit (s : State) (r : RegNum) (v : Word) : (s.writeGpr r v).llbit = s.llbit := by
  unfold State.writeGpr; split <;> rfl
@[simp] theorem State.writeGpr_cp0 (s : State) (r : RegNum) (v : Word) : (s.writeGpr r v).cp0 = s.cp0 := by
  unfold State.writeGpr; split <;> rfl
@[simp] theorem State.writeGpr_fpr (s : State) (r : RegNum) (v : Word) : (s.writeGpr r v).fpr = s.fpr := by
  unfold State.writeGpr; split <;> rfl
@[simp] theorem State.writeGpr_fcsr (s : State) (r : RegNum) (v : Word) : (s.writeGpr r v).fcsr = s.fcsr := by
  unfold State.writeGpr; split <;> rfl
@[simp] theorem State.writeGpr_tlb (s : State) (r : RegNum) (v : Word) : (s.writeGpr r v).tlb = s.tlb := by
  unfold State.writeGpr; split <;> rfl
@[simp] theorem State.writeGpr_itlb (s : State) (r : RegNum) (v : Word) : (s.writeGpr r v).itlb = s.itlb := by
  unfold State.writeGpr; split <;> rfl
@[simp] theorem State.writeGpr_bus (s : State) (r : RegNum) (v : Word) : (s.writeGpr r v).bus = s.bus := by
  unfold State.writeGpr; split <;> rfl
@[simp] theorem State.writeGpr_coldResetRequest (s : State) (r : RegNum) (v : Word) : (s.writeGpr r v).coldResetRequest = s.coldResetRequest := by
  unfold State.writeGpr; split <;> rfl
@[simp] theorem State.writeGpr_nmiRequest (s : State) (r : RegNum) (v : Word) : (s.writeGpr r v).nmiRequest = s.nmiRequest := by
  unfold State.writeGpr; split <;> rfl
@[simp] theorem State.writeGpr_softResetRequest (s : State) (r : RegNum) (v : Word) : (s.writeGpr r v).softResetRequest = s.softResetRequest := by
  unfold State.writeGpr; split <;> rfl
@[simp] theorem State.writeGpr_irqWait (s : State) (r : RegNum) (v : Word) : (s.writeGpr r v).irqWait = s.irqWait := by
  unfold State.writeGpr; split <;> rfl
@[simp] theorem State.writeGpr_seq (s : State) (r : RegNum) (v : Word) : (s.writeGpr r v).seq = s.seq := by
  unfold State.writeGpr; split <;> rfl

/-! `State.writeFpr`. -/

@[simp] theorem State.writeFpr_gpr (s : State) (f : RegNum) (v : Word) : (s.writeFpr f v).gpr = s.gpr := rfl
@[simp] theorem State.writeFpr_hi (s : State) (f : RegNum) (v : Word) : (s.writeFpr f v).hi = s.hi := rfl
@[simp] theorem State.writeFpr_lo (s : State) (f : RegNum) (v : Word) : (s.writeFpr f v).lo = s.lo := rfl
@[simp] theorem State.writeFpr_pc (s : State) (f : RegNum) (v : Word) : (s.writeFpr f v).pc = s.pc := rfl
@[simp] theorem State.writeFpr_delay (s : State) (f : RegNum) (v : Word) : (s.writeFpr f v).delay = s.delay := rfl
@[simp] theorem State.writeFpr_llbit (s : State) (f : RegNum) (v : Word) : (s.writeFpr f v).llbit = s.llbit := rfl
@[simp] theorem State.writeFpr_cp0 (s : State) (f : RegNum) (v : Word) : (s.writeFpr f v).cp0 = s.cp0 := rfl
@[simp] theorem State.writeFpr_fpr (s : State) (f : RegNum) (v : Word) : (s.writeFpr f v).fpr = s.fpr.set f.toNat v f.isLt := rfl
@[simp] theorem State.writeFpr_fcsr (s : State) (f : RegNum) (v : Word) : (s.writeFpr f v).fcsr = s.fcsr := rfl
@[simp] theorem State.writeFpr_tlb (s : State) (f : RegNum) (v : Word) : (s.writeFpr f v).tlb = s.tlb := rfl
@[simp] theorem State.writeFpr_itlb (s : State) (f : RegNum) (v : Word) : (s.writeFpr f v).itlb = s.itlb := rfl
@[simp] theorem State.writeFpr_bus (s : State) (f : RegNum) (v : Word) : (s.writeFpr f v).bus = s.bus := rfl
@[simp] theorem State.writeFpr_coldResetRequest (s : State) (f : RegNum) (v : Word) : (s.writeFpr f v).coldResetRequest = s.coldResetRequest := rfl
@[simp] theorem State.writeFpr_nmiRequest (s : State) (f : RegNum) (v : Word) : (s.writeFpr f v).nmiRequest = s.nmiRequest := rfl
@[simp] theorem State.writeFpr_softResetRequest (s : State) (f : RegNum) (v : Word) : (s.writeFpr f v).softResetRequest = s.softResetRequest := rfl
@[simp] theorem State.writeFpr_irqWait (s : State) (f : RegNum) (v : Word) : (s.writeFpr f v).irqWait = s.irqWait := rfl
@[simp] theorem State.writeFpr_seq (s : State) (f : RegNum) (v : Word) : (s.writeFpr f v).seq = s.seq := rfl

/-! `State.writeFpr32`. -/

@[simp] theorem State.writeFpr32_gpr (s : State) (f : RegNum) (v : BitVec 32) : (s.writeFpr32 f v).gpr = s.gpr := by
  unfold State.writeFpr32; (repeat' split) <;> rfl
@[simp] theorem State.writeFpr32_hi (s : State) (f : RegNum) (v : BitVec 32) : (s.writeFpr32 f v).hi = s.hi := by
  unfold State.writeFpr32; (repeat' split) <;> rfl
@[simp] theorem State.writeFpr32_lo (s : State) (f : RegNum) (v : BitVec 32) : (s.writeFpr32 f v).lo = s.lo := by
  unfold State.writeFpr32; (repeat' split) <;> rfl
@[simp] theorem State.writeFpr32_pc (s : State) (f : RegNum) (v : BitVec 32) : (s.writeFpr32 f v).pc = s.pc := by
  unfold State.writeFpr32; (repeat' split) <;> rfl
@[simp] theorem State.writeFpr32_delay (s : State) (f : RegNum) (v : BitVec 32) : (s.writeFpr32 f v).delay = s.delay := by
  unfold State.writeFpr32; (repeat' split) <;> rfl
@[simp] theorem State.writeFpr32_llbit (s : State) (f : RegNum) (v : BitVec 32) : (s.writeFpr32 f v).llbit = s.llbit := by
  unfold State.writeFpr32; (repeat' split) <;> rfl
@[simp] theorem State.writeFpr32_cp0 (s : State) (f : RegNum) (v : BitVec 32) : (s.writeFpr32 f v).cp0 = s.cp0 := by
  unfold State.writeFpr32; (repeat' split) <;> rfl
@[simp] theorem State.writeFpr32_fcsr (s : State) (f : RegNum) (v : BitVec 32) : (s.writeFpr32 f v).fcsr = s.fcsr := by
  unfold State.writeFpr32; (repeat' split) <;> rfl
@[simp] theorem State.writeFpr32_tlb (s : State) (f : RegNum) (v : BitVec 32) : (s.writeFpr32 f v).tlb = s.tlb := by
  unfold State.writeFpr32; (repeat' split) <;> rfl
@[simp] theorem State.writeFpr32_itlb (s : State) (f : RegNum) (v : BitVec 32) : (s.writeFpr32 f v).itlb = s.itlb := by
  unfold State.writeFpr32; (repeat' split) <;> rfl
@[simp] theorem State.writeFpr32_bus (s : State) (f : RegNum) (v : BitVec 32) : (s.writeFpr32 f v).bus = s.bus := by
  unfold State.writeFpr32; (repeat' split) <;> rfl
@[simp] theorem State.writeFpr32_coldResetRequest (s : State) (f : RegNum) (v : BitVec 32) : (s.writeFpr32 f v).coldResetRequest = s.coldResetRequest := by
  unfold State.writeFpr32; (repeat' split) <;> rfl
@[simp] theorem State.writeFpr32_nmiRequest (s : State) (f : RegNum) (v : BitVec 32) : (s.writeFpr32 f v).nmiRequest = s.nmiRequest := by
  unfold State.writeFpr32; (repeat' split) <;> rfl
@[simp] theorem State.writeFpr32_softResetRequest (s : State) (f : RegNum) (v : BitVec 32) : (s.writeFpr32 f v).softResetRequest = s.softResetRequest := by
  unfold State.writeFpr32; (repeat' split) <;> rfl
@[simp] theorem State.writeFpr32_irqWait (s : State) (f : RegNum) (v : BitVec 32) : (s.writeFpr32 f v).irqWait = s.irqWait := by
  unfold State.writeFpr32; (repeat' split) <;> rfl
@[simp] theorem State.writeFpr32_seq (s : State) (f : RegNum) (v : BitVec 32) : (s.writeFpr32 f v).seq = s.seq := by
  unfold State.writeFpr32; (repeat' split) <;> rfl

/-! `State.link`. -/

@[simp] theorem State.link_hi (s : State) : (s.link).hi = s.hi := by
  simp [State.link]
@[simp] theorem State.link_lo (s : State) : (s.link).lo = s.lo := by
  simp [State.link]
@[simp] theorem State.link_pc (s : State) : (s.link).pc = s.pc := by
  simp [State.link]
@[simp] theorem State.link_delay (s : State) : (s.link).delay = s.delay := by
  simp [State.link]
@[simp] theorem State.link_llbit (s : State) : (s.link).llbit = s.llbit := by
  simp [State.link]
@[simp] theorem State.link_cp0 (s : State) : (s.link).cp0 = s.cp0 := by
  simp [State.link]
@[simp] theorem State.link_fpr (s : State) : (s.link).fpr = s.fpr := by
  simp [State.link]
@[simp] theorem State.link_fcsr (s : State) : (s.link).fcsr = s.fcsr := by
  simp [State.link]
@[simp] theorem State.link_tlb (s : State) : (s.link).tlb = s.tlb := by
  simp [State.link]
@[simp] theorem State.link_itlb (s : State) : (s.link).itlb = s.itlb := by
  simp [State.link]
@[simp] theorem State.link_bus (s : State) : (s.link).bus = s.bus := by
  simp [State.link]
@[simp] theorem State.link_coldResetRequest (s : State) : (s.link).coldResetRequest = s.coldResetRequest := by
  simp [State.link]
@[simp] theorem State.link_nmiRequest (s : State) : (s.link).nmiRequest = s.nmiRequest := by
  simp [State.link]
@[simp] theorem State.link_softResetRequest (s : State) : (s.link).softResetRequest = s.softResetRequest := by
  simp [State.link]
@[simp] theorem State.link_irqWait (s : State) : (s.link).irqWait = s.irqWait := by
  simp [State.link]
@[simp] theorem State.link_seq (s : State) : (s.link).seq = s.seq := by
  simp [State.link]

/-! `State.setHiLo`. -/

@[simp] theorem State.setHiLo_gpr (s : State) (h : Word) (l : Word) : (s.setHiLo h l).gpr = s.gpr := rfl
@[simp] theorem State.setHiLo_hi (s : State) (h : Word) (l : Word) : (s.setHiLo h l).hi = h := rfl
@[simp] theorem State.setHiLo_lo (s : State) (h : Word) (l : Word) : (s.setHiLo h l).lo = l := rfl
@[simp] theorem State.setHiLo_pc (s : State) (h : Word) (l : Word) : (s.setHiLo h l).pc = s.pc := rfl
@[simp] theorem State.setHiLo_delay (s : State) (h : Word) (l : Word) : (s.setHiLo h l).delay = s.delay := rfl
@[simp] theorem State.setHiLo_llbit (s : State) (h : Word) (l : Word) : (s.setHiLo h l).llbit = s.llbit := rfl
@[simp] theorem State.setHiLo_cp0 (s : State) (h : Word) (l : Word) : (s.setHiLo h l).cp0 = s.cp0 := rfl
@[simp] theorem State.setHiLo_fpr (s : State) (h : Word) (l : Word) : (s.setHiLo h l).fpr = s.fpr := rfl
@[simp] theorem State.setHiLo_fcsr (s : State) (h : Word) (l : Word) : (s.setHiLo h l).fcsr = s.fcsr := rfl
@[simp] theorem State.setHiLo_tlb (s : State) (h : Word) (l : Word) : (s.setHiLo h l).tlb = s.tlb := rfl
@[simp] theorem State.setHiLo_itlb (s : State) (h : Word) (l : Word) : (s.setHiLo h l).itlb = s.itlb := rfl
@[simp] theorem State.setHiLo_bus (s : State) (h : Word) (l : Word) : (s.setHiLo h l).bus = s.bus := rfl
@[simp] theorem State.setHiLo_coldResetRequest (s : State) (h : Word) (l : Word) : (s.setHiLo h l).coldResetRequest = s.coldResetRequest := rfl
@[simp] theorem State.setHiLo_nmiRequest (s : State) (h : Word) (l : Word) : (s.setHiLo h l).nmiRequest = s.nmiRequest := rfl
@[simp] theorem State.setHiLo_softResetRequest (s : State) (h : Word) (l : Word) : (s.setHiLo h l).softResetRequest = s.softResetRequest := rfl
@[simp] theorem State.setHiLo_irqWait (s : State) (h : Word) (l : Word) : (s.setHiLo h l).irqWait = s.irqWait := rfl
@[simp] theorem State.setHiLo_seq (s : State) (h : Word) (l : Word) : (s.setHiLo h l).seq = s.seq := rfl

/-! `State.setHiLo32`. -/

@[simp] theorem State.setHiLo32_gpr (s : State) (p : Word) : (s.setHiLo32 p).gpr = s.gpr := rfl
@[simp] theorem State.setHiLo32_hi (s : State) (p : Word) : (s.setHiLo32 p).hi = sext32 (p.extractLsb' 32 32) := rfl
@[simp] theorem State.setHiLo32_lo (s : State) (p : Word) : (s.setHiLo32 p).lo = sext32 (low32 p) := rfl
@[simp] theorem State.setHiLo32_pc (s : State) (p : Word) : (s.setHiLo32 p).pc = s.pc := rfl
@[simp] theorem State.setHiLo32_delay (s : State) (p : Word) : (s.setHiLo32 p).delay = s.delay := rfl
@[simp] theorem State.setHiLo32_llbit (s : State) (p : Word) : (s.setHiLo32 p).llbit = s.llbit := rfl
@[simp] theorem State.setHiLo32_cp0 (s : State) (p : Word) : (s.setHiLo32 p).cp0 = s.cp0 := rfl
@[simp] theorem State.setHiLo32_fpr (s : State) (p : Word) : (s.setHiLo32 p).fpr = s.fpr := rfl
@[simp] theorem State.setHiLo32_fcsr (s : State) (p : Word) : (s.setHiLo32 p).fcsr = s.fcsr := rfl
@[simp] theorem State.setHiLo32_tlb (s : State) (p : Word) : (s.setHiLo32 p).tlb = s.tlb := rfl
@[simp] theorem State.setHiLo32_itlb (s : State) (p : Word) : (s.setHiLo32 p).itlb = s.itlb := rfl
@[simp] theorem State.setHiLo32_bus (s : State) (p : Word) : (s.setHiLo32 p).bus = s.bus := rfl
@[simp] theorem State.setHiLo32_coldResetRequest (s : State) (p : Word) : (s.setHiLo32 p).coldResetRequest = s.coldResetRequest := rfl
@[simp] theorem State.setHiLo32_nmiRequest (s : State) (p : Word) : (s.setHiLo32 p).nmiRequest = s.nmiRequest := rfl
@[simp] theorem State.setHiLo32_softResetRequest (s : State) (p : Word) : (s.setHiLo32 p).softResetRequest = s.softResetRequest := rfl
@[simp] theorem State.setHiLo32_irqWait (s : State) (p : Word) : (s.setHiLo32 p).irqWait = s.irqWait := rfl
@[simp] theorem State.setHiLo32_seq (s : State) (p : Word) : (s.setHiLo32 p).seq = s.seq := rfl

/-! `State.setHiLo64`. -/

@[simp] theorem State.setHiLo64_gpr (s : State) (p : BitVec 128) : (s.setHiLo64 p).gpr = s.gpr := rfl
@[simp] theorem State.setHiLo64_hi (s : State) (p : BitVec 128) : (s.setHiLo64 p).hi = p.extractLsb' 64 64 := rfl
@[simp] theorem State.setHiLo64_lo (s : State) (p : BitVec 128) : (s.setHiLo64 p).lo = p.setWidth 64 := rfl
@[simp] theorem State.setHiLo64_pc (s : State) (p : BitVec 128) : (s.setHiLo64 p).pc = s.pc := rfl
@[simp] theorem State.setHiLo64_delay (s : State) (p : BitVec 128) : (s.setHiLo64 p).delay = s.delay := rfl
@[simp] theorem State.setHiLo64_llbit (s : State) (p : BitVec 128) : (s.setHiLo64 p).llbit = s.llbit := rfl
@[simp] theorem State.setHiLo64_cp0 (s : State) (p : BitVec 128) : (s.setHiLo64 p).cp0 = s.cp0 := rfl
@[simp] theorem State.setHiLo64_fpr (s : State) (p : BitVec 128) : (s.setHiLo64 p).fpr = s.fpr := rfl
@[simp] theorem State.setHiLo64_fcsr (s : State) (p : BitVec 128) : (s.setHiLo64 p).fcsr = s.fcsr := rfl
@[simp] theorem State.setHiLo64_tlb (s : State) (p : BitVec 128) : (s.setHiLo64 p).tlb = s.tlb := rfl
@[simp] theorem State.setHiLo64_itlb (s : State) (p : BitVec 128) : (s.setHiLo64 p).itlb = s.itlb := rfl
@[simp] theorem State.setHiLo64_bus (s : State) (p : BitVec 128) : (s.setHiLo64 p).bus = s.bus := rfl
@[simp] theorem State.setHiLo64_coldResetRequest (s : State) (p : BitVec 128) : (s.setHiLo64 p).coldResetRequest = s.coldResetRequest := rfl
@[simp] theorem State.setHiLo64_nmiRequest (s : State) (p : BitVec 128) : (s.setHiLo64 p).nmiRequest = s.nmiRequest := rfl
@[simp] theorem State.setHiLo64_softResetRequest (s : State) (p : BitVec 128) : (s.setHiLo64 p).softResetRequest = s.softResetRequest := rfl
@[simp] theorem State.setHiLo64_irqWait (s : State) (p : BitVec 128) : (s.setHiLo64 p).irqWait = s.irqWait := rfl
@[simp] theorem State.setHiLo64_seq (s : State) (p : BitVec 128) : (s.setHiLo64 p).seq = s.seq := rfl

/-! `State.setIndex`. -/

@[simp] theorem State.setIndex_gpr (s : State) (v : BitVec 32) : (s.setIndex v).gpr = s.gpr := rfl
@[simp] theorem State.setIndex_hi (s : State) (v : BitVec 32) : (s.setIndex v).hi = s.hi := rfl
@[simp] theorem State.setIndex_lo (s : State) (v : BitVec 32) : (s.setIndex v).lo = s.lo := rfl
@[simp] theorem State.setIndex_pc (s : State) (v : BitVec 32) : (s.setIndex v).pc = s.pc := rfl
@[simp] theorem State.setIndex_delay (s : State) (v : BitVec 32) : (s.setIndex v).delay = s.delay := rfl
@[simp] theorem State.setIndex_llbit (s : State) (v : BitVec 32) : (s.setIndex v).llbit = s.llbit := rfl
@[simp] theorem State.setIndex_cp0 (s : State) (v : BitVec 32) : (s.setIndex v).cp0 = { s.cp0 with index := v } := rfl
@[simp] theorem State.setIndex_fpr (s : State) (v : BitVec 32) : (s.setIndex v).fpr = s.fpr := rfl
@[simp] theorem State.setIndex_fcsr (s : State) (v : BitVec 32) : (s.setIndex v).fcsr = s.fcsr := rfl
@[simp] theorem State.setIndex_tlb (s : State) (v : BitVec 32) : (s.setIndex v).tlb = s.tlb := rfl
@[simp] theorem State.setIndex_itlb (s : State) (v : BitVec 32) : (s.setIndex v).itlb = s.itlb := rfl
@[simp] theorem State.setIndex_bus (s : State) (v : BitVec 32) : (s.setIndex v).bus = s.bus := rfl
@[simp] theorem State.setIndex_coldResetRequest (s : State) (v : BitVec 32) : (s.setIndex v).coldResetRequest = s.coldResetRequest := rfl
@[simp] theorem State.setIndex_nmiRequest (s : State) (v : BitVec 32) : (s.setIndex v).nmiRequest = s.nmiRequest := rfl
@[simp] theorem State.setIndex_softResetRequest (s : State) (v : BitVec 32) : (s.setIndex v).softResetRequest = s.softResetRequest := rfl
@[simp] theorem State.setIndex_irqWait (s : State) (v : BitVec 32) : (s.setIndex v).irqWait = s.irqWait := rfl
@[simp] theorem State.setIndex_seq (s : State) (v : BitVec 32) : (s.setIndex v).seq = s.seq := rfl

/-! `State.setTags`. -/

@[simp] theorem State.setTags_gpr (s : State) (v : Word) : (s.setTags v).gpr = s.gpr := rfl
@[simp] theorem State.setTags_hi (s : State) (v : Word) : (s.setTags v).hi = s.hi := rfl
@[simp] theorem State.setTags_lo (s : State) (v : Word) : (s.setTags v).lo = s.lo := rfl
@[simp] theorem State.setTags_pc (s : State) (v : Word) : (s.setTags v).pc = s.pc := rfl
@[simp] theorem State.setTags_delay (s : State) (v : Word) : (s.setTags v).delay = s.delay := rfl
@[simp] theorem State.setTags_llbit (s : State) (v : Word) : (s.setTags v).llbit = s.llbit := rfl
@[simp] theorem State.setTags_cp0 (s : State) (v : Word) : (s.setTags v).cp0 = { s.cp0 with tagLo := low32 v, tagHi := v.extractLsb' 32 32 } := rfl
@[simp] theorem State.setTags_fpr (s : State) (v : Word) : (s.setTags v).fpr = s.fpr := rfl
@[simp] theorem State.setTags_fcsr (s : State) (v : Word) : (s.setTags v).fcsr = s.fcsr := rfl
@[simp] theorem State.setTags_tlb (s : State) (v : Word) : (s.setTags v).tlb = s.tlb := rfl
@[simp] theorem State.setTags_itlb (s : State) (v : Word) : (s.setTags v).itlb = s.itlb := rfl
@[simp] theorem State.setTags_bus (s : State) (v : Word) : (s.setTags v).bus = s.bus := rfl
@[simp] theorem State.setTags_coldResetRequest (s : State) (v : Word) : (s.setTags v).coldResetRequest = s.coldResetRequest := rfl
@[simp] theorem State.setTags_nmiRequest (s : State) (v : Word) : (s.setTags v).nmiRequest = s.nmiRequest := rfl
@[simp] theorem State.setTags_softResetRequest (s : State) (v : Word) : (s.setTags v).softResetRequest = s.softResetRequest := rfl
@[simp] theorem State.setTags_irqWait (s : State) (v : Word) : (s.setTags v).irqWait = s.irqWait := rfl
@[simp] theorem State.setTags_seq (s : State) (v : Word) : (s.setTags v).seq = s.seq := rfl

/-! `State.readTlbEntry`. -/

@[simp] theorem State.readTlbEntry_gpr (s : State) (e : TlbEntry) : (s.readTlbEntry e).gpr = s.gpr := rfl
@[simp] theorem State.readTlbEntry_hi (s : State) (e : TlbEntry) : (s.readTlbEntry e).hi = s.hi := rfl
@[simp] theorem State.readTlbEntry_lo (s : State) (e : TlbEntry) : (s.readTlbEntry e).lo = s.lo := rfl
@[simp] theorem State.readTlbEntry_pc (s : State) (e : TlbEntry) : (s.readTlbEntry e).pc = s.pc := rfl
@[simp] theorem State.readTlbEntry_delay (s : State) (e : TlbEntry) : (s.readTlbEntry e).delay = s.delay := rfl
@[simp] theorem State.readTlbEntry_llbit (s : State) (e : TlbEntry) : (s.readTlbEntry e).llbit = s.llbit := rfl
@[simp] theorem State.readTlbEntry_fpr (s : State) (e : TlbEntry) : (s.readTlbEntry e).fpr = s.fpr := rfl
@[simp] theorem State.readTlbEntry_fcsr (s : State) (e : TlbEntry) : (s.readTlbEntry e).fcsr = s.fcsr := rfl
@[simp] theorem State.readTlbEntry_tlb (s : State) (e : TlbEntry) : (s.readTlbEntry e).tlb = s.tlb := rfl
@[simp] theorem State.readTlbEntry_itlb (s : State) (e : TlbEntry) : (s.readTlbEntry e).itlb = s.itlb := rfl
@[simp] theorem State.readTlbEntry_bus (s : State) (e : TlbEntry) : (s.readTlbEntry e).bus = s.bus := rfl
@[simp] theorem State.readTlbEntry_coldResetRequest (s : State) (e : TlbEntry) : (s.readTlbEntry e).coldResetRequest = s.coldResetRequest := rfl
@[simp] theorem State.readTlbEntry_nmiRequest (s : State) (e : TlbEntry) : (s.readTlbEntry e).nmiRequest = s.nmiRequest := rfl
@[simp] theorem State.readTlbEntry_softResetRequest (s : State) (e : TlbEntry) : (s.readTlbEntry e).softResetRequest = s.softResetRequest := rfl
@[simp] theorem State.readTlbEntry_irqWait (s : State) (e : TlbEntry) : (s.readTlbEntry e).irqWait = s.irqWait := rfl
@[simp] theorem State.readTlbEntry_seq (s : State) (e : TlbEntry) : (s.readTlbEntry e).seq = s.seq := rfl

/-! `State.writeCp0`. -/

@[simp] theorem State.writeCp0_gpr (s : State) (n : RegNum) (v : Word) : (s.writeCp0 n v).gpr = s.gpr := by
  unfold State.writeCp0; split <;> rfl
@[simp] theorem State.writeCp0_hi (s : State) (n : RegNum) (v : Word) : (s.writeCp0 n v).hi = s.hi := by
  unfold State.writeCp0; split <;> rfl
@[simp] theorem State.writeCp0_lo (s : State) (n : RegNum) (v : Word) : (s.writeCp0 n v).lo = s.lo := by
  unfold State.writeCp0; split <;> rfl
@[simp] theorem State.writeCp0_pc (s : State) (n : RegNum) (v : Word) : (s.writeCp0 n v).pc = s.pc := by
  unfold State.writeCp0; split <;> rfl
@[simp] theorem State.writeCp0_delay (s : State) (n : RegNum) (v : Word) : (s.writeCp0 n v).delay = s.delay := by
  unfold State.writeCp0; split <;> rfl
@[simp] theorem State.writeCp0_llbit (s : State) (n : RegNum) (v : Word) : (s.writeCp0 n v).llbit = s.llbit := by
  unfold State.writeCp0; split <;> rfl
@[simp] theorem State.writeCp0_fpr (s : State) (n : RegNum) (v : Word) : (s.writeCp0 n v).fpr = s.fpr := by
  unfold State.writeCp0; split <;> rfl
@[simp] theorem State.writeCp0_fcsr (s : State) (n : RegNum) (v : Word) : (s.writeCp0 n v).fcsr = s.fcsr := by
  unfold State.writeCp0; split <;> rfl
@[simp] theorem State.writeCp0_tlb (s : State) (n : RegNum) (v : Word) : (s.writeCp0 n v).tlb = s.tlb := by
  unfold State.writeCp0; split <;> rfl
@[simp] theorem State.writeCp0_bus (s : State) (n : RegNum) (v : Word) : (s.writeCp0 n v).bus = s.bus := by
  unfold State.writeCp0; split <;> rfl
@[simp] theorem State.writeCp0_coldResetRequest (s : State) (n : RegNum) (v : Word) : (s.writeCp0 n v).coldResetRequest = s.coldResetRequest := by
  unfold State.writeCp0; split <;> rfl
@[simp] theorem State.writeCp0_nmiRequest (s : State) (n : RegNum) (v : Word) : (s.writeCp0 n v).nmiRequest = s.nmiRequest := by
  unfold State.writeCp0; split <;> rfl
@[simp] theorem State.writeCp0_softResetRequest (s : State) (n : RegNum) (v : Word) : (s.writeCp0 n v).softResetRequest = s.softResetRequest := by
  unfold State.writeCp0; split <;> rfl
@[simp] theorem State.writeCp0_irqWait (s : State) (n : RegNum) (v : Word) : (s.writeCp0 n v).irqWait = s.irqWait := by
  unfold State.writeCp0; split <;> rfl
@[simp] theorem State.writeCp0_seq (s : State) (n : RegNum) (v : Word) : (s.writeCp0 n v).seq = s.seq := by
  unfold State.writeCp0; split <;> rfl

/-! `State.tick`. -/

@[simp] theorem State.tick_gpr (s : State) : (s.tick).gpr = s.gpr := rfl
@[simp] theorem State.tick_hi (s : State) : (s.tick).hi = s.hi := rfl
@[simp] theorem State.tick_lo (s : State) : (s.tick).lo = s.lo := rfl
@[simp] theorem State.tick_pc (s : State) : (s.tick).pc = s.pc := rfl
@[simp] theorem State.tick_delay (s : State) : (s.tick).delay = s.delay := rfl
@[simp] theorem State.tick_llbit (s : State) : (s.tick).llbit = s.llbit := rfl
@[simp] theorem State.tick_fpr (s : State) : (s.tick).fpr = s.fpr := rfl
@[simp] theorem State.tick_fcsr (s : State) : (s.tick).fcsr = s.fcsr := rfl
@[simp] theorem State.tick_tlb (s : State) : (s.tick).tlb = s.tlb := rfl
@[simp] theorem State.tick_itlb (s : State) : (s.tick).itlb = s.itlb := rfl
@[simp] theorem State.tick_bus (s : State) : (s.tick).bus = s.bus.recordPulses := rfl
@[simp] theorem State.tick_coldResetRequest (s : State) : (s.tick).coldResetRequest = s.coldResetRequest := rfl
@[simp] theorem State.tick_nmiRequest (s : State) : (s.tick).nmiRequest = s.nmiRequest := rfl
@[simp] theorem State.tick_softResetRequest (s : State) : (s.tick).softResetRequest = s.softResetRequest := rfl
@[simp] theorem State.tick_irqWait (s : State) : (s.tick).irqWait = s.irqWait := rfl
@[simp] theorem State.tick_seq (s : State) : (s.tick).seq = s.seq + 1 := rfl

/-! `State.dropRequests`. -/

@[simp] theorem State.dropRequests_gpr (s : State) : (s.dropRequests).gpr = s.gpr := rfl
@[simp] theorem State.dropRequests_hi (s : State) : (s.dropRequests).hi = s.hi := rfl
@[simp] theorem State.dropRequests_lo (s : State) : (s.dropRequests).lo = s.lo := rfl
@[simp] theorem State.dropRequests_pc (s : State) : (s.dropRequests).pc = s.pc := rfl
@[simp] theorem State.dropRequests_delay (s : State) : (s.dropRequests).delay = s.delay := rfl
@[simp] theorem State.dropRequests_llbit (s : State) : (s.dropRequests).llbit = s.llbit := rfl
@[simp] theorem State.dropRequests_fpr (s : State) : (s.dropRequests).fpr = s.fpr := rfl
@[simp] theorem State.dropRequests_fcsr (s : State) : (s.dropRequests).fcsr = s.fcsr := rfl
@[simp] theorem State.dropRequests_tlb (s : State) : (s.dropRequests).tlb = s.tlb := rfl
@[simp] theorem State.dropRequests_itlb (s : State) : (s.dropRequests).itlb = s.itlb := rfl
@[simp] theorem State.dropRequests_bus (s : State) : (s.dropRequests).bus = s.bus := rfl
@[simp] theorem State.dropRequests_coldResetRequest (s : State) : (s.dropRequests).coldResetRequest = s.coldResetRequest := rfl
@[simp] theorem State.dropRequests_nmiRequest (s : State) : (s.dropRequests).nmiRequest = s.nmiRequest := rfl
@[simp] theorem State.dropRequests_softResetRequest (s : State) : (s.dropRequests).softResetRequest = s.softResetRequest := rfl
@[simp] theorem State.dropRequests_irqWait (s : State) : (s.dropRequests).irqWait = s.irqWait := rfl
@[simp] theorem State.dropRequests_seq (s : State) : (s.dropRequests).seq = s.seq := rfl
@[simp] theorem State.dropRequests_requests (s : State) : (s.dropRequests).requests = s.requests := rfl
@[simp] theorem State.dropRequests_dropped (s : State) : (s.dropRequests).cp0.dropped = s.requests := rfl

/-- After it Cause.IP[6:2] is 0, whatever the lines and the counters. -/
theorem State.dropRequests_pending (s : State) : (s.dropRequests).interruptPending.extractLsb' 2 5 = 0#5 := by
  unfold State.interruptPending
  simp only [State.dropRequests_requests, State.dropRequests_dropped, BitVec.and_not_self]
  ext k
  simp only [BitVec.getElem_extractLsb', BitVec.getLsbD_append]
  interval_cases k <;> simp

/-! `State.errorEntry`. -/

@[simp] theorem State.errorEntry_gpr (s : State) : (s.errorEntry).gpr = s.gpr := rfl
@[simp] theorem State.errorEntry_hi (s : State) : (s.errorEntry).hi = s.hi := rfl
@[simp] theorem State.errorEntry_lo (s : State) : (s.errorEntry).lo = s.lo := rfl
@[simp] theorem State.errorEntry_pc (s : State) : (s.errorEntry).pc = resetVector := rfl
@[simp] theorem State.errorEntry_delay (s : State) : (s.errorEntry).delay = none := rfl
@[simp] theorem State.errorEntry_llbit (s : State) : (s.errorEntry).llbit = s.llbit := rfl
@[simp] theorem State.errorEntry_fpr (s : State) : (s.errorEntry).fpr = s.fpr := rfl
@[simp] theorem State.errorEntry_fcsr (s : State) : (s.errorEntry).fcsr = s.fcsr := rfl
@[simp] theorem State.errorEntry_tlb (s : State) : (s.errorEntry).tlb = s.tlb := rfl
@[simp] theorem State.errorEntry_itlb (s : State) : (s.errorEntry).itlb = s.itlb := rfl
@[simp] theorem State.errorEntry_bus (s : State) : (s.errorEntry).bus = s.bus := rfl
@[simp] theorem State.errorEntry_coldResetRequest (s : State) : (s.errorEntry).coldResetRequest = s.coldResetRequest := rfl
@[simp] theorem State.errorEntry_nmiRequest (s : State) : (s.errorEntry).nmiRequest = s.nmiRequest := rfl
@[simp] theorem State.errorEntry_softResetRequest (s : State) : (s.errorEntry).softResetRequest = s.softResetRequest := rfl
@[simp] theorem State.errorEntry_irqWait (s : State) : (s.errorEntry).irqWait = s.irqWait := rfl
@[simp] theorem State.errorEntry_seq (s : State) : (s.errorEntry).seq = s.seq := rfl

/-! `State.after`. -/

@[simp] theorem State.after_gpr (s : State) : (s.after).gpr = s.gpr := rfl
@[simp] theorem State.after_hi (s : State) : (s.after).hi = s.hi := rfl
@[simp] theorem State.after_lo (s : State) : (s.after).lo = s.lo := rfl
@[simp] theorem State.after_pc (s : State) : (s.after).pc = s.nextPc := rfl
@[simp] theorem State.after_delay (s : State) : (s.after).delay = none := rfl
@[simp] theorem State.after_llbit (s : State) : (s.after).llbit = s.llbit := rfl
@[simp] theorem State.after_cp0 (s : State) : (s.after).cp0 = s.cp0 := rfl
@[simp] theorem State.after_fpr (s : State) : (s.after).fpr = s.fpr := rfl
@[simp] theorem State.after_fcsr (s : State) : (s.after).fcsr = s.fcsr := rfl
@[simp] theorem State.after_tlb (s : State) : (s.after).tlb = s.tlb := rfl
@[simp] theorem State.after_itlb (s : State) : (s.after).itlb = s.itlb := rfl
@[simp] theorem State.after_bus (s : State) : (s.after).bus = s.bus := rfl
@[simp] theorem State.after_coldResetRequest (s : State) : (s.after).coldResetRequest = s.coldResetRequest := rfl
@[simp] theorem State.after_nmiRequest (s : State) : (s.after).nmiRequest = s.nmiRequest := rfl
@[simp] theorem State.after_softResetRequest (s : State) : (s.after).softResetRequest = s.softResetRequest := rfl
@[simp] theorem State.after_irqWait (s : State) : (s.after).irqWait = s.irqWait := rfl
@[simp] theorem State.after_seq (s : State) : (s.after).seq = s.seq := rfl

/-! `enterException` and `returnFromException`. -/

@[simp] theorem enterException_gpr (e : Exc) (s : State) : (enterException e s).gpr = s.gpr := rfl
@[simp] theorem enterException_hi (e : Exc) (s : State) : (enterException e s).hi = s.hi := rfl
@[simp] theorem enterException_lo (e : Exc) (s : State) : (enterException e s).lo = s.lo := rfl
@[simp] theorem enterException_delay (e : Exc) (s : State) : (enterException e s).delay = none := rfl
@[simp] theorem enterException_llbit (e : Exc) (s : State) : (enterException e s).llbit = s.llbit := rfl
@[simp] theorem enterException_fpr (e : Exc) (s : State) : (enterException e s).fpr = s.fpr := rfl
@[simp] theorem enterException_fcsr (e : Exc) (s : State) : (enterException e s).fcsr = s.fcsr := rfl
@[simp] theorem enterException_tlb (e : Exc) (s : State) : (enterException e s).tlb = s.tlb := rfl
@[simp] theorem enterException_itlb (e : Exc) (s : State) : (enterException e s).itlb = s.itlb := rfl
@[simp] theorem enterException_bus (e : Exc) (s : State) : (enterException e s).bus = s.bus := rfl
@[simp] theorem enterException_coldResetRequest (e : Exc) (s : State) : (enterException e s).coldResetRequest = s.coldResetRequest := rfl
@[simp] theorem enterException_nmiRequest (e : Exc) (s : State) : (enterException e s).nmiRequest = s.nmiRequest := rfl
@[simp] theorem enterException_softResetRequest (e : Exc) (s : State) : (enterException e s).softResetRequest = s.softResetRequest := rfl
@[simp] theorem enterException_irqWait (e : Exc) (s : State) : (enterException e s).irqWait = s.irqWait := rfl
@[simp] theorem enterException_seq (e : Exc) (s : State) : (enterException e s).seq = s.seq := rfl

@[simp] theorem returnFromException_gpr (s : State) : (returnFromException s).gpr = s.gpr := rfl
@[simp] theorem returnFromException_hi (s : State) : (returnFromException s).hi = s.hi := rfl
@[simp] theorem returnFromException_lo (s : State) : (returnFromException s).lo = s.lo := rfl
@[simp] theorem returnFromException_pc (s : State) : (returnFromException s).pc = s.cp0.epc := rfl
@[simp] theorem returnFromException_delay (s : State) : (returnFromException s).delay = none := rfl
@[simp] theorem returnFromException_llbit (s : State) : (returnFromException s).llbit = false := rfl
@[simp] theorem returnFromException_fpr (s : State) : (returnFromException s).fpr = s.fpr := rfl
@[simp] theorem returnFromException_fcsr (s : State) : (returnFromException s).fcsr = s.fcsr := rfl
@[simp] theorem returnFromException_tlb (s : State) : (returnFromException s).tlb = s.tlb := rfl
@[simp] theorem returnFromException_itlb (s : State) : (returnFromException s).itlb = s.itlb := rfl
@[simp] theorem returnFromException_bus (s : State) : (returnFromException s).bus = s.bus := rfl
@[simp] theorem returnFromException_coldResetRequest (s : State) : (returnFromException s).coldResetRequest = s.coldResetRequest := rfl
@[simp] theorem returnFromException_nmiRequest (s : State) : (returnFromException s).nmiRequest = s.nmiRequest := rfl
@[simp] theorem returnFromException_softResetRequest (s : State) : (returnFromException s).softResetRequest = s.softResetRequest := rfl
@[simp] theorem returnFromException_irqWait (s : State) : (returnFromException s).irqWait = s.irqWait := rfl
@[simp] theorem returnFromException_seq (s : State) : (returnFromException s).seq = s.seq := rfl

/-! Reading a register after a write. -/

@[simp] theorem State.readGpr_zero (s : State) : s.readGpr 0#5 = 0#64 := by simp [State.readGpr]

@[simp] theorem State.writeGpr_zero (s : State) (v : Word) : s.writeGpr 0#5 v = s := by simp [State.writeGpr]

theorem State.readGpr_writeGpr_self (s : State) (r : RegNum) (v : Word) (h : r ≠ 0#5) :
    (s.writeGpr r v).readGpr r = v := by
  simp [State.readGpr, State.writeGpr, h]

theorem State.readGpr_writeGpr_other (s : State) (r q : RegNum) (v : Word) (h : q ≠ r) :
    (s.writeGpr r v).readGpr q = s.readGpr q := by
  have hn : r.toNat ≠ q.toNat := fun e => h (BitVec.eq_of_toNat_eq e.symm)
  unfold State.readGpr State.writeGpr
  by_cases hr : r = 0#5 <;> by_cases hq : q = 0#5 <;> simp [hr, hq, Vector.getElem_set_ne, hn]

theorem State.readGpr_congr {s t : State} (h : t.gpr = s.gpr) (q : RegNum) : t.readGpr q = s.readGpr q := by
  simp [State.readGpr, h]

@[simp] theorem State.readFpr_writeFpr_self (s : State) (f : RegNum) (v : Word) : (s.writeFpr f v).readFpr f = v := by
  simp [State.readFpr, State.writeFpr]

theorem State.readFpr_writeFpr_other (s : State) (f g : RegNum) (v : Word) (h : g ≠ f) :
    (s.writeFpr f v).readFpr g = s.readFpr g := by
  have hn : f.toNat ≠ g.toNat := fun e => h (BitVec.eq_of_toNat_eq e.symm)
  simp [State.readFpr, State.writeFpr, hn]

end Sys2Proof.Machine
end

