-- ==== Sys2Proof/Laws/Memory.lean ====
section
/-! SUPPORT. Laws of sparse storage and of memory: reading back what was written, leaving the rest alone, and keeping
the canonical form. -/

namespace Sys2Proof.Machine

variable {β : Type} [DecidableEq β]

omit [DecidableEq β] in
theorem sparseRead_insert (d : β) (l : Sparse β) (a b : Nat) (v : β) :
    sparseRead d (sparseInsert l a v) b = if b = a then v else sparseRead d l b := by
  induction l with
  | nil => simp [sparseInsert, sparseRead]
  | cons e l ih =>
    obtain ⟨k, w⟩ := e
    unfold sparseInsert
    split
    · simp [sparseRead]
    · split
      · subst_vars; by_cases h : b = k <;> simp [sparseRead, h]
      · by_cases h : b = k
        · subst h; simp [sparseRead]; intro hk; omega
        · simp [sparseRead, h, ih]

omit [DecidableEq β] in
theorem sparseRead_filter_ne (d : β) (l : Sparse β) (a b : Nat) :
    sparseRead d (l.filter fun e => e.1 ≠ a) b = if b = a then d else sparseRead d l b := by
  induction l with
  | nil => simp [sparseRead]
  | cons e l ih =>
    obtain ⟨k, w⟩ := e
    by_cases hk : k = a
    · subst hk
      simp only [ne_eq, decide_not, List.filter_cons, decide_true, Bool.not_true, Bool.false_eq_true, if_false]
      rw [show (List.filter (fun e : Nat × β => !decide (e.1 = k)) l) = l.filter (fun e => e.1 ≠ k) by simp, ih]
      by_cases h : b = k <;> simp [sparseRead, h]
    · rw [List.filter_cons_of_pos (by simpa using hk)]
      by_cases h : b = k
      · subst h; simp [sparseRead, hk]
      · have ih' := ih
        simp only [ne_eq, decide_not] at ih'
        simp [sparseRead, h, ih']

/-- Reading after a write: the value written at its key, the old entry elsewhere. -/
@[simp] theorem sparseRead_write (d : β) (l : Sparse β) (a b : Nat) (v : β) :
    sparseRead d (sparseWrite d l a v) b = if b = a then v else sparseRead d l b := by
  unfold sparseWrite
  split
  · subst_vars; exact sparseRead_filter_ne v l a b
  · exact sparseRead_insert d l a b v

omit [DecidableEq β] in
theorem mem_sparseInsert (l : Sparse β) (a : Nat) (v : β) (e : Nat × β) (h : e ∈ sparseInsert l a v) :
    e = (a, v) ∨ e ∈ l := by
  induction l with
  | nil => simpa [sparseInsert] using h
  | cons x l ih =>
    obtain ⟨k, w⟩ := x
    unfold sparseInsert at h
    split at h
    · simpa using h
    · split at h
      · rcases List.mem_cons.1 h with h | h <;> simp [h]
      · rcases List.mem_cons.1 h with h | h
        · simp [h]
        · rcases ih h with h | h <;> simp [h]

/-- A write keeps the canonical form. -/
theorem SparseWf.write (d : β) (l : Sparse β) (a : Nat) (v : β) (h : SparseWf d l) :
    SparseWf d (sparseWrite d l a v) := by
  obtain ⟨hs, hd⟩ := h
  unfold sparseWrite
  split
  · exact ⟨hs.filter _, fun e he => hd e (List.mem_of_mem_filter he)⟩
  · rename_i hv
    refine ⟨?_, fun e he => ?_⟩
    · induction l with
      | nil => simp [sparseInsert]
      | cons x l ih =>
        obtain ⟨k, w⟩ := x
        have hx := List.pairwise_cons.1 hs
        unfold sparseInsert
        split
        · rename_i hak
          refine List.pairwise_cons.2 ⟨fun y hy => ?_, hs⟩
          rcases List.mem_cons.1 hy with rfl | hy
          · exact hak
          · exact lt_trans hak (hx.1 y hy)
        · split
          · rename_i hak; subst hak
            exact List.pairwise_cons.2 ⟨fun y hy => hx.1 y hy, hx.2⟩
          · refine List.pairwise_cons.2 ⟨fun y hy => ?_, ih hx.2 fun e he => hd e (List.mem_cons_of_mem _ he)⟩
            rcases mem_sparseInsert l a v y hy with rfl | hy
            · simp only; omega
            · exact hx.1 y hy
    · rcases mem_sparseInsert l a v e he with rfl | he
      · exact hv
      · exact hd e he

omit [DecidableEq β] in
/-- The empty list is canonical. -/
theorem SparseWf.nil (d : β) : SparseWf d ([] : Sparse β) := ⟨List.Pairwise.nil, by simp⟩

/-! Memory. -/

@[simp] theorem memByte_sparseWrite (m : Memory) (a b : Nat) (v : Byte) :
    memByte (sparseWrite Memory.unwritten m a v) b = if b = a then v else memByte m b := sparseRead_write ..

/-- A byte after a write of `n` bytes: the written byte inside, the old byte outside. -/
theorem memByte_memWrite (m : Memory) (a n v b : Nat) :
    memByte (memWrite m a n v) b =
      if a ≤ b ∧ b < a + n then BitVec.ofNat 8 (v / 256 ^ (b - a)) else memByte m b := by
  induction n generalizing m a v with
  | zero => simp [memWrite]
  | succ n ih =>
    simp only [memWrite, ih, memByte_sparseWrite]
    by_cases h1 : a + 1 ≤ b ∧ b < a + 1 + n
    · have hs : b - a = (b - (a + 1)) + 1 := by omega
      rw [if_pos h1, if_pos (by omega), hs, Nat.pow_succ, Nat.mul_comm, ← Nat.div_div_eq_div_mul]
    · rw [if_neg h1]
      by_cases h2 : b = a
      · subst h2; simp
      · rw [if_neg h2, if_neg (by omega)]

/-- Memory outside a write is unchanged. -/
theorem memByte_memWrite_outside (m : Memory) (a n v b : Nat) (h : b < a ∨ a + n ≤ b) :
    memByte (memWrite m a n v) b = memByte m b := by
  rw [memByte_memWrite, if_neg (by omega)]

/-- A read depends only on the bytes it reads. -/
theorem memRead_congr (m m' : Memory) (a n : Nat) (h : ∀ b, a ≤ b → b < a + n → memByte m' b = memByte m b) :
    memRead m' a n = memRead m a n := by
  induction n generalizing a with
  | zero => rfl
  | succ n ih =>
    simp only [memRead]
    rw [h a (Nat.le_refl a) (by omega), ih (a + 1) fun b h1 h2 => h b (by omega) (by omega)]

/-- Reading back what was written. -/
theorem memRead_memWrite_self (m : Memory) (a n v : Nat) : memRead (memWrite m a n v) a n = v % 256 ^ n := by
  induction n generalizing m a v with
  | zero => simp [memRead, Nat.mod_one]
  | succ n ih =>
    simp only [memRead, memWrite, ih]
    rw [memByte_memWrite_outside _ _ _ _ _ (by omega), memByte_sparseWrite, if_pos rfl, BitVec.toNat_ofNat]
    rw [show 256 ^ (n + 1) = 256 * 256 ^ n from Nat.pow_succ', Nat.mod_mul]

/-- A read elsewhere is unchanged by a write. -/
theorem memRead_memWrite_disjoint (m : Memory) (a n v b k : Nat) (h : b + k ≤ a ∨ a + n ≤ b) :
    memRead (memWrite m a n v) b k = memRead m b k :=
  memRead_congr _ _ _ _ fun c h1 h2 => memByte_memWrite_outside _ _ _ _ _ (by omega)

/-- A memory write keeps the canonical form. -/
theorem memWrite_wf (m : Memory) (a n v : Nat) (h : m.wf) : (memWrite m a n v).wf := by
  induction n generalizing m a v with
  | zero => exact h
  | succ n ih => exact ih _ _ _ (SparseWf.write _ _ _ _ h)

end Sys2Proof.Machine
end

