-- ==== Sys2Proof/Laws/Bus.lean ====
section
/-! SUPPORT. Every operation of the bus keeps the canonical forms of memory and of the caches. -/

namespace Sys2Proof.Machine

/-- Every bus a result can answer is canonical. -/
def BusResult.Canon {α : Type} (r : BusResult α) : Prop := ∀ a b, r = .ok a b → b.Canonical

theorem BusResult.andThen_eq_ok {α γ : Type} (r : BusResult α) (f : α → Bus → BusResult γ) (c : γ) (b' : Bus) :
    r.andThen f = .ok c b' ↔ ∃ a b, r = .ok a b ∧ f a b = .ok c b' := by
  cases r <;> simp [BusResult.andThen]

theorem BusResult.Canon.ok {α : Type} {a : α} {b : Bus} (h : b.Canonical) : (BusResult.ok a b).Canon := by
  intro a' b' h'; cases h'; exact h

theorem BusResult.Canon.stop {α : Type} {f : Fault} : (BusResult.stop f : BusResult α).Canon := by intro a b h; cases h

theorem BusResult.Canon.busError {α : Type} : (BusResult.busError : BusResult α).Canon := by intro a b h; cases h

theorem BusResult.Canon.andThen {α γ : Type} {r : BusResult α} {f : α → Bus → BusResult γ} (h : r.Canon)
    (hf : ∀ a b, b.Canonical → (f a b).Canon) : (r.andThen f).Canon := by
  intro c b' e
  obtain ⟨a, b, hr, hc⟩ := (BusResult.andThen_eq_ok r f c b').1 e
  exact hf a b (h a b hr) c b' hc

/-- A fold over a list of slots keeps what each of its steps keeps. -/
theorem foldl_keeps {γ : Type} (P : Bus → Prop) (f : Bus → γ → Bus) (hf : ∀ b k, P b → P (f b k)) (l : List γ)
    (b : Bus) (h : P b) : P (l.foldl f b) := by
  induction l generalizing b with
  | nil => exact h
  | cons k l ih => exact ih _ (hf b k h)

theorem Bus.reset_canonical : Bus.reset.Canonical :=
  ⟨SparseWf.nil _, SparseWf.nil _, SparseWf.nil _, SparseWf.nil _, SparseWf.nil _⟩

/-- A bus with the memory, the caches and the record of a canonical one is canonical. -/
theorem Bus.Canonical.congr {b b' : Bus} (h : b.Canonical) (h1 : b'.mem = b.mem) (h2 : b'.icache = b.icache)
    (h3 : b'.dcache = b.dcache) (h4 : b'.scache = b.scache) (h5 : b'.history = b.history) : b'.Canonical := by
  unfold Bus.Canonical; rw [h1, h2, h3, h4, h5]; exact h

theorem Bus.Canonical.withMem {b : Bus} (h : b.Canonical) (a n v : Nat) :
    Bus.Canonical { b with mem := memWrite b.mem a n v } := ⟨memWrite_wf _ _ _ _ h.1, h.2⟩

theorem Bus.Canonical.setILine {b : Bus} (h : b.Canonical) (k : Nat) (l : ILine) : (b.setILine k l).Canonical :=
  ⟨h.1, SparseWf.write _ _ _ _ h.2.1, h.2.2⟩

theorem Bus.Canonical.setDLine {b : Bus} (h : b.Canonical) (k : Nat) (l : DLine) : (b.setDLine k l).Canonical :=
  ⟨h.1, h.2.1, SparseWf.write _ _ _ _ h.2.2.1, h.2.2.2⟩

theorem Bus.Canonical.setSLine {b : Bus} (h : b.Canonical) (k : Nat) (l : SLine) : (b.setSLine k l).Canonical :=
  ⟨h.1, h.2.1, h.2.2.1, SparseWf.write _ _ _ _ h.2.2.2.1, h.2.2.2.2⟩

theorem Bus.Canonical.record {b : Bus} (h : b.Canonical) (n : Nat) (f : LineHistory → LineHistory) :
    (b.record n f).Canonical := ⟨h.1, h.2.1, h.2.2.1, h.2.2.2.1, SparseWf.write _ _ _ _ h.2.2.2.2⟩

theorem Bus.Canonical.recordAll {b : Bus} (h : b.Canonical) (p : Nat → Bool) (f : LineHistory → LineHistory) :
    (b.recordAll p f).Canonical :=
  ⟨h.1, h.2.1, h.2.2.1, h.2.2.2.1,
    (foldl_keeps Bus.Canonical _ (fun _ _ hb => hb.record _ _) ((b.history.map Prod.fst).filter p) b h).2.2.2.2⟩

theorem Bus.Canonical.setUca {b : Bus} (h : b.Canonical) (u : Option UcaBuffer) : Bus.Canonical { b with uca := u } := h

theorem Bus.Canonical.recordPulses {b : Bus} (h : b.Canonical) : b.recordPulses.Canonical := h

/-! Devices. -/

theorem Bus.Canonical.ddrWrite {b : Bus} (h : b.Canonical) (off : Nat) (v : BitVec 64) : (b.ddrWrite off v).Canonical := by
  unfold Bus.ddrWrite
  dsimp only
  split
  · split
    · exact h
    · exact h
  · exact h

theorem Bus.Canonical.ioWrite {b : Bus} (h : b.Canonical) (off sub n : Nat) (v : Word) :
    (b.ioWrite off sub n v).Canonical := by
  unfold Bus.ioWrite
  dsimp only
  split
  · exact h
  · split
    · exact h
    · exact h

/-! Physical accesses. -/

/-- A physical read leaves the bus as it is. -/
theorem Bus.physRead_bus (b : Bus) (q pa n : Nat) (v : Word) (b' : Bus) (h : b.physRead q pa n = .ok v b') : b' = b := by
  unfold Bus.physRead at h
  cases hr : b.regionOf pa <;> simp only [hr] at h <;> (try split at h) <;> first | cases h; rfl | cases h

/-- A block read leaves the bus as it is. -/
theorem Bus.blockRead_bus (b : Bus) (q pa : Nat) (d : Line) (b' : Bus) (h : b.blockRead q pa = .ok d b') : b' = b := by
  simp only [Bus.blockRead, BusResult.andThen_eq_ok] at h
  obtain ⟨_, _, _, _, _, _, _, _, _, _, _, _, h⟩ := h
  cases h; rfl

theorem Bus.Canonical.physRead {b : Bus} (h : b.Canonical) (q pa n : Nat) : (b.physRead q pa n).Canon := by
  intro v b' e; rw [Bus.physRead_bus b q pa n v b' e]; exact h

theorem Bus.Canonical.blockRead {b : Bus} (h : b.Canonical) (q pa : Nat) : (b.blockRead q pa).Canon := by
  intro v b' e; rw [Bus.blockRead_bus b q pa v b' e]; exact h

theorem Bus.Canonical.physWrite {b : Bus} (h : b.Canonical) (pa n : Nat) (v : Word) : (b.physWrite pa n v).Canon := by
  unfold Bus.physWrite
  cases b.regionOf pa <;> dsimp only
  · exact .ok (h.withMem _ _ _)
  · exact .ok h
  · split
    · exact .ok (h.ddrWrite _ _)
    · exact .stop
  · split
    · exact .ok h
    · exact .stop
  · split
    · exact .ok h
    · exact .stop
  · split
    · exact .ok (h.ioWrite _ _ _ _)
    · exact .stop
  · split
    · exact .ok h
    · exact .stop
  · exact .ok h
  · exact .ok h

theorem Bus.Canonical.blockWrite {b : Bus} (h : b.Canonical) (pa : Nat) (d : Line) : (b.blockWrite pa d).Canon :=
  (h.physWrite _ _ _).andThen fun _ _ h1 => (h1.physWrite _ _ _).andThen fun _ _ h2 =>
    (h2.physWrite _ _ _).andThen fun _ _ h3 => h3.physWrite _ _ _

/-! Lines. -/

@[simp] theorem Bus.setILine_iLine (b : Bus) (k n : Nat) (l : ILine) :
    (b.setILine k l).iLine n = if n = k then l else b.iLine n := sparseRead_write ..
@[simp] theorem Bus.setILine_dLine (b : Bus) (k n : Nat) (l : ILine) : (b.setILine k l).dLine n = b.dLine n := rfl
@[simp] theorem Bus.setILine_sLine (b : Bus) (k n : Nat) (l : ILine) : (b.setILine k l).sLine n = b.sLine n := rfl
@[simp] theorem Bus.setILine_mem (b : Bus) (k : Nat) (l : ILine) : (b.setILine k l).mem = b.mem := rfl
@[simp] theorem Bus.setDLine_iLine (b : Bus) (k n : Nat) (l : DLine) : (b.setDLine k l).iLine n = b.iLine n := rfl
@[simp] theorem Bus.setDLine_dLine (b : Bus) (k n : Nat) (l : DLine) :
    (b.setDLine k l).dLine n = if n = k then l else b.dLine n := sparseRead_write ..
@[simp] theorem Bus.setDLine_sLine (b : Bus) (k n : Nat) (l : DLine) : (b.setDLine k l).sLine n = b.sLine n := rfl
@[simp] theorem Bus.setDLine_mem (b : Bus) (k : Nat) (l : DLine) : (b.setDLine k l).mem = b.mem := rfl
@[simp] theorem Bus.setSLine_iLine (b : Bus) (k n : Nat) (l : SLine) : (b.setSLine k l).iLine n = b.iLine n := rfl
@[simp] theorem Bus.setSLine_dLine (b : Bus) (k n : Nat) (l : SLine) : (b.setSLine k l).dLine n = b.dLine n := rfl
@[simp] theorem Bus.setSLine_sLine (b : Bus) (k n : Nat) (l : SLine) :
    (b.setSLine k l).sLine n = if n = k then l else b.sLine n := sparseRead_write ..
@[simp] theorem Bus.setSLine_mem (b : Bus) (k : Nat) (l : SLine) : (b.setSLine k l).mem = b.mem := rfl

/-! The record of the data accesses: it alone changes, and each line's as told. -/

@[simp] theorem Bus.record_iLine (b : Bus) (m n : Nat) (f : LineHistory → LineHistory) :
    (b.record m f).iLine n = b.iLine n := rfl
@[simp] theorem Bus.record_dLine (b : Bus) (m n : Nat) (f : LineHistory → LineHistory) :
    (b.record m f).dLine n = b.dLine n := rfl
@[simp] theorem Bus.record_sLine (b : Bus) (m n : Nat) (f : LineHistory → LineHistory) :
    (b.record m f).sLine n = b.sLine n := rfl
@[simp] theorem Bus.record_mem (b : Bus) (m : Nat) (f : LineHistory → LineHistory) : (b.record m f).mem = b.mem := rfl
@[simp] theorem Bus.record_uca (b : Bus) (m : Nat) (f : LineHistory → LineHistory) : (b.record m f).uca = b.uca := rfl
@[simp] theorem Bus.record_regionOf (b : Bus) (m pa : Nat) (f : LineHistory → LineHistory) :
    (b.record m f).regionOf pa = b.regionOf pa := rfl
@[simp] theorem Bus.record_dataCached (b : Bus) (m : Nat) (f : LineHistory → LineHistory) (pa : PhysAddr) :
    (b.record m f).dataCached pa = b.dataCached pa := rfl
@[simp] theorem Bus.record_historyOf (b : Bus) (m n : Nat) (f : LineHistory → LineHistory) :
    (b.record m f).historyOf n = if n = m then f (b.historyOf m) else b.historyOf n := sparseRead_write ..
/-- Nothing but the record changes. -/
theorem Bus.record_history (b : Bus) (m : Nat) (f : LineHistory → LineHistory) :
    { b.record m f with history := b.history } = b := rfl

/-- Nothing but the record changes. -/
theorem Bus.recordAll_history (b : Bus) (p : Nat → Bool) (f : LineHistory → LineHistory) :
    { b.recordAll p f with history := b.history } = b := rfl

@[simp] theorem Bus.recordAll_iLine (b : Bus) (p : Nat → Bool) (f : LineHistory → LineHistory) (n : Nat) :
    (b.recordAll p f).iLine n = b.iLine n := rfl
@[simp] theorem Bus.recordAll_dLine (b : Bus) (p : Nat → Bool) (f : LineHistory → LineHistory) (n : Nat) :
    (b.recordAll p f).dLine n = b.dLine n := rfl
@[simp] theorem Bus.recordAll_sLine (b : Bus) (p : Nat → Bool) (f : LineHistory → LineHistory) (n : Nat) :
    (b.recordAll p f).sLine n = b.sLine n := rfl
@[simp] theorem Bus.recordAll_mem (b : Bus) (p : Nat → Bool) (f : LineHistory → LineHistory) :
    (b.recordAll p f).mem = b.mem := rfl

/-- An unlisted line has the empty record. -/
theorem Bus.historyOf_unlisted {b : Bus} {n : Nat} (h : n ∉ b.history.map Prod.fst) :
    b.historyOf n = LineHistory.none := by
  unfold Bus.historyOf
  induction hl : b.history generalizing b with
  | nil => rfl
  | cons e l ih =>
    rw [hl] at h
    simp only [List.map_cons, List.mem_cons, not_or] at h
    rw [sparseRead, if_neg h.1]
    exact ih (b := { b with history := l }) h.2 rfl

/-- What changing the records of many lines does to one, for a change that is done at once and keeps the empty record. -/
theorem Bus.recordAll_historyOf (b : Bus) (p : Nat → Bool) (f : LineHistory → LineHistory)
    (hf : ∀ h, f (f h) = f h) (h0 : f LineHistory.none = LineHistory.none) (n : Nat) :
    (b.recordAll p f).historyOf n = if p n then f (b.historyOf n) else b.historyOf n := by
  have fold (l : List Nat) (b : Bus) : (l.foldl (fun b n => b.record n f) b).historyOf n =
      if n ∈ l then f (b.historyOf n) else b.historyOf n := by
    induction l generalizing b with
    | nil => simp
    | cons m l ih =>
      rw [List.foldl_cons, ih, Bus.record_historyOf]
      by_cases hm : n = m
      · subst hm; simp [hf]
      · simp [hm]
  show (List.foldl (fun b n => b.record n f) b _).historyOf n = _
  rw [fold]
  by_cases hl : n ∈ b.history.map Prod.fst
  · simp [List.mem_filter, hl]
  · simp [List.mem_filter, hl, Bus.historyOf_unlisted hl, h0]

/-- A writeback-invalidate of a line is done at once. -/
@[simp] theorem LineHistory.writtenBack_twice (h : LineHistory) : h.writtenBack.writtenBack = h.writtenBack := by
  simp [LineHistory.writtenBack, Function.comp_def]

@[simp] theorem OldLine.invalidatedI_twice (o : OldLine) (c : BitVec 4) :
    (o.invalidatedI c).invalidatedI c = o.invalidatedI c := by
  unfold OldLine.invalidatedI
  split
  · simp [BitVec.and_assoc]
  · simp [*]

/-- So is an invalidation of one instruction-cache set. -/
@[simp] theorem LineHistory.invalidatedI_twice (h : LineHistory) (c : BitVec 4) :
    (h.invalidatedI c).invalidatedI c = h.invalidatedI c := by
  have done : ∀ o ∈ (h.invalidatedI c).olds, o.invalidatedI c = o ∧ o.colours ≠ 0#4 := by
    intro o ho
    obtain ⟨hm, hp⟩ := List.mem_filter.1 ho
    obtain ⟨o', -, rfl⟩ := List.mem_map.1 hm
    exact ⟨o'.invalidatedI_twice c, by simpa using hp⟩
  have e : ((h.invalidatedI c).invalidatedI c).olds = (h.invalidatedI c).olds := by
    show List.filter _ (List.map _ (h.invalidatedI c).olds) = _
    rw [List.map_congr_left (g := id) fun o ho => (done o ho).1, List.map_id, List.filter_eq_self]
    exact fun o ho => by simpa using (done o ho).2
  exact congrArg (fun l => { h with olds := l }) e

/-- The sequence of R138: a writeback-invalidate of the line and then Index Invalidate (I) of its set leave no earlier
content for a fetch at `va`. -/
theorem LineHistory.sequence (h : LineHistory) (c : BitVec 4) :
    (h.writtenBack.invalidatedI c).olds.filter (fun o => o.colours &&& c ≠ 0#4) = [] := by
  have e (x : BitVec 4) : (x &&& ~~~c) &&& c = 0#4 := by rw [BitVec.and_assoc, BitVec.and_comm (~~~c) c]; simp
  simp [LineHistory.invalidatedI, LineHistory.writtenBack, OldLine.invalidatedI, e]

/-- An uncached store changes nothing that a cached fetch may see of the entries. -/
@[simp] theorem LineHistory.overwritten_data (h : LineHistory) (put : Line → Line) (p : BitVec 4 → Bool) :
    ((h.overwritten put).olds.filter fun o => p o.colours).map OldLine.data =
      (h.olds.filter fun o => p o.colours).map OldLine.data := by
  simp [LineHistory.overwritten, List.filter_map, Function.comp_def]

/-- What an uncached fetch may see after it has the stored bytes. -/
theorem LineHistory.overwritten_uncached {h : LineHistory} {put : Line → Line} {o : OldLine} {d : Line}
    (ho : o ∈ (h.overwritten put).olds) (hd : o.uncached = some d) : ∃ d', d = put d' := by
  obtain ⟨o', -, rfl⟩ := List.mem_map.1 ho
  obtain ⟨d', -, e⟩ := Option.map_eq_some_iff.1 hd
  exact ⟨d', e.symm⟩

/-! Caches. -/

@[simp] theorem Bus.invalidateI_dLine (b : Bus) (pa : PhysAddr) (n : Nat) : (b.invalidateI pa).dLine n = b.dLine n := by
  unfold Bus.invalidateI Bus.dLine; rfl
@[simp] theorem Bus.invalidateI_sLine (b : Bus) (pa : PhysAddr) (n : Nat) : (b.invalidateI pa).sLine n = b.sLine n := by
  unfold Bus.invalidateI Bus.sLine; rfl
@[simp] theorem Bus.invalidateI_mem (b : Bus) (pa : PhysAddr) : (b.invalidateI pa).mem = b.mem := by
  unfold Bus.invalidateI; rfl

/-- Exactly the instruction-cache slots that hold the line become invalid. -/
theorem Bus.invalidateI_iLine (b : Bus) (pa : PhysAddr) (n : Nat) :
    (b.invalidateI pa).iLine n =
      if n ∈ primarySlots pa ∧ b.iHolds (primaryTag pa) n = true then { b.iLine n with v := false } else b.iLine n := by
  unfold Bus.invalidateI
  generalize primarySlots pa = slots
  show Bus.iLine (List.foldl _ b slots) n = _
  induction slots generalizing b with
  | nil => simp
  | cons k slots ih =>
    rw [List.foldl_cons, ih]
    by_cases hk : b.iHolds (primaryTag pa) k = true
    · by_cases hn : n = k
      · subst hn; simp_all [Bus.iHolds]
      · simp [Bus.iHolds, hn] at hk ⊢
        simp [hk, hn]
    · by_cases hn : n = k
      · subst hn; simp [hk]
      · simp [hk, hn]

theorem Bus.Canonical.invalidateI {b : Bus} (h : b.Canonical) (pa : PhysAddr) : (b.invalidateI pa).Canonical := by
  unfold Bus.invalidateI
  generalize primarySlots pa = slots
  exact ⟨h.1, (foldl_keeps Bus.Canonical _ (fun b k hb => by dsimp only; split; exacts [hb.setILine _ _, hb])
    slots b h).2.1, h.2.2⟩

theorem Bus.Canonical.invalidateD {b : Bus} (h : b.Canonical) (k : Nat) : (b.invalidateD k).Canonical := h.setDLine _ _

theorem Bus.Canonical.writebackD {b : Bus} (h : b.Canonical) (k : Nat) : (b.writebackD k).Canon := by
  unfold Bus.writebackD
  dsimp only
  split
  · exact .ok ((h.setSLine _ _).setDLine _ _)
  · exact .stop
  · exact .stop

theorem Bus.Canonical.flushD {b : Bus} (h : b.Canonical) (k : Nat) : (b.flushD k).Canon := by
  unfold Bus.flushD
  split
  · exact (h.writebackD k).andThen fun _ _ h1 => .ok (h1.invalidateD k)
  · exact .ok (h.invalidateD k)

theorem Bus.Canonical.flushAllD {b : Bus} (h : b.Canonical) (ks : List Nat) : (b.flushAllD ks).Canon := by
  induction ks generalizing b with
  | nil => exact .ok h
  | cons k ks ih => exact (h.flushD k).andThen fun _ _ h1 => ih h1

theorem Bus.Canonical.flushS {b : Bus} (h : b.Canonical) (j : Nat) : (b.flushS j).Canon := by
  unfold Bus.flushS
  dsimp only
  split
  · exact .ok h
  · refine (h.flushAllD _).andThen fun _ _ h1 => ?_
    have h2 := (h1.invalidateI (secondaryLineAddr (b.sLine j).tag (j / 4))).setSLine
    split
    · exact (h2 _ _).blockWrite _ _
    · exact .ok (h2 _ _)

theorem Bus.Canonical.fillS {b : Bus} (h : b.Canonical) (q : Nat) (pa : PhysAddr) : (b.fillS q pa).Canon := by
  unfold Bus.fillS
  split
  · exact .ok h
  · exact .stop
  · exact (h.blockRead _ _).andThen fun _ _ h1 => (h1.flushS _).andThen fun _ _ h2 => .ok (h2.setSLine _ _)

theorem Bus.Canonical.fillD {b : Bus} (h : b.Canonical) (q : Nat) (va : Word) (pa : PhysAddr) :
    (b.fillD q va pa).Canon := by
  unfold Bus.fillD
  split
  · exact .ok h
  · exact .stop
  · exact (h.fillS _ _).andThen fun _ _ h1 => (h1.flushD _).andThen fun _ _ h2 => .ok (h2.setDLine _ _)

theorem Bus.Canonical.overwrite {b : Bus} (h : b.Canonical) (pa : PhysAddr) (n : Nat) (v : Word) :
    (b.overwrite pa n v).Canonical := by
  unfold Bus.overwrite
  dsimp only
  have h1 := foldl_keeps Bus.Canonical
    (fun b k => b.setDLine k { b.dLine k with data := linePut (b.dLine k).data (lineOffset pa) n v })
    (fun _ _ hb => hb.setDLine _ _) (b.dCopies pa) b h
  split
  · exact h1.setSLine _ _
  · exact h1

theorem Bus.Canonical.poison {b : Bus} (h : b.Canonical) (q : Nat) (pa : PhysAddr) (n : Nat) :
    (b.poison q pa n).Canonical := h.overwrite _ _ _

/-- Doubleword by doubleword, a line keeps what each of its steps keeps. -/
theorem Bus.eachDoubleword_keeps (P : Bus → Prop) {f : Bus → PhysAddr → Nat → Bus} (hf : ∀ b p off, P b → P (f b p off))
    {b : Bus} (h : P b) (pa : PhysAddr) : P (b.eachDoubleword pa f) := foldl_keeps P _ (fun _ _ hb => hf _ _ _ hb) _ _ h

theorem Bus.Canonical.confuse {b : Bus} (h : b.Canonical) (q : Nat) (va : Word) (pa : PhysAddr) :
    (b.confuse q va pa).Canonical := by
  unfold Bus.confuse
  split
  exacts [Bus.eachDoubleword_keeps _ (fun _ _ _ hb => hb.poison _ _ _) h _, h]

theorem Bus.Canonical.passCopies {b : Bus} (h : b.Canonical) (q : Nat) (pa : PhysAddr) (n : Nat) (v : Word) :
    (b.passCopies q pa n v).Canonical := by
  unfold Bus.passCopies
  split
  · exact h.poison _ _ _
  · split
    exacts [h.overwrite _ _ _, h]

/-- `c` is `b` but for the data of lines of the data cache and the secondary cache. -/
def Bus.SameButData (b c : Bus) : Prop :=
  (∀ k, c.dLine k = { b.dLine k with data := (c.dLine k).data }) ∧
    (∀ k, c.sLine k = { b.sLine k with data := (c.sLine k).data }) ∧
    { c with dcache := b.dcache, scache := b.scache } = b

theorem Bus.SameButData.refl (b : Bus) : b.SameButData b := ⟨fun _ => rfl, fun _ => rfl, rfl⟩

theorem Bus.SameButData.trans {b c d : Bus} (h1 : b.SameButData c) (h2 : c.SameButData d) : b.SameButData d := by
  refine ⟨fun k => ?_, fun k => ?_, ?_⟩
  · rw [h2.1 k, h1.1 k]
  · rw [h2.2.1 k, h1.2.1 k]
  · have e := h1.2.2
    rw [← h2.2.2] at e
    exact e

theorem Bus.SameButData.setDLine (b : Bus) (k : Nat) (d : Line) : b.SameButData (b.setDLine k { b.dLine k with data := d }) := by
  refine ⟨fun n => ?_, fun n => by simp, rfl⟩
  by_cases h : n = k <;> simp [h]

theorem Bus.SameButData.setSLine (b : Bus) (k : Nat) (d : Line) : b.SameButData (b.setSLine k { b.sLine k with data := d }) := by
  refine ⟨fun n => by simp, fun n => ?_, rfl⟩
  by_cases h : n = k <;> simp [h]

/-- Overwritten copies differ in cached data alone: no tag, no state, no memory, no record. -/
theorem Bus.SameButData.overwrite (b : Bus) (pa : PhysAddr) (n : Nat) (v : Word) :
    b.SameButData (b.overwrite pa n v) := by
  unfold Bus.overwrite
  dsimp only
  have h1 := foldl_keeps b.SameButData _ (fun c k h => h.trans (.setDLine c k
    (linePut (c.dLine k).data (lineOffset pa) n v))) (b.dCopies pa) b (.refl b)
  split
  · exact h1.trans (.setSLine _ _ _)
  · exact h1

/-- So do poisoned ones (R127; log 16). -/
theorem Bus.SameButData.poison (b : Bus) (q : Nat) (pa : PhysAddr) (n : Nat) : b.SameButData (b.poison q pa n) :=
  .overwrite _ _ _ _

/-- So does the bus after a cached access of a line that has been accessed at two colours. -/
theorem Bus.SameButData.confuse (b : Bus) (q : Nat) (va : Word) (pa : PhysAddr) : b.SameButData (b.confuse q va pa) := by
  unfold Bus.confuse
  split
  · exact Bus.eachDoubleword_keeps b.SameButData (fun c p _ h => h.trans (.poison c q p 8)) (.refl b) pa
  · exact .refl b

/-- So does the bus that an uncached store has gone past. -/
theorem Bus.SameButData.passCopies (b : Bus) (q : Nat) (pa : PhysAddr) (n : Nat) (v : Word) :
    b.SameButData (b.passCopies q pa n v) := by
  unfold Bus.passCopies
  split
  · exact .poison _ _ _ _
  · split
    exacts [.overwrite _ _ _ _, .refl b]

/-- A line accessed at one colour alone keeps its data. -/
theorem Bus.confuse_alone {b : Bus} {va : Word} {pa : PhysAddr} (q : Nat)
    (h : (b.historyOf (lineNumber pa)).otherColour (colourBit va) = false) : b.confuse q va pa = b := by
  simp [Bus.confuse, h]

/-- With no copy in a data cache there is nothing to overwrite. -/
theorem Bus.overwrite_uncached {b : Bus} {pa : PhysAddr} (h : b.dataCached pa = false) (n : Nat) (v : Word) :
    b.overwrite pa n v = b := by
  simp only [Bus.dataCached, Bool.or_eq_false_iff, Bool.not_eq_false', List.isEmpty_iff, decide_eq_false_iff_not,
    ne_eq, Decidable.not_not] at h
  simp [Bus.overwrite, h.1, h.2]

/-- So an uncached store goes past nothing. -/
theorem Bus.passCopies_uncached {b : Bus} {pa : PhysAddr} (h : b.dataCached pa = false) (q n : Nat) (v : Word) :
    b.passCopies q pa n v = b := by
  unfold Bus.passCopies Bus.poison
  simp [Bus.overwrite_uncached h]

/-- With no copy in a data cache there is no dirty one. -/
theorem Bus.dirtyCopy_uncached {b : Bus} {pa : PhysAddr} (h : b.dataCached pa = false) : b.dirtyCopy pa = none := by
  simp only [Bus.dataCached, Bool.or_eq_false_iff, Bool.not_eq_false', List.isEmpty_iff, decide_eq_false_iff_not,
    ne_eq, Decidable.not_not] at h
  simp [Bus.dirtyCopy, Bus.dirtySlots, h.1, h.2]

/-! Data accesses. -/

theorem Bus.Canonical.usedUncached {b : Bus} (h : b.Canonical) (pa : PhysAddr) : (b.usedUncached pa).Canonical := h.record _ _

theorem Bus.Canonical.storedUncached {b : Bus} (h : b.Canonical) (pa : PhysAddr) (put : Line → Line) :
    (b.storedUncached pa put).Canonical :=
  h.record _ _

theorem Bus.Canonical.writePast {b : Bus} (h : b.Canonical) (q : Nat) (pa : PhysAddr) (n : Nat) (v : Word) :
    (b.writePast q pa n v).Canon := (h.physWrite _ _ _).andThen fun _ _ h1 => .ok (h1.passCopies _ _ _ _)

theorem Bus.Canonical.uncachedWrite {b : Bus} (h : b.Canonical) (q : Nat) (pa : PhysAddr) (n : Nat) (v : Word) :
    (b.uncachedWrite q pa n v).Canon := (h.storedUncached pa _).writePast _ _ _ _

theorem Bus.Canonical.drainBytes {b : Bus} (h : b.Canonical) (q : Nat) (u : UcaBuffer) (n : Nat) :
    (b.drainBytes q u n).Canon := by
  induction n generalizing b with
  | zero => exact .ok h
  | succ n ih =>
    unfold Bus.drainBytes
    dsimp only
    split
    · exact (h.writePast _ _ _ _).andThen fun _ _ h1 => ih h1
    · exact ih h

theorem Bus.Canonical.drain {b : Bus} (h : b.Canonical) (q : Nat) : (b.drain q).Canon := by
  unfold Bus.drain
  split
  · exact .ok h
  · exact (h.setUca none).drainBytes _ _ _

theorem Bus.Canonical.drainLine {b : Bus} (h : b.Canonical) (q : Nat) (pa : PhysAddr) : (b.drainLine q pa).Canon := by
  unfold Bus.drainLine
  split
  · split
    · exact h.drain _
    · exact .ok h
  · exact .ok h

/-- With nothing gathered there is nothing to drain. -/
theorem Bus.drainLine_none {b : Bus} (h : b.uca = none) (q : Nat) (pa : PhysAddr) : b.drainLine q pa = .ok () b := by
  simp [Bus.drainLine, h]

theorem Bus.Canonical.cachedRead {b : Bus} (h : b.Canonical) (q : Nat) (va : Word) (pa : PhysAddr) (n : Nat) :
    (b.cachedRead q va pa n).Canon :=
  (h.drainLine _ _).andThen fun _ _ h0 => (h0.fillD _ _ _).andThen fun _ _ h1 => .ok ((h1.confuse _ _ _).record _ _)

theorem Bus.Canonical.cachedWrite {b : Bus} (h : b.Canonical) (q : Nat) (va : Word) (pa : PhysAddr) (n : Nat)
    (v : Word) : (b.cachedWrite q va pa n v).Canon :=
  (h.drainLine _ _).andThen fun _ _ h0 => (h0.fillD _ _ _).andThen fun _ _ h1 =>
    .ok (((h1.setDLine _ _).confuse _ _ _).record _ _)

theorem Bus.Canonical.uncachedRead {b : Bus} (h : b.Canonical) (q : Nat) (pa : PhysAddr) (n : Nat) :
    (b.uncachedRead q pa n).Canon :=
  (h.drain q).andThen fun _ _ h1 => (h1.physRead _ _ _).andThen fun _ _ h2 => .ok (h2.usedUncached _)

theorem Bus.Canonical.keepGathered {b : Bus} (h : b.Canonical) (q : Nat) (pa : PhysAddr) (u : UcaBuffer) :
    (b.keepGathered q pa u).Canon := by
  unfold Bus.keepGathered
  split
  · exact ((h.setUca none).blockWrite _ _).andThen fun _ _ h1 =>
      .ok (Bus.eachDoubleword_keeps _ (fun _ _ _ hb => hb.passCopies _ _ _ _) h1 _)
  · exact .ok (h.setUca _)

theorem Bus.Canonical.gather {b : Bus} (h : b.Canonical) (q : Nat) (pa : PhysAddr) (n : Nat) (v : Word) :
    (b.gather q pa n v).Canon := by
  unfold Bus.gather
  dsimp only
  split
  · split
    · exact (h.storedUncached _ _).keepGathered _ _ _
    · exact (h.drain q).andThen fun _ _ h1 => (h1.storedUncached _ _).keepGathered _ _ _
  · exact (h.storedUncached _ _).keepGathered _ _ _

theorem Bus.Canonical.dataRead {b : Bus} (h : b.Canonical) (q : Nat) (c : BitVec 3) (va : Word) (pa : PhysAddr)
    (n : Nat) : (b.dataRead q c va pa n).Canon := by
  unfold Bus.dataRead
  split
  · exact h.cachedRead _ _ _ _
  · exact h.uncachedRead _ _ _

theorem Bus.Canonical.dataWrite {b : Bus} (h : b.Canonical) (q : Nat) (c : BitVec 3) (va : Word) (pa : PhysAddr)
    (n : Nat) (v : Word) : (b.dataWrite q c va pa n v).Canon := by
  unfold Bus.dataWrite
  split
  · exact h.cachedWrite _ _ _ _ _
  · exact h.gather _ _ _ _
  · exact (h.drain q).andThen fun _ _ h1 => h1.uncachedWrite _ _ _ _

/-! Fetch. -/

theorem Bus.Canonical.fetchCached {b : Bus} (h : b.Canonical) (q : Nat) (va : Word) (pa : PhysAddr) :
    (b.fetchCached q va pa).Canon := by
  refine (h.drainLine q pa).andThen fun _ b h => ?_
  dsimp only
  split
  · exact .ok h
  split
  · split
    · exact (h.fillS _ _).andThen fun _ _ h1 => .ok (h1.setILine _ _)
    · exact .ok h
  · exact .stop
  · exact (h.fillS _ _).andThen fun _ _ h1 => .ok (h1.setILine _ _)

theorem Bus.Canonical.fetchUncached {b : Bus} (h : b.Canonical) (q : Nat) (pa : PhysAddr) :
    (b.fetchUncached q pa).Canon :=
  (h.drainLine q pa).andThen fun _ _ h0 => (h0.physRead _ _ _).andThen fun _ _ h1 => .ok h1

theorem Bus.Canonical.fetchWord {b : Bus} (h : b.Canonical) (q : Nat) (c : BitVec 3) (va : Word) (pa : PhysAddr) :
    (b.fetchWord q c va pa).Canon := by
  unfold Bus.fetchWord
  split
  · exact h.fetchCached _ _ _
  · exact h.fetchUncached _ _

/-! The CACHE operations and the placing of a word. -/

theorem Bus.Canonical.dropI {b : Bus} (h : b.Canonical) (k : Nat) : (b.dropI k).Canonical := h.setILine _ _

theorem Bus.Canonical.dropS {b : Bus} (h : b.Canonical) (pa : PhysAddr) (j : Nat) : (b.dropS pa j).Canonical :=
  Bus.Canonical.setSLine (foldl_keeps _ _ (fun _ _ hb => hb.invalidateD _) _ _ (h.invalidateI pa)) _ _

theorem Bus.Canonical.flushAllS {b : Bus} (h : b.Canonical) (js : List Nat) : (b.flushAllS js).Canon := by
  induction js generalizing b with
  | nil => exact .ok h
  | cons j js ih => exact (h.flushS j).andThen fun _ _ h1 => ih h1

theorem Bus.Canonical.storeTagD {b : Bus} (h : b.Canonical) (k : Nat) (lo hi : BitVec 32) :
    (b.storeTagD k lo hi).Canonical := h.setDLine _ _

theorem Bus.Canonical.storeTagS {b : Bus} (h : b.Canonical) (j : Nat) (lo hi : BitVec 32) :
    (b.storeTagS j lo hi).Canonical := h.setSLine _ _

theorem Bus.Canonical.storeDataD {b : Bus} (h : b.Canonical) (k off : Nat) (v : Word) :
    (b.storeDataD k off v).Canonical := h.setDLine _ _

theorem Bus.Canonical.storeDataS {b : Bus} (h : b.Canonical) (j off : Nat) (v : Word) :
    (b.storeDataS j off v).Canonical := h.setSLine _ _

theorem Bus.Canonical.patchI {b : Bus} (h : b.Canonical) (pa : PhysAddr) (n : Nat) (v : Word) :
    (b.patchI pa n v).Canonical := foldl_keeps _ _ (fun _ _ hb => hb.setILine _ _) _ _ h

theorem Bus.Canonical.patchD {b : Bus} (h : b.Canonical) (pa : PhysAddr) (n : Nat) (v : Word) :
    (b.patchD pa n v).Canonical := foldl_keeps _ _ (fun _ _ hb => hb.setDLine _ _) _ _ h

theorem Bus.Canonical.patchS {b : Bus} (h : b.Canonical) (pa : PhysAddr) (n : Nat) (v : Word) :
    (b.patchS pa n v).Canonical := by
  unfold Bus.patchS
  split
  · exact h.setSLine _ _
  · exact h

theorem Bus.Canonical.patchUca {b : Bus} (h : b.Canonical) (pa : PhysAddr) (n : Nat) (v : Word) :
    (b.patchUca pa n v).Canonical := by
  unfold Bus.patchUca
  split
  · split
    · exact h.setUca _
    · exact h
  · exact h

theorem Bus.Canonical.patchOld {b : Bus} (h : b.Canonical) (pa : PhysAddr) (n : Nat) (v : Word) :
    (b.patchOld pa n v).Canonical := h.record _ _

theorem Bus.Canonical.patchCopies {b : Bus} (h : b.Canonical) (pa : PhysAddr) (n : Nat) (v : Word) :
    (b.patchCopies pa n v).Canonical := by
  unfold Bus.patchCopies
  exact ((((h.patchI _ _ _).patchD _ _ _).patchS _ _ _).patchUca _ _ _).patchOld _ _ _

theorem Bus.Canonical.placeWord {b : Bus} (h : b.Canonical) (pa : PhysAddr) (w : BitVec 32) :
    (b.placeWord pa w).Canonical := (h.patchCopies _ _ _).withMem _ _ _

end Sys2Proof.Machine
end

