-- ==== Sys2Proof/Laws/Control.lean ====
section
/-! SUPPORT. What the shared operations that end an instruction can do: one law for each operation of Ops.lean, Flags.lean
and FpOps.lean that completes, branches, checks a coprocessor or delivers a floating-point result. -/

namespace Sys2Proof.Machine

/-! Completing. -/

/-- `advance` answers a next state exactly where control can move on, and then only control moves. -/
theorem advance_eq_next (s t : State) : advance s = .next t ↔ s.CanAdvance ∧ t = s.after := by
  unfold advance State.CanAdvance State.after State.nextPc
  cases hd : s.delay with
  | some d => simp [eq_comm]
  | none =>
    by_cases hp : s.pc = lastPc
    · have hp' : s.pc = 0xFFFFFFFFFFFFFFFC#64 := hp
      rw [if_pos hp]
      simp [hp']
    · have hp' : s.pc ≠ 0xFFFFFFFFFFFFFFFC#64 := hp
      rw [if_neg hp]
      simp only [Host.Outcome.next.injEq, ne_eq, not_true_eq_false, hp', not_false_eq_true, or_true, true_and,
        Option.getD_none]
      constructor
      · intro h; rw [← h, ← hd]
      · intro h; rw [h, ← hd]

theorem advance_of_canAdvance {s : State} (h : s.CanAdvance) : advance s = .next s.after :=
  (advance_eq_next s _).2 ⟨h, rfl⟩

/-- `advance` never refuses, and faults only past the last address. -/
theorem advance_cases (s : State) : (s.CanAdvance ∧ advance s = .next s.after) ∨ advance s = .fault .pcWrap := by
  by_cases h : s.CanAdvance
  · exact .inl ⟨h, advance_of_canAdvance h⟩
  · refine .inr ?_
    simp only [State.CanAdvance, not_or, not_not] at h
    obtain ⟨hd, hp⟩ := h
    unfold advance
    rw [hd]
    exact if_pos hp

@[simp] theorem State.canAdvance_writeGpr (s : State) (r : RegNum) (v : Word) :
    (s.writeGpr r v).CanAdvance ↔ s.CanAdvance := by simp [State.CanAdvance]

@[simp] theorem State.canAdvance_writeFpr (s : State) (f : RegNum) (v : Word) :
    (s.writeFpr f v).CanAdvance ↔ s.CanAdvance := by simp [State.CanAdvance]

@[simp] theorem State.canAdvance_writeFpr32 (s : State) (f : RegNum) (v : BitVec 32) :
    (s.writeFpr32 f v).CanAdvance ↔ s.CanAdvance := by simp [State.CanAdvance]

@[simp] theorem State.canAdvance_setHiLo (s : State) (h l : Word) : (s.setHiLo h l).CanAdvance ↔ s.CanAdvance := by
  simp [State.CanAdvance]

@[simp] theorem State.canAdvance_writeCp0 (s : State) (n : RegNum) (v : Word) :
    (s.writeCp0 n v).CanAdvance ↔ s.CanAdvance := by simp [State.CanAdvance]

/-- A change of fields other than pc and the recorded target does not matter to whether control can move on. -/
theorem State.CanAdvance.congr {s t : State} (h : s.CanAdvance) (h1 : t.pc = s.pc) (h2 : t.delay = s.delay) :
    t.CanAdvance := by
  unfold State.CanAdvance; rw [h1, h2]; exact h

theorem finishGpr_of_canAdvance {s : State} (r : RegNum) (v : Word) (h : s.CanAdvance) :
    finishGpr s r v = .next (s.writeGpr r v).after :=
  advance_of_canAdvance ((s.canAdvance_writeGpr r v).2 h)

theorem finishGpr_eq_next (s t : State) (r : RegNum) (v : Word) :
    finishGpr s r v = .next t ↔ s.CanAdvance ∧ t = (s.writeGpr r v).after := by
  unfold finishGpr; rw [advance_eq_next]; simp

theorem takeBranch_eq_next (s t : State) (target : Word) :
    takeBranch s target = .next t ↔ s.pc ≠ lastPc ∧ t = s.branchTo target := by
  unfold takeBranch State.branchTo
  by_cases h : s.pc = lastPc <;> simp [h, eq_comm]

theorem fallThrough_eq_next (s t : State) :
    fallThrough s = .next t ↔ s.pc ≠ lastPc ∧ t = s.branchTo (s.pc + 8#64) := takeBranch_eq_next s t _

theorem takeBranch_of_canBranch {s : State} (target : Word) (h : s.CanBranch) :
    takeBranch s target = .next (s.branchTo target) := (takeBranch_eq_next s _ target).2 ⟨h.2, rfl⟩

theorem fallThrough_of_canBranch {s : State} (h : s.CanBranch) : fallThrough s = .next (s.branchTo (s.pc + 8#64)) :=
  takeBranch_of_canBranch _ h

theorem skipSlot_of_canBranch {s : State} (h : s.CanBranch) : skipSlot s = .next s.slotSkipped := by
  unfold skipSlot State.slotSkipped
  obtain ⟨hd, hp⟩ := h
  rw [if_neg (show ¬s.pc = lastPc from hp), ← hd]

theorem outsideSlot_of_canBranch {s : State} (k : Outcome) (h : s.CanBranch) : outsideSlot s k = k := by
  unfold outsideSlot; simp [h.1]

/-- In a delay slot every jump and branch is outside the spec. -/
theorem outsideSlot_in_slot {s : State} (k : Outcome) (h : s.delay ≠ none) :
    outsideSlot s k = .refused .branchInDelaySlot := by
  unfold outsideSlot
  cases hd : s.delay with
  | none => exact absurd hd h
  | some d => rfl

theorem branchIf_of_canBranch {s : State} (taken : Bool) (imm : BitVec 16) (h : s.CanBranch) :
    branchIf s taken imm =
      .next (s.branchTo (if taken then branchTarget s.pc imm else s.pc + 8#64)) := by
  unfold branchIf
  rw [outsideSlot_of_canBranch _ h]
  cases taken <;> simp [takeBranch_of_canBranch _ h, fallThrough_of_canBranch h]

theorem branchLikelyIf_of_canBranch {s : State} (taken : Bool) (imm : BitVec 16) (h : s.CanBranch) :
    branchLikelyIf s taken imm =
      .next (if taken then s.branchTo (branchTarget s.pc imm) else s.slotSkipped) := by
  unfold branchLikelyIf
  rw [outsideSlot_of_canBranch _ h]
  cases taken <;> simp [takeBranch_of_canBranch _ h, skipSlot_of_canBranch h]

theorem State.CanBranch.canAdvance {s : State} (h : s.CanBranch) : s.CanAdvance := .inr h.2

@[simp] theorem State.canBranch_writeGpr (s : State) (r : RegNum) (v : Word) :
    (s.writeGpr r v).CanBranch ↔ s.CanBranch := by simp [State.CanBranch]

@[simp] theorem State.canBranch_link (s : State) : s.link.CanBranch ↔ s.CanBranch := by simp [State.CanBranch]

theorem linkingBranch_of_ne {s : State} {rs : RegNum} (k : State → Outcome) (h : rs ≠ 31#5) :
    linkingBranch s rs k = k s.link := if_neg h

theorem linkingBranch_thirtyOne (s : State) (k : State → Outcome) :
    linkingBranch s 31#5 k = .refused .linkOfLinkRegister := rfl

/-! Traps and overflow. -/

theorem trapIf_true (s : State) : trapIf s true = .next (enterException .trap s) := rfl

theorem trapIf_false {s : State} (h : s.CanAdvance) : trapIf s false = .next s.after := advance_of_canAdvance h

/-! Coprocessors. -/

theorem withCp0_of_usable {s : State} (k : Outcome) (h : s.Cp0Usable) : withCp0 s k = k := by
  obtain ⟨m, hm, hu⟩ := h
  simp [withCp0, hm, hu]

theorem withCp0_of_unusable {s : State} (k : Outcome) (h : s.Cp0Unusable) :
    withCp0 s k = .next (enterException (.coprocessorUnusable 0#2) s) := by
  obtain ⟨m, hm, hu⟩ := h
  simp [withCp0, hm, hu, raise]

theorem withCp1_of_usable {s : State} (k : Outcome) (h : s.Cp1Usable) : withCp1 s k = k := if_pos h

theorem withCp1_of_unusable {s : State} (k : Outcome) (h : ¬s.Cp1Usable) :
    withCp1 s k = .next (enterException (.coprocessorUnusable 1#2) s) := if_neg h

theorem State.PlainUser.cp0Unusable {s : State} (h : s.PlainUser) : s.Cp0Unusable :=
  ⟨.user, h.1, by simp [cp0UsableIn, h.2]⟩

theorem withFpr64_of_ok {s : State} {fs : List RegNum} (k : Outcome) (h : fs.all (fpr64Ok s.cp0.status) = true) :
    withFpr64 s fs k = k := if_pos h

theorem withFpr64_of_odd {s : State} {fs : List RegNum} (k : Outcome) (h : ¬fs.all (fpr64Ok s.cp0.status) = true) :
    withFpr64 s fs k = .refused .fpOddRegister := if_neg h

/-- With Status.FR set every register may hold a 64-bit operand. -/
theorem fpr64Ok_of_fr {st : BitVec 32} (h : statusFr st = true) (fs : List RegNum) : fs.all (fpr64Ok st) = true := by
  simp [fpr64Ok, h]

/-! Ending a floating-point operation. -/

theorem fpComplete_trap {s : State} {c : FpCauses} (k : State → Outcome) (h : fpTraps (fcsrSetCauses s.fcsr c) c = true) :
    fpComplete s c k = .next (enterException .floatingPoint { s with fcsr := fcsrSetCauses s.fcsr c }) := by
  simp [fpComplete, h, raise]

theorem fpComplete_done {s : State} {c : FpCauses} (k : State → Outcome)
    (h : fpTraps (fcsrSetCauses s.fcsr c) c = false) :
    fpComplete s c k = k { s with fcsr := fcsrAddFlags (fcsrSetCauses s.fcsr c) c } := by
  simp [fpComplete, h]

theorem fpFinishS_done {s : State} (fd : RegNum) (r : FpResult) (ha : s.CanAdvance)
    (h : fpTraps (fcsrSetCauses s.fcsr r.causes) r.causes = false) :
    fpFinishS s fd r =
      .next (({ s with fcsr := fcsrAddFlags (fcsrSetCauses s.fcsr r.causes) r.causes } : State).writeFpr32 fd
        (low32 r.value)).after := by
  unfold fpFinishS
  rw [fpComplete_done _ h]
  exact advance_of_canAdvance ((State.canAdvance_writeFpr32 _ _ _).2 ha)

theorem fpFinishD_done {s : State} (fd : RegNum) (r : FpResult) (ha : s.CanAdvance)
    (h : fpTraps (fcsrSetCauses s.fcsr r.causes) r.causes = false) :
    fpFinishD s fd r =
      .next (({ s with fcsr := fcsrAddFlags (fcsrSetCauses s.fcsr r.causes) r.causes } : State).writeFpr fd
        r.value).after := by
  unfold fpFinishD
  rw [fpComplete_done _ h]
  exact advance_of_canAdvance ((State.canAdvance_writeFpr _ _ _).2 ha)

theorem fpFinishCompare_done {s : State} (invalid : Bool) (u : BitVec 32 → BitVec 32) (ha : s.CanAdvance)
    (h : fpTraps (fcsrSetCauses s.fcsr (if invalid then causeV else causeNone))
      (if invalid then causeV else causeNone) = false) :
    fpFinishCompare s invalid u =
      .next ({ s with fcsr := u (fcsrAddFlags (fcsrSetCauses s.fcsr (if invalid then causeV else causeNone))
        (if invalid then causeV else causeNone)) } : State).after := by
  unfold fpFinishCompare
  rw [fpComplete_done _ h]
  exact advance_of_canAdvance ha

end Sys2Proof.Machine
end

