-- ==== Sys2Proof/Laws/Access.lean ====
section
/-! SUPPORT. What a data access, a load, a store and a CACHE operation can do. -/

namespace Sys2Proof.Machine

/-- A successful data access was aligned, translated, not watched, and done by the bus. -/
theorem dataAccess_eq_ok {α : Type} (s : State) (store : Bool) (align : Nat) (va : Word)
    (k : PhysAddr → BitVec 3 → BusResult α) (a : α) (b : Bus) :
    dataAccess s store align va k = .ok a b ↔
      va.toNat % align = 0 ∧ ∃ pa c, s.translateData store va = .ok pa c ∧ s.watchHit store va = false ∧
        k pa c = .ok a b := by
  unfold dataAccess
  by_cases h : va.toNat % align = 0
  · rw [if_neg (by simp [h])]
    cases ht : s.translateData store va with
    | exc e => simp [h]
    | stop f => simp [h]
    | ok pa c =>
      dsimp only
      by_cases hw : s.watchHit store va = true
      · rw [if_pos hw]
        split <;> simp [h, hw]
      · rw [if_neg hw]
        simp only [h, true_and, Bool.not_eq_true] at hw ⊢
        constructor
        · intro hk
          refine ⟨pa, c, rfl, hw, ?_⟩
          cases hr : k pa c <;> rw [hr] at hk <;> simp_all [BusResult.toMem]
        · rintro ⟨pa', c', e, -, hk⟩
          cases e
          rw [hk]; rfl
  · rw [if_pos h]; simp [h]

/-- A misaligned data access raises an address error, before translation. -/
theorem dataAccess_misaligned {α : Type} (s : State) (store : Bool) (align : Nat) (va : Word)
    (k : PhysAddr → BitVec 3 → BusResult α) (h : va.toNat % align ≠ 0) :
    dataAccess s store align va k = .exc (.addressError store va) := if_pos h

theorem dataAccess_translated {α : Type} (s : State) (store : Bool) (align : Nat) (va : Word)
    (k : PhysAddr → BitVec 3 → BusResult α) (pa : PhysAddr) (c : BitVec 3) (h : va.toNat % align = 0)
    (ht : s.translateData store va = .ok pa c) (hw : s.watchHit store va = false) :
    dataAccess s store align va k = (k pa c).toMem := by
  simp [dataAccess, h, ht, hw]

/-- The exceptions of a translation surface as the exceptions of the access. -/
theorem dataAccess_exc {α : Type} (s : State) (store : Bool) (align : Nat) (va : Word)
    (k : PhysAddr → BitVec 3 → BusResult α) (e : Exc) (h : va.toNat % align = 0)
    (ht : s.translateData store va = .exc e) : dataAccess s store align va k = .exc e := by
  simp [dataAccess, h, ht]

@[simp] theorem MemResult.finish_ok {α : Type} (a : α) (b : Bus) (s : State) (k : α → State → Outcome) :
    (MemResult.ok a b).finish s k = k a { s with bus := b } := rfl

@[simp] theorem MemResult.finish_exc {α : Type} (e : Exc) (s : State) (k : α → State → Outcome) :
    (MemResult.exc e : MemResult α).finish s k = .next (enterException e s) := rfl

@[simp] theorem MemResult.finish_stop {α : Type} (f : Fault) (s : State) (k : α → State → Outcome) :
    (MemResult.stop f : MemResult α).finish s k = .fault f := rfl

/-- What a finished access can answer next: what follows it on the bus it answers, or its exception. -/
theorem MemResult.finish_eq_next {α : Type} (r : MemResult α) (s t : State) (k : α → State → Outcome) :
    r.finish s k = .next t ↔
      (∃ a b, r = .ok a b ∧ k a { s with bus := b } = .next t) ∨ (∃ e, r = .exc e ∧ t = enterException e s) := by
  cases r <;> simp [MemResult.finish, raise, eq_comm]

@[simp] theorem BusResult.toMem_ok {α : Type} (a : α) (b : Bus) : (BusResult.ok a b).toMem = .ok a b := rfl

theorem loadGpr_done {s : State} {base rt : RegNum} {offset : BitVec 16} {n : Nat} {ext : Word → Word} {v : Word}
    {b : Bus} (hr : rt ≠ 0#5) (ha : s.CanAdvance) (h : loadData s (s.effectiveAddress base offset) n = .ok v b) :
    loadGpr s base rt offset n ext = .next (({ s with bus := b } : State).writeGpr rt (ext v)).after := by
  unfold loadGpr
  rw [if_neg hr, h]
  exact finishGpr_of_canAdvance _ _ (ha.congr rfl rfl)

/-- What a prefetch can do to the bus: nothing, or the fill of a cached line. -/
theorem State.prefetch_cases (s : State) (va : Word) :
    s.prefetch va = s.bus ∨
      ∃ pa k, s.translateData false va = .ok pa 3#3 ∧ s.bus.fillD s.seq va pa = .ok k (s.prefetch va) := by
  unfold State.prefetch
  split
  · split
    · rename_i pa c ht
      split
      · rename_i hc
        have hc3 : c = 3#3 := by
          unfold attrOf at hc
          split at hc
          · assumption
          · split at hc <;> cases hc
        split
        · rename_i k b hf
          exact .inr ⟨pa, k, by rw [ht, hc3], hf⟩
        · exact .inl rfl
      · exact .inl rfl
    · exact .inl rfl
  · exact .inl rfl

/-- What a load to register 0 can do: stop where its translation stops, else change nothing but the bus, as a prefetch does
(R119, R141, R201). -/
theorem loadToZero_cases {s : State} (va : Word) (ha : s.CanAdvance) :
    (∃ f, s.translateData false va = .stop f ∧ loadToZero s va = .fault f) ∨
      (∀ f, s.translateData false va ≠ .stop f) ∧
        loadToZero s va = .next ({ s with bus := s.prefetch va } : State).after := by
  have done := advance_of_canAdvance (s := { s with bus := s.prefetch va }) (ha.congr rfl rfl)
  unfold loadToZero
  cases ht : s.translateData false va with
  | stop f => exact .inl ⟨f, rfl, rfl⟩
  | ok pa c => exact .inr ⟨nofun, done⟩
  | exc e => exact .inr ⟨nofun, done⟩

/-- A load to register 0 is one of them. -/
theorem loadGpr_zero (s : State) (base : RegNum) (offset : BitVec 16) (n : Nat) (ext : Word → Word) :
    loadGpr s base 0#5 offset n ext = loadToZero s (s.effectiveAddress base offset) := rfl

theorem storeWord_done {s : State} {base : RegNum} {offset : BitVec 16} {n : Nat} {v : Word} {b : Bus}
    (ha : s.CanAdvance) (h : storeData s (s.effectiveAddress base offset) n v = .ok () b) :
    storeWord s base offset n v = .next ({ s with bus := b } : State).after := by
  unfold storeWord
  rw [h]
  exact advance_of_canAdvance (ha.congr rfl rfl)

/-- A load keeps the canonical forms. -/
theorem loadData_canonical {s : State} (h : s.bus.Canonical) (va : Word) (n : Nat) (v : Word) (b : Bus)
    (e : loadData s va n = .ok v b) : b.Canonical := by
  obtain ⟨-, pa, c, -, -, hk⟩ := (dataAccess_eq_ok s false n va _ v b).1 e
  exact h.dataRead _ _ _ _ _ v b hk

/-- A store keeps the canonical forms. -/
theorem storeData_canonical {s : State} (h : s.bus.Canonical) (va : Word) (n : Nat) (w : Word) (b : Bus)
    (e : storeData s va n w = .ok () b) : b.Canonical := by
  obtain ⟨-, pa, c, -, -, hk⟩ := (dataAccess_eq_ok s true n va _ () b).1 e
  exact h.dataWrite _ _ _ _ _ _ () b hk

/-- A CACHE operation on a cacheable address, where it is usable. -/
theorem cacheOp_done {s : State} {base : RegNum} {offset : BitVec 16} {relaxed : Bool} {m : Mode} {pa : PhysAddr}
    (k : Word → PhysAddr → Outcome) (hm : modeOf s.cp0.status = some m) (hu : cacheUsableIn m s.cp0 relaxed = true)
    (ht : s.translateData false (s.effectiveAddress base offset) = .ok pa 3#3) :
    cacheOp s base offset relaxed k = k (s.effectiveAddress base offset) pa := by
  simp [cacheOp, hm, hu, ht]

/-! Uncached accesses to memory. -/

/-- With the gather buffer empty, no dirty copy and no cached access since the last writeback-invalidate, an uncached read
of memory is the bytes of memory. -/
theorem Bus.uncachedRead_ram {b : Bus} (q : Nat) (pa : PhysAddr) (n : Nat) (hu : b.uca = none)
    (hr : b.regionOf pa.toNat = .ram) (hc : b.dirtyCopy pa = none) (hh : (b.historyOf (lineNumber pa)).cached = false) :
    b.uncachedRead q pa n = .ok (BitVec.ofNat 64 (memRead b.mem pa.toNat n)) (b.usedUncached pa) := by
  simp [Bus.uncachedRead, Bus.drain, hu, BusResult.andThen, Bus.physRead, hr, Bus.upToDate, hc, hh]

/-- With no cached copy, an uncached write to memory writes the bytes of memory. -/
theorem Bus.uncachedWrite_ram {b : Bus} (q : Nat) (pa : PhysAddr) (n : Nat) (v : Word)
    (hr : b.regionOf pa.toNat = .ram) (hc : b.dataCached pa = false) :
    b.uncachedWrite q pa n v = .ok ()
      { b.storedUncached pa (linePut · (lineOffset pa) n v) with mem := memWrite b.mem pa.toNat n v.toNat } := by
  have hr' : (b.storedUncached pa (linePut · (lineOffset pa) n v)).regionOf pa.toNat = .ram := hr
  have hc' (m : Memory) :
      Bus.dataCached { b.storedUncached pa (linePut · (lineOffset pa) n v) with mem := m } pa = false := hc
  unfold Bus.uncachedWrite Bus.writePast Bus.physWrite
  rw [hr']
  simp only [BusResult.andThen, Bus.passCopies_uncached (hc' _)]
  rfl

end Sys2Proof.Machine
end

