-- ==== Sys2Proof/Laws/Decode.lean ====
section
/-! SUPPORT. The fields of the encoded formats, and the bytes of a word. -/

namespace Sys2Proof

/-! The fields of `rWord`. -/

@[simp] theorem opField_rWord (op : BitVec 6) (rs rt rd sa : RegNum) (funct : BitVec 6) : opField (rWord op rs rt rd sa funct) = op := by
  simp only [opField, rWord]
  ext i hi
  simp only [BitVec.getElem_extractLsb', BitVec.getLsbD_append]
  repeat (first | rw [if_pos (by omega)] | rw [if_neg (by omega)])
  rw [← BitVec.getLsbD_eq_getElem hi]
  congr 1
  omega

@[simp] theorem rsField_rWord (op : BitVec 6) (rs rt rd sa : RegNum) (funct : BitVec 6) : rsField (rWord op rs rt rd sa funct) = rs := by
  simp only [rsField, rWord]
  ext i hi
  simp only [BitVec.getElem_extractLsb', BitVec.getLsbD_append]
  repeat (first | rw [if_pos (by omega)] | rw [if_neg (by omega)])
  rw [← BitVec.getLsbD_eq_getElem hi]
  congr 1
  omega

@[simp] theorem rtField_rWord (op : BitVec 6) (rs rt rd sa : RegNum) (funct : BitVec 6) : rtField (rWord op rs rt rd sa funct) = rt := by
  simp only [rtField, rWord]
  ext i hi
  simp only [BitVec.getElem_extractLsb', BitVec.getLsbD_append]
  repeat (first | rw [if_pos (by omega)] | rw [if_neg (by omega)])
  rw [← BitVec.getLsbD_eq_getElem hi]
  congr 1
  omega

@[simp] theorem rdField_rWord (op : BitVec 6) (rs rt rd sa : RegNum) (funct : BitVec 6) : rdField (rWord op rs rt rd sa funct) = rd := by
  simp only [rdField, rWord]
  ext i hi
  simp only [BitVec.getElem_extractLsb', BitVec.getLsbD_append]
  repeat (first | rw [if_pos (by omega)] | rw [if_neg (by omega)])
  rw [← BitVec.getLsbD_eq_getElem hi]
  congr 1
  omega

@[simp] theorem saField_rWord (op : BitVec 6) (rs rt rd sa : RegNum) (funct : BitVec 6) : saField (rWord op rs rt rd sa funct) = sa := by
  simp only [saField, rWord]
  ext i hi
  simp only [BitVec.getElem_extractLsb', BitVec.getLsbD_append]
  repeat (first | rw [if_pos (by omega)] | rw [if_neg (by omega)])
  rw [← BitVec.getLsbD_eq_getElem hi]
  congr 1
  omega

@[simp] theorem functField_rWord (op : BitVec 6) (rs rt rd sa : RegNum) (funct : BitVec 6) : functField (rWord op rs rt rd sa funct) = funct := by
  simp only [functField, rWord]
  ext i hi
  simp only [BitVec.getElem_extractLsb', BitVec.getLsbD_append]
  repeat rw [if_pos (by omega)]
  rw [← BitVec.getLsbD_eq_getElem hi]
  congr 1
  omega

/-! The fields of `iWord`. -/

@[simp] theorem opField_iWord (op : BitVec 6) (rs rt : RegNum) (imm : BitVec 16) : opField (iWord op rs rt imm) = op := by
  simp only [opField, iWord]
  ext i hi
  simp only [BitVec.getElem_extractLsb', BitVec.getLsbD_append]
  repeat (first | rw [if_pos (by omega)] | rw [if_neg (by omega)])
  rw [← BitVec.getLsbD_eq_getElem hi]
  congr 1
  omega

@[simp] theorem rsField_iWord (op : BitVec 6) (rs rt : RegNum) (imm : BitVec 16) : rsField (iWord op rs rt imm) = rs := by
  simp only [rsField, iWord]
  ext i hi
  simp only [BitVec.getElem_extractLsb', BitVec.getLsbD_append]
  repeat (first | rw [if_pos (by omega)] | rw [if_neg (by omega)])
  rw [← BitVec.getLsbD_eq_getElem hi]
  congr 1
  omega

@[simp] theorem rtField_iWord (op : BitVec 6) (rs rt : RegNum) (imm : BitVec 16) : rtField (iWord op rs rt imm) = rt := by
  simp only [rtField, iWord]
  ext i hi
  simp only [BitVec.getElem_extractLsb', BitVec.getLsbD_append]
  repeat (first | rw [if_pos (by omega)] | rw [if_neg (by omega)])
  rw [← BitVec.getLsbD_eq_getElem hi]
  congr 1
  omega

@[simp] theorem immField_iWord (op : BitVec 6) (rs rt : RegNum) (imm : BitVec 16) : immField (iWord op rs rt imm) = imm := by
  simp only [immField, iWord]
  ext i hi
  simp only [BitVec.getElem_extractLsb', BitVec.getLsbD_append]
  repeat rw [if_pos (by omega)]
  rw [← BitVec.getLsbD_eq_getElem hi]
  congr 1
  omega

/-! The fields of `jWord`. -/

@[simp] theorem opField_jWord (op : BitVec 6) (target : BitVec 26) : opField (jWord op target) = op := by
  simp only [opField, jWord]
  ext i hi
  simp only [BitVec.getElem_extractLsb', BitVec.getLsbD_append]
  repeat (first | rw [if_pos (by omega)] | rw [if_neg (by omega)])
  rw [← BitVec.getLsbD_eq_getElem hi]
  congr 1
  omega

@[simp] theorem targetField_jWord (op : BitVec 6) (target : BitVec 26) : targetField (jWord op target) = target := by
  simp only [targetField, jWord]
  ext i hi
  simp only [BitVec.getElem_extractLsb', BitVec.getLsbD_append]
  repeat rw [if_pos (by omega)]
  rw [← BitVec.getLsbD_eq_getElem hi]
  congr 1
  omega

/-! The fields of `codeWord`. -/

@[simp] theorem opField_codeWord (op : BitVec 6) (code : BitVec 20) (funct : BitVec 6) : opField (codeWord op code funct) = op := by
  simp only [opField, codeWord]
  ext i hi
  simp only [BitVec.getElem_extractLsb', BitVec.getLsbD_append]
  repeat (first | rw [if_pos (by omega)] | rw [if_neg (by omega)])
  rw [← BitVec.getLsbD_eq_getElem hi]
  congr 1
  omega

@[simp] theorem codeField_codeWord (op : BitVec 6) (code : BitVec 20) (funct : BitVec 6) : codeField (codeWord op code funct) = code := by
  simp only [codeField, codeWord]
  ext i hi
  simp only [BitVec.getElem_extractLsb', BitVec.getLsbD_append]
  repeat (first | rw [if_pos (by omega)] | rw [if_neg (by omega)])
  rw [← BitVec.getLsbD_eq_getElem hi]
  congr 1
  omega

@[simp] theorem functField_codeWord (op : BitVec 6) (code : BitVec 20) (funct : BitVec 6) : functField (codeWord op code funct) = funct := by
  simp only [functField, codeWord]
  ext i hi
  simp only [BitVec.getElem_extractLsb', BitVec.getLsbD_append]
  repeat rw [if_pos (by omega)]
  rw [← BitVec.getLsbD_eq_getElem hi]
  congr 1
  omega

/-! The fields of `trapWord`. -/

@[simp] theorem opField_trapWord (op : BitVec 6) (rs rt : RegNum) (code : BitVec 10) (funct : BitVec 6) : opField (trapWord op rs rt code funct) = op := by
  simp only [opField, trapWord]
  ext i hi
  simp only [BitVec.getElem_extractLsb', BitVec.getLsbD_append]
  repeat (first | rw [if_pos (by omega)] | rw [if_neg (by omega)])
  rw [← BitVec.getLsbD_eq_getElem hi]
  congr 1
  omega

@[simp] theorem rsField_trapWord (op : BitVec 6) (rs rt : RegNum) (code : BitVec 10) (funct : BitVec 6) : rsField (trapWord op rs rt code funct) = rs := by
  simp only [rsField, trapWord]
  ext i hi
  simp only [BitVec.getElem_extractLsb', BitVec.getLsbD_append]
  repeat (first | rw [if_pos (by omega)] | rw [if_neg (by omega)])
  rw [← BitVec.getLsbD_eq_getElem hi]
  congr 1
  omega

@[simp] theorem rtField_trapWord (op : BitVec 6) (rs rt : RegNum) (code : BitVec 10) (funct : BitVec 6) : rtField (trapWord op rs rt code funct) = rt := by
  simp only [rtField, trapWord]
  ext i hi
  simp only [BitVec.getElem_extractLsb', BitVec.getLsbD_append]
  repeat (first | rw [if_pos (by omega)] | rw [if_neg (by omega)])
  rw [← BitVec.getLsbD_eq_getElem hi]
  congr 1
  omega

@[simp] theorem trapCodeField_trapWord (op : BitVec 6) (rs rt : RegNum) (code : BitVec 10) (funct : BitVec 6) : trapCodeField (trapWord op rs rt code funct) = code := by
  simp only [trapCodeField, trapWord]
  ext i hi
  simp only [BitVec.getElem_extractLsb', BitVec.getLsbD_append]
  repeat (first | rw [if_pos (by omega)] | rw [if_neg (by omega)])
  rw [← BitVec.getLsbD_eq_getElem hi]
  congr 1
  omega

@[simp] theorem functField_trapWord (op : BitVec 6) (rs rt : RegNum) (code : BitVec 10) (funct : BitVec 6) : functField (trapWord op rs rt code funct) = funct := by
  simp only [functField, trapWord]
  ext i hi
  simp only [BitVec.getElem_extractLsb', BitVec.getLsbD_append]
  repeat rw [if_pos (by omega)]
  rw [← BitVec.getLsbD_eq_getElem hi]
  congr 1
  omega

/-- The bytes of a word give the word back. -/
@[simp] theorem wordOfBytes_bytesOfWord (w : BitVec 32) :
    wordOfBytes (w.extractLsb' 0 8) (w.extractLsb' 8 8) (w.extractLsb' 16 8) (w.extractLsb' 24 8) = w := by
  unfold wordOfBytes
  ext i hi
  simp only [BitVec.getElem_append, BitVec.getElem_extractLsb']
  split_ifs <;> (rw [← BitVec.getLsbD_eq_getElem hi]; congr 1; omega)

/-- The byte decoder reads a word laid out as memory holds it. -/
theorem decodeBytes_bytesOfWord (w : BitVec 32) (rest : List Byte) :
    decodeBytes (bytesOfWord w ++ rest) = (decode w).map fun i => (i, rest) := by
  simp only [bytesOfWord, List.cons_append, List.nil_append, decodeBytes, wordOfBytes_bytesOfWord]
  cases decode w <;> rfl

end Sys2Proof
end

