-- ==== Sys2Proof/Laws/Invariant.lean ====
section
/-! SUPPORT. The shared operations keep the invariant `State.Inv`. -/

namespace Sys2Proof.Machine

/-- Every next state an outcome answers satisfies the invariant. -/
def KeepsInv (o : Outcome) : Prop := ∀ t, o = .next t → t.Inv

theorem KeepsInv.next {t : State} (h : t.Inv) : KeepsInv (.next t) := by intro t' e; cases e; exact h
theorem KeepsInv.fault {f : Fault} : KeepsInv (.fault f) := by intro t e; cases e
theorem KeepsInv.refused {r : Refusal} : KeepsInv (.refused r) := by intro t e; cases e

theorem KeepsInv.ite {c : Prop} [Decidable c] {a b : Outcome} (ha : KeepsInv a) (hb : KeepsInv b) :
    KeepsInv (if c then a else b) := by split <;> assumption

/-- The invariant reads only the bus, the CP0 registers and FCSR. -/
theorem State.Inv.congr {s t : State} (h : s.Inv) (h1 : t.bus = s.bus) (h2 : t.cp0 = s.cp0) (h3 : t.fcsr = s.fcsr) :
    t.Inv := by
  unfold State.Inv; rw [h1, h2, h3]; exact h

theorem State.Inv.withBus {s : State} (h : s.Inv) {b : Bus} (hb : b.Canonical) : State.Inv { s with bus := b } :=
  ⟨hb, h.2⟩

theorem State.Inv.writeGpr {s : State} (h : s.Inv) (r : RegNum) (v : Word) : (s.writeGpr r v).Inv :=
  h.congr (by simp) (by simp) (by simp)

theorem State.Inv.writeFpr {s : State} (h : s.Inv) (f : RegNum) (v : Word) : (s.writeFpr f v).Inv :=
  h.congr (by simp) (by simp) (by simp)

theorem State.Inv.writeFpr32 {s : State} (h : s.Inv) (f : RegNum) (v : BitVec 32) : (s.writeFpr32 f v).Inv :=
  h.congr (by simp) (by simp) (by simp)

theorem State.Inv.setHiLo {s : State} (h : s.Inv) (a b : Word) : (s.setHiLo a b).Inv :=
  h.congr (by simp) (by simp) (by simp)

/-! Masks. -/

/-- A value cut to a mask has no bit outside it. -/
theorem and_mask_outside {w : Nat} (x m : BitVec w) : (x &&& m) &&& ~~~m = 0#w := by
  rw [BitVec.and_assoc]; simp

/-- Setting bits inside a mask sets none outside it. -/
theorem or_outside {w : Nat} (x y m : BitVec w) (h : x &&& ~~~m = 0#w) (hy : y &&& ~~~m = 0#w) :
    (x ||| y) &&& ~~~m = 0#w := by
  ext i hi
  have h1 := congrArg (fun v => v[i]) h
  have h2 := congrArg (fun v => v[i]) hy
  simp only [BitVec.getElem_and, BitVec.getElem_or, BitVec.getElem_zero] at h1 h2 ⊢
  rw [Bool.and_or_distrib_right, h1, h2]; rfl

/-- Cutting a value leaves no bit where there was none. -/
theorem and_outside {w : Nat} (x y m : BitVec w) (h : x &&& ~~~m = 0#w) : (x &&& y) &&& ~~~m = 0#w := by
  ext i hi
  have h1 := congrArg (fun v => v[i]) h
  simp only [BitVec.getElem_and, BitVec.getElem_zero] at h1 ⊢
  rw [Bool.and_right_comm, h1]; rfl

/-! Exceptions. -/

theorem Cp0.ReservedZero.congr {c d : Cp0} (h : c.ReservedZero) (h1 : d.index = c.index) (h2 : d.entryLo0 = c.entryLo0)
    (h3 : d.entryLo1 = c.entryLo1) (h4 : d.pageMask = c.pageMask) (h5 : d.entryHi = c.entryHi)
    (h6 : d.status = c.status) (h7 : d.watch = c.watch) (h8 : d.context = c.context) (h9 : d.xcontext = c.xcontext)
    (h10 : d.diagnostic = c.diagnostic) (h11 : d.perfCtrl = c.perfCtrl) (h12 : d.cause = c.cause) : d.ReservedZero := by
  unfold Cp0.ReservedZero; rw [h1, h2, h3, h4, h5, h6, h7, h8, h9, h10, h11, h12]; exact h

theorem Cp0.ReservedZero.status {c : Cp0} (h : c.ReservedZero) : c.status &&& ~~~0xF5D0FF1F#32 = 0#32 := h.2.2.2.2.2.1

theorem Cp0.ReservedZero.cause {c : Cp0} (h : c.ReservedZero) : c.cause &&& ~~~0xB000037C#32 = 0#32 :=
  h.2.2.2.2.2.2.2.2.2.2.2

/-- Status and Cause replaced, with the addresses an exception or an error saves, which have no reserved bit. -/
theorem Cp0.ReservedZero.withStatus {c : Cp0} (h : c.ReservedZero) (st ca : BitVec 32) (bad epc err : BitVec 64)
    (hs : st &&& ~~~0xF5D0FF1F#32 = 0#32) (hc : ca &&& ~~~0xB000037C#32 = 0#32) :
    Cp0.ReservedZero { c with status := st, cause := ca, badVAddr := bad, epc := epc, errorEpc := err } := by
  obtain ⟨h1, h2, h3, h4, h5, -, h7, h8, h9, h10, h11, -⟩ := h
  exact ⟨h1, h2, h3, h4, h5, hs, h7, h8, h9, h10, h11, hc⟩

/-- A register merged from its old content inside the reserved zeros and a field set above them. -/
theorem shifted_low_zero (x m : BitVec 64) (hm : m &&& 0xF#64 = 0#64) (y : BitVec 64) (n : Nat) (hn : 4 ≤ n) :
    ((x &&& m) ||| (y <<< n)) &&& 0xF#64 = 0#64 := by
  ext i hi
  have h1 := congrArg (fun v => v[i]) hm
  simp only [BitVec.getElem_and, BitVec.getElem_or, BitVec.getElem_zero, BitVec.getElem_shiftLeft] at h1 ⊢
  by_cases h4 : i < n
  · simp [h4, Bool.and_assoc, h1]
  · have : (0xF#64)[i] = false := by
      rw [show (0xF#64) = (0xF#4).setWidth 64 from by decide, BitVec.getElem_setWidth, BitVec.getLsbD_of_ge _ _ (by omega)]
    simp [this]

theorem recordTlbAddress_reservedZero {c : Cp0} (h : c.ReservedZero) (q : Nat) (va : Word) :
    (recordTlbAddress c q va).ReservedZero := by
  obtain ⟨h1, -, -, h4, -, h6, h7, -, -, h10, h11, h12⟩ := h
  refine ⟨h1, and_mask_outside _ _, and_mask_outside _ _, h4, ?_, h6, h7, ?_, ?_, h10, h11, h12⟩
  · refine or_outside _ _ _ ?_ ?_
    · rw [BitVec.and_assoc, show (0xC00000FFFFFFE000#64 &&& ~~~0xC00000FFFFFFE0FF#64) = 0#64 from by decide]; simp
    · rw [BitVec.and_assoc, show (0xFF#64 &&& ~~~0xC00000FFFFFFE0FF#64) = 0#64 from by decide]; simp
  · exact shifted_low_zero _ _ (by decide) _ 4 (le_refl 4)
  · have e := or_outside ((c.xcontext &&& 0xFFFFFFFE00000000#64) ||| ((va.extractLsb' 62 2).setWidth 64 <<< 31))
      ((va.extractLsb' 13 27).setWidth 64 <<< 4) (~~~0xF#64)
    rw [BitVec.not_not] at e
    refine e (shifted_low_zero _ _ (by decide) _ 31 (by omega)) ?_
    simpa using shifted_low_zero 0#64 0#64 (by decide) ((va.extractLsb' 13 27).setWidth 64) 4 (le_refl 4)

theorem recordAddress_reservedZero {c : Cp0} (h : c.ReservedZero) (q : Nat) (e : Exc) :
    (recordAddress c q e).ReservedZero := by
  have hb (va : Word) : Cp0.ReservedZero { c with badVAddr := va } := h.congr rfl rfl rfl rfl rfl rfl rfl rfl rfl rfl rfl rfl
  unfold recordAddress
  cases e <;> first
    | exact recordTlbAddress_reservedZero (hb _) _ _
    | exact hb _

@[simp] theorem recordAddress_wired (c : Cp0) (q : Nat) (e : Exc) : (recordAddress c q e).wired = c.wired := by
  cases e <;> rfl
@[simp] theorem recordAddress_random (c : Cp0) (q : Nat) (e : Exc) : (recordAddress c q e).random = c.random := by
  cases e <;> rfl
@[simp] theorem recordAddress_status (c : Cp0) (q : Nat) (e : Exc) : (recordAddress c q e).status = c.status := by
  cases e <;> rfl

/-- The stored Cause of an exception has no reserved bit. -/
theorem causeWith_reserved (cause : BitVec 32) (bd : Bool) (ce : BitVec 2) (code : BitVec 5) :
    causeWith cause bd ce code &&& ~~~0xB000037C#32 = 0#32 := by
  refine or_outside _ _ _ (or_outside _ _ _ (or_outside _ _ _ ?_ ?_) ?_) ?_
  · rw [BitVec.and_assoc, show (0x00000300#32 &&& ~~~0xB000037C#32) = 0#32 from by decide]; simp
  · revert bd; decide
  · revert ce; decide
  · revert code; decide

theorem enterException_inv {s : State} (h : s.Inv) (e : Exc) : (enterException e s).Inv := by
  refine ⟨h.1, ?_, ?_, h.2.2.2⟩
  · exact (recordAddress_reservedZero h.2.1 s.seq e).withStatus _ _ _ _ _
      (or_outside _ _ _ h.2.1.status (by decide)) (causeWith_reserved ..)
  · simpa [enterException] using h.2.2.1

theorem raise_keeps {s : State} (h : s.Inv) (e : Exc) : KeepsInv (raise e s) := .next (enterException_inv h e)

theorem returnFromException_inv {s : State} (h : s.Inv) : (returnFromException s).Inv := by
  refine ⟨h.1, h.2.1.withStatus _ _ _ _ _ ?_ h.2.1.cause, h.2.2.1, h.2.2.2⟩
  split <;> exact and_outside _ _ _ h.2.1.status

/-! Completing. -/

theorem advance_keeps {s : State} (h : s.Inv) : KeepsInv (advance s) := by
  intro t e
  obtain ⟨-, rfl⟩ := (advance_eq_next s t).1 e
  exact h

theorem finishGpr_keeps {s : State} (h : s.Inv) (r : RegNum) (v : Word) : KeepsInv (finishGpr s r v) :=
  advance_keeps (h.writeGpr r v)

theorem takeBranch_keeps {s : State} (h : s.Inv) (target : Word) : KeepsInv (takeBranch s target) := by
  intro t e; obtain ⟨-, rfl⟩ := (takeBranch_eq_next s t target).1 e; exact h

theorem fallThrough_keeps {s : State} (h : s.Inv) : KeepsInv (fallThrough s) := takeBranch_keeps h _

theorem skipSlot_keeps {s : State} (h : s.Inv) : KeepsInv (skipSlot s) := KeepsInv.ite .fault (.next h)

theorem outsideSlot_keeps {s : State} {k : Outcome} (h : KeepsInv k) : KeepsInv (outsideSlot s k) :=
  KeepsInv.ite .refused h

theorem branchIf_keeps {s : State} (h : s.Inv) (c : Bool) (imm : BitVec 16) : KeepsInv (branchIf s c imm) :=
  outsideSlot_keeps (KeepsInv.ite (takeBranch_keeps h _) (fallThrough_keeps h))

theorem branchLikelyIf_keeps {s : State} (h : s.Inv) (c : Bool) (imm : BitVec 16) :
    KeepsInv (branchLikelyIf s c imm) := outsideSlot_keeps (KeepsInv.ite (takeBranch_keeps h _) (skipSlot_keeps h))

theorem linkingBranch_keeps {s : State} (h : s.Inv) (rs : RegNum) {k : State → Outcome}
    (hk : ∀ t, t.Inv → KeepsInv (k t)) : KeepsInv (linkingBranch s rs k) :=
  KeepsInv.ite .refused (hk _ (h.writeGpr _ _))

theorem trapIf_keeps {s : State} (h : s.Inv) (c : Bool) : KeepsInv (trapIf s c) :=
  KeepsInv.ite (raise_keeps h _) (advance_keeps h)

theorem withCp0_keeps {s : State} (h : s.Inv) {k : Outcome} (hk : KeepsInv k) : KeepsInv (withCp0 s k) := by
  unfold withCp0
  split
  · exact .fault
  · exact KeepsInv.ite hk (raise_keeps h _)

theorem withCp1_keeps {s : State} (h : s.Inv) {k : Outcome} (hk : KeepsInv k) : KeepsInv (withCp1 s k) :=
  KeepsInv.ite hk (raise_keeps h _)

theorem withFpr64_keeps {s : State} {fs : List RegNum} {k : Outcome} (hk : KeepsInv k) : KeepsInv (withFpr64 s fs k) :=
  KeepsInv.ite hk .refused

/-! Floating point. -/

theorem fcsrSetCauses_reserved {f : BitVec 32} (c : FpCauses) (h : f &&& ~~~0x0383FFFF#32 = 0#32) :
    fcsrSetCauses f c &&& ~~~0x0383FFFF#32 = 0#32 := by
  refine or_outside _ _ _ (and_outside _ _ _ h) ?_
  rw [BitVec.and_assoc, show (0x0003F000#32 &&& ~~~0x0383FFFF#32) = 0#32 from by decide]; simp

theorem fcsrAddFlags_reserved {f : BitVec 32} (c : FpCauses) (h : f &&& ~~~0x0383FFFF#32 = 0#32) :
    fcsrAddFlags f c &&& ~~~0x0383FFFF#32 = 0#32 := by
  refine or_outside _ _ _ h ?_
  generalize c.setWidth 5 = d
  revert d; decide

theorem fcsrSetCc0_reserved {f : BitVec 32} (b : Bool) (h : f &&& ~~~0x0383FFFF#32 = 0#32) :
    fcsrSetCc0 f b &&& ~~~0x0383FFFF#32 = 0#32 := by
  refine or_outside _ _ _ (and_outside _ _ _ h) ?_
  rw [BitVec.and_assoc, show (0x00800000#32 &&& ~~~0x0383FFFF#32) = 0#32 from by decide]; simp

theorem fcsrSetCc1_reserved {f : BitVec 32} (b : Bool) (h : f &&& ~~~0x0383FFFF#32 = 0#32) :
    fcsrSetCc1 f b &&& ~~~0x0383FFFF#32 = 0#32 := by
  refine or_outside _ _ _ (and_outside _ _ _ h) ?_
  rw [BitVec.and_assoc, show (0x02000000#32 &&& ~~~0x0383FFFF#32) = 0#32 from by decide]; simp

theorem fpComplete_keeps {s : State} (h : s.Inv) (c : FpCauses) {k : State → Outcome}
    (hk : ∀ t, t.Inv → KeepsInv (k t)) : KeepsInv (fpComplete s c k) := by
  have hc : State.Inv { s with fcsr := fcsrSetCauses s.fcsr c } :=
    ⟨h.1, h.2.1, h.2.2.1, fcsrSetCauses_reserved c h.2.2.2⟩
  exact KeepsInv.ite (raise_keeps hc _) (hk _ ⟨h.1, h.2.1, h.2.2.1, fcsrAddFlags_reserved c hc.2.2.2⟩)

theorem fpFinishS_keeps {s : State} (h : s.Inv) (fd : RegNum) (r : FpResult) : KeepsInv (fpFinishS s fd r) :=
  fpComplete_keeps h _ fun _ ht => advance_keeps (ht.writeFpr32 _ _)

theorem fpFinishD_keeps {s : State} (h : s.Inv) (fd : RegNum) (r : FpResult) : KeepsInv (fpFinishD s fd r) :=
  fpComplete_keeps h _ fun _ ht => advance_keeps (ht.writeFpr _ _)

theorem fpFinishCompare_keeps {s : State} (h : s.Inv) (i : Bool) (u : BitVec 32 → BitVec 32)
    (hu : ∀ f, f &&& ~~~0x0383FFFF#32 = 0#32 → u f &&& ~~~0x0383FFFF#32 = 0#32) :
    KeepsInv (fpFinishCompare s i u) :=
  fpComplete_keeps h _ fun _ ht => advance_keeps ⟨ht.1, ht.2.1, ht.2.2.1, hu _ ht.2.2.2⟩

theorem fpCompareValues_keeps {s : State} (h : s.Inv) (cond : BitVec 4) (a b : FpValue) :
    KeepsInv (fpCompareValues s cond a b) := fpFinishCompare_keeps h _ _ fun _ hf => fcsrSetCc0_reserved _ hf

theorem fpCompareS_keeps {s : State} (h : s.Inv) (cond : BitVec 4) (ft fs : RegNum) :
    KeepsInv (fpCompareS s cond ft fs) := withCp1_keeps h (fpCompareValues_keeps h _ _ _)

theorem fpCompareD_keeps {s : State} (h : s.Inv) (cond : BitVec 4) (ft fs : RegNum) :
    KeepsInv (fpCompareD s cond ft fs) := withCp1_keeps h (withFpr64_keeps (fpCompareValues_keeps h _ _ _))

theorem fpComparePs_keeps {s : State} (h : s.Inv) (cond : BitVec 4) (ft fs : RegNum) :
    KeepsInv (fpComparePs s cond ft fs) :=
  withCp1_keeps h (withFpr64_keeps (fpFinishCompare_keeps h _ _ fun _ hf =>
    fcsrSetCc1_reserved _ (fcsrSetCc0_reserved _ hf)))

/-! Memory. -/

theorem BusResult.toMem_eq_ok {α : Type} (r : BusResult α) (a : α) (b : Bus) : r.toMem = .ok a b ↔ r = .ok a b := by
  cases r <;> simp [BusResult.toMem]

theorem MemResult.finish_keeps {α : Type} {r : MemResult α} {s : State} {k : α → State → Outcome} (h : s.Inv)
    (hr : ∀ a b, r = .ok a b → b.Canonical) (hk : ∀ a t, t.Inv → KeepsInv (k a t)) : KeepsInv (r.finish s k) := by
  cases r with
  | ok a b => exact hk a _ (h.withBus (hr a b rfl))
  | exc e => exact raise_keeps h e
  | stop f => exact .fault

theorem dataAccess_canonical {α : Type} {s : State} {store : Bool} {align : Nat} {va : Word}
    {k : PhysAddr → BitVec 3 → BusResult α} (hk : ∀ pa c, (k pa c).Canon) (a : α) (b : Bus)
    (e : dataAccess s store align va k = .ok a b) : b.Canonical := by
  obtain ⟨-, pa, c, -, -, h⟩ := (dataAccess_eq_ok s store align va k a b).1 e
  exact hk pa c a b h

theorem loadToZero_keeps {s : State} (h : s.Inv) (va : Word) : KeepsInv (loadToZero s va) := by
  have hb : (s.prefetch va).Canonical := by
    rcases s.prefetch_cases va with e | ⟨pa, k, -, hf⟩
    · rw [e]; exact h.1
    · exact h.1.fillD _ _ _ k _ hf
  unfold loadToZero
  split
  · exact .fault
  · exact advance_keeps (h.withBus hb)

theorem loadGpr_keeps {s : State} (h : s.Inv) (base rt : RegNum) (offset : BitVec 16) (n : Nat) (ext : Word → Word) :
    KeepsInv (loadGpr s base rt offset n ext) :=
  KeepsInv.ite (loadToZero_keeps h _) (MemResult.finish_keeps h
    (dataAccess_canonical fun _ _ => h.1.dataRead _ _ _ _ _) fun _ _ ht => finishGpr_keeps ht _ _)

theorem storeWord_keeps {s : State} (h : s.Inv) (base : RegNum) (offset : BitVec 16) (n : Nat) (v : Word) :
    KeepsInv (storeWord s base offset n v) :=
  MemResult.finish_keeps h (dataAccess_canonical fun _ _ => h.1.dataWrite _ _ _ _ _ _) fun _ _ ht => advance_keeps ht

theorem linkedLoad_keeps {s : State} (h : s.Inv) (base rt : RegNum) (offset : BitVec 16) (n : Nat) (ext : Word → Word) :
    KeepsInv (linkedLoad s base rt offset n ext) :=
  KeepsInv.ite .refused (MemResult.finish_keeps h (dataAccess_canonical fun _ _ => h.1.dataRead _ _ _ _ _)
    fun _ t ht => finishGpr_keeps (ht.congr (t := { t with llbit := true }) rfl rfl rfl) _ _)

theorem conditionalStore_keeps {s : State} (h : s.Inv) (base rt : RegNum) (offset : BitVec 16) (n : Nat) :
    KeepsInv (conditionalStore s base rt offset n) := by
  refine MemResult.finish_keeps h (dataAccess_canonical fun _ _ => ?_)
    fun _ t ht => finishGpr_keeps (ht.congr (t := { t with llbit := false }) rfl rfl rfl) _ _
  split
  · exact h.1.dataWrite _ _ _ _ _ _
  · exact .ok h.1

theorem loadLeft_keeps {s : State} (h : s.Inv) (base rt : RegNum) (offset : BitVec 16) (size : Nat)
    (place : Nat → Word → Word → Word) : KeepsInv (loadLeft s base rt offset size place) :=
  KeepsInv.ite (loadToZero_keeps h _) (MemResult.finish_keeps h
    (dataAccess_canonical fun _ _ => h.1.dataRead _ _ _ _ _) fun _ _ ht => finishGpr_keeps ht _ _)

theorem loadRight_keeps {s : State} (h : s.Inv) (base rt : RegNum) (offset : BitVec 16) (size : Nat)
    (place : Nat → Word → Word → Word) : KeepsInv (loadRight s base rt offset size place) :=
  KeepsInv.ite (loadToZero_keeps h _) (MemResult.finish_keeps h
    (dataAccess_canonical fun _ _ => h.1.dataRead _ _ _ _ _) fun _ _ ht => finishGpr_keeps ht _ _)

theorem storeLeft_keeps {s : State} (h : s.Inv) (base rt : RegNum) (offset : BitVec 16) (size : Nat) :
    KeepsInv (storeLeft s base rt offset size) :=
  MemResult.finish_keeps h (dataAccess_canonical fun _ _ => h.1.dataWrite _ _ _ _ _ _) fun _ _ ht => advance_keeps ht

theorem storeRight_keeps {s : State} (h : s.Inv) (base rt : RegNum) (offset : BitVec 16) (size : Nat) :
    KeepsInv (storeRight s base rt offset size) :=
  MemResult.finish_keeps h (dataAccess_canonical fun _ _ => h.1.dataWrite _ _ _ _ _ _) fun _ _ ht => advance_keeps ht

theorem finishBus_keeps {s : State} (h : s.Inv) {b : Bus} (hb : b.Canonical) : KeepsInv (finishBus s b) :=
  advance_keeps (h.withBus hb)

/-- A bus operation that ends the instruction. -/
theorem finishUnit_keeps {s : State} (h : s.Inv) {r : BusResult Unit} (hr : r.Canon) :
    KeepsInv (r.toMem.finish s fun _ t => advance t) :=
  MemResult.finish_keeps h (fun a b e => hr a b ((BusResult.toMem_eq_ok r a b).1 e)) fun _ _ ht => advance_keeps ht

theorem cacheOp_keeps {s : State} (h : s.Inv) (base : RegNum) (offset : BitVec 16) (relaxed : Bool)
    {k : Word → PhysAddr → Outcome} (hk : ∀ va pa, KeepsInv (k va pa)) :
    KeepsInv (cacheOp s base offset relaxed k) := by
  unfold cacheOp
  split
  · exact .fault
  · refine KeepsInv.ite ?_ (raise_keeps h _)
    dsimp only
    split
    · exact raise_keeps h _
    · exact .fault
    · exact KeepsInv.ite (hk _ _) .fault

/-! CP0. -/

/-- A merge keeps the bits outside the mask that was zero there. -/
theorem mergeBits_outside {w : Nat} (mask old new m : BitVec w) (h : old &&& ~~~m = 0#w) (hm : mask &&& ~~~m = 0#w) :
    mergeBits mask old new &&& ~~~m = 0#w := by
  refine or_outside _ _ _ (and_outside _ _ _ h) ?_
  rw [BitVec.and_assoc, hm]; simp

theorem State.Inv.writeCp0 {s : State} (h : s.Inv) (n : RegNum) (v : Word) : (s.writeCp0 n v).Inv := by
  obtain ⟨hb, hr, hw, hf⟩ := h
  obtain ⟨h1, h2, h3, h4, h5, h6, h7, h8, h9, h10, h11, h12⟩ := hr
  unfold State.writeCp0
  dsimp only
  split
  case _ => exact ⟨hb, ⟨and_mask_outside _ _, h2, h3, h4, h5, h6, h7, h8, h9, h10, h11, h12⟩, hw, hf⟩
  case _ => exact ⟨hb, ⟨h1, and_mask_outside _ _, h3, h4, h5, h6, h7, h8, h9, h10, h11, h12⟩, hw, hf⟩
  case _ => exact ⟨hb, ⟨h1, h2, and_mask_outside _ _, h4, h5, h6, h7, h8, h9, h10, h11, h12⟩, hw, hf⟩
  case _ =>
    refine ⟨hb, ⟨h1, h2, h3, h4, h5, h6, h7, ?_, h9, h10, h11, h12⟩, hw, hf⟩
    exact mergeBits_outside _ _ _ (~~~0xF#64) h8 (by decide)
  case _ => exact ⟨hb, ⟨h1, h2, h3, and_mask_outside _ _, h5, h6, h7, h8, h9, h10, h11, h12⟩, hw, hf⟩
  case _ =>
    refine ⟨hb, ⟨h1, h2, h3, h4, h5, h6, h7, h8, h9, h10, h11, h12⟩, ?_, hf⟩
    have := ((low32 v).setWidth 6).isLt
    rw [BitVec.le_def]; show _ ≤ 63; omega
  case _ => exact ⟨hb, ⟨h1, h2, h3, h4, h5, h6, h7, h8, h9, h10, h11, h12⟩, hw, hf⟩
  case _ => exact ⟨hb, ⟨h1, h2, h3, h4, and_mask_outside _ _, h6, h7, h8, h9, h10, h11, h12⟩, hw, hf⟩
  case _ => exact ⟨hb, ⟨h1, h2, h3, h4, h5, h6, h7, h8, h9, h10, h11, h12⟩, hw, hf⟩
  case _ => exact ⟨hb, ⟨h1, h2, h3, h4, h5, and_mask_outside _ _, h7, h8, h9, h10, h11, h12⟩, hw, hf⟩
  case _ => exact ⟨hb, ⟨h1, h2, h3, h4, h5, h6, h7, h8, h9, h10, h11, mergeBits_outside _ _ _ _ h12 (by decide)⟩, hw, hf⟩
  case _ => exact ⟨hb, ⟨h1, h2, h3, h4, h5, h6, h7, h8, h9, h10, h11, h12⟩, hw, hf⟩
  case _ => exact ⟨hb, ⟨h1, h2, h3, h4, h5, h6, h7, h8, h9, h10, h11, h12⟩, hw, hf⟩
  case _ =>
    refine ⟨hb, ⟨h1, h2, h3, h4, h5, h6, ?_, h8, h9, h10, h11, h12⟩, hw, hf⟩
    show (v &&& ~~~4#64) &&& 4#64 = 0#64
    rw [BitVec.and_assoc]; simp
  case _ =>
    refine ⟨hb, ⟨h1, h2, h3, h4, h5, h6, h7, h8, ?_, h10, h11, h12⟩, hw, hf⟩
    exact mergeBits_outside _ _ _ (~~~0xF#64) h9 (by decide)
  case _ => exact ⟨hb, ⟨h1, h2, h3, h4, h5, h6, h7, h8, h9, and_mask_outside _ _, h11, h12⟩, hw, hf⟩
  case _ => exact ⟨hb, ⟨h1, h2, h3, h4, h5, h6, h7, h8, h9, h10, and_mask_outside _ _, h12⟩, hw, hf⟩
  all_goals exact ⟨hb, ⟨h1, h2, h3, h4, h5, h6, h7, h8, h9, h10, h11, h12⟩, hw, hf⟩

theorem State.Inv.setIndex {s : State} (h : s.Inv) (v : BitVec 32) (hv : v &&& ~~~0x8000003F#32 = 0#32) :
    (s.setIndex v).Inv := ⟨h.1, ⟨hv, h.2.1.2⟩, h.2.2⟩

theorem State.Inv.setTags {s : State} (h : s.Inv) (v : Word) : (s.setTags v).Inv :=
  ⟨h.1, h.2.1.congr rfl rfl rfl rfl rfl rfl rfl rfl rfl rfl rfl rfl, h.2.2.1, h.2.2.2⟩

/-- Fields side by side have no bit outside their masks side by side. -/
theorem append_outside {w v : Nat} {a m : BitVec w} {b n : BitVec v} (ha : a &&& m = 0#w) (hb : b &&& n = 0#v) :
    (a ++ b) &&& (m ++ n) = 0#(w + v) := by
  rw [BitVec.and_append, ha, hb]; simp

/-- The EntryLo value of a page has no reserved bit: 10_state.md R28 draws bits 63:62 and 60:34 as zero. -/
theorem TlbPage.toEntryLo_reserved (p : TlbPage) (g : Bool) :
    p.toEntryLo g &&& ~~~0x20000003FFFFFFFF#64 = 0#64 := by
  have mask : ~~~0x20000003FFFFFFFF#64 =
      BitVec.allOnes 2 ++ 0#1 ++ BitVec.allOnes 27 ++ 0#28 ++ 0#3 ++ 0#1 ++ 0#1 ++ 0#1 := by decide
  rw [mask]
  have above : (0#2 ++ BitVec.ofBool p.e ++ 0#27) &&& (BitVec.allOnes 2 ++ 0#1 ++ BitVec.allOnes 27) = 0#30 :=
    append_outside (append_outside (by simp) (by simp)) (by simp)
  exact append_outside (append_outside (append_outside (append_outside (append_outside above (by simp)) (by simp))
    (by simp)) (by simp)) (by simp)

/-- The EntryHi value of an entry has no reserved bit: R34 draws bits 61:40 and 12:8 as zero. -/
theorem entryHi_reserved (r : BitVec 2) (v : BitVec 27) (a : BitVec 8) :
    (r ++ 0#22 ++ v ++ 0#5 ++ a) &&& ~~~0xC00000FFFFFFE0FF#64 = 0#64 := by
  have mask : ~~~0xC00000FFFFFFE0FF#64 = 0#2 ++ BitVec.allOnes 22 ++ 0#27 ++ BitVec.allOnes 5 ++ 0#8 := by decide
  rw [mask]
  have above : (r ++ 0#22 ++ v) &&& (0#2 ++ BitVec.allOnes 22 ++ 0#27) = 0#51 :=
    append_outside (append_outside (by simp) (by simp)) (by simp)
  exact append_outside (append_outside above (by simp)) (by simp)

theorem pageMask_reserved (m : BitVec 12) : (m.setWidth 32 <<< 13) &&& ~~~0x01FFE000#32 = 0#32 := by
  ext i hi
  simp only [BitVec.getElem_and, BitVec.getElem_shiftLeft, BitVec.getElem_setWidth, BitVec.getElem_zero]
  by_cases h1 : i < 13
  · simp [h1]
  · by_cases h2 : i - 13 < 12
    · have : i ∈ [13, 14, 15, 16, 17, 18, 19, 20, 21, 22, 23, 24] := by
        simp only [List.mem_cons, List.not_mem_nil, or_false]; omega
      have : (~~~0x01FFE000#32)[i] = false := by
        revert i; decide
      rw [this, Bool.and_false]
    · rw [BitVec.getLsbD_of_ge _ _ (by omega)]; simp

theorem State.Inv.readTlbEntry {s : State} (h : s.Inv) (e : TlbEntry) : (s.readTlbEntry e).Inv :=
  ⟨h.1, ⟨h.2.1.1, TlbPage.toEntryLo_reserved _ _, TlbPage.toEntryLo_reserved _ _, pageMask_reserved _,
    entryHi_reserved _ _ _, h.2.1.2.2.2.2.2⟩, h.2.2⟩

theorem writeTlbEntry_keeps {s : State} (h : s.Inv) (i : BitVec 6) : KeepsInv (s.writeTlbEntry i) := by
  unfold State.writeTlbEntry
  split
  · exact .fault
  · exact advance_keeps h

/-! Around an instruction. -/

theorem tickRandom_ge (w : BitVec 6) (q : Nat) : w ≤ tickRandom w q := by
  have hw := w.isLt
  have hm := Nat.mod_lt (Config.anyNat .random q) (show 0 < 64 - w.toNat by omega)
  rw [BitVec.le_def]
  unfold tickRandom
  rw [BitVec.toNat_ofNat, Nat.mod_eq_of_lt (by omega)]
  omega

theorem State.Inv.tick {s : State} (h : s.Inv) : s.tick.Inv :=
  ⟨h.1.recordPulses, h.2.1.congr rfl rfl rfl rfl rfl rfl rfl rfl rfl rfl rfl rfl, tickRandom_ge _ _, h.2.2.2⟩

theorem State.Inv.dropRequests {s : State} (h : s.Inv) : s.dropRequests.Inv :=
  ⟨h.1, h.2.1.congr rfl rfl rfl rfl rfl rfl rfl rfl rfl rfl rfl rfl, h.2.2⟩

theorem Cp0.reset_reservedZero : Cp0.reset.ReservedZero := by unfold Cp0.ReservedZero; decide

theorem State.Inv.coldReset {s : State} (h : s.Inv) : s.coldReset.Inv :=
  ⟨⟨h.1.1, SparseWf.nil _, SparseWf.nil _, SparseWf.nil _, SparseWf.nil _⟩,
    Cp0.reset_reservedZero.congr rfl rfl rfl rfl rfl rfl rfl rfl rfl rfl rfl rfl, show (0#6 : BitVec 6) ≤ 63#6 by decide,
    show (0#32 : BitVec 32) &&& ~~~0x0383FFFF#32 = 0#32 by decide⟩

theorem State.Inv.errorEntry {s : State} (h : s.Inv) : s.errorEntry.Inv :=
  ⟨h.1, h.2.1.withStatus _ _ _ _ _ (or_outside _ _ _ h.2.1.status (by decide)) h.2.1.cause, h.2.2⟩

theorem State.Inv.nmi {s : State} (h : s.Inv) : s.nmi.Inv := h.errorEntry

theorem State.Inv.softReset {s : State} (h : s.Inv) : s.softReset.Inv :=
  State.Inv.dropRequests (h.errorEntry.withBus h.1)

theorem State.Inv.sampleInterrupt {s : State} (h : s.Inv) :
    ∃ t, t.Inv ∧ (s.sampleInterrupt = .event t ∨ s.sampleInterrupt = .run t) := by
  have hw (o : Option Nat) : State.Inv { s with irqWait := o } := h
  unfold State.sampleInterrupt
  split
  · split
    · exact ⟨_, enterException_inv (hw none) _, .inl rfl⟩
    · exact ⟨_, hw _, .inr rfl⟩
  · exact ⟨_, hw _, .inr rfl⟩

/-- The states the boundary answers keep the invariant. -/
theorem State.Inv.boundary {s : State} (h : s.Inv) :
    (∃ t, t.Inv ∧ (s.boundary = .event t ∨ s.boundary = .run t)) ∨ s.boundary = .stop .ksuReserved := by
  unfold State.boundary
  split
  · exact .inl ⟨_, h.coldReset, .inl rfl⟩
  split
  · exact .inl ⟨_, h.nmi, .inl rfl⟩
  split
  · exact .inl ⟨_, h.softReset, .inl rfl⟩
  split
  · exact .inr rfl
  · exact .inl h.sampleInterrupt

/-- A fetch keeps the invariant in the state it delivers a word or an exception in. -/
theorem State.Inv.fetch {s : State} (h : s.Inv) :
    (∀ w t, s.fetch = .word w t → t.Inv) ∧ (∀ e t, s.fetch = .exc e t → t.Inv) := by
  unfold State.fetch
  split
  · exact ⟨fun w t e => (by cases e), fun x t e => by cases e; exact h⟩
  split
  · exact ⟨fun w t e => (by cases e), fun x t e => by cases e; exact h⟩
  · exact ⟨fun w t e => (by cases e), fun x t e => (by cases e)⟩
  · rename_i pa c itlb _
    split
    · rename_i w b hb
      exact ⟨fun w t e => (by cases e; exact ⟨h.1.fetchWord _ _ _ _ _ _ hb, h.2⟩), fun x t e => (by cases e)⟩
    · exact ⟨fun w t e => (by cases e), fun x t e => by cases e; exact h⟩
    · exact ⟨fun w t e => (by cases e), fun x t e => (by cases e)⟩

theorem rejectWord_keeps {s : State} (h : s.Inv) (r : Rejection) (w : BitVec 32) : KeepsInv (rejectWord r w s) := by
  have hk : KeepsInv (match r with
      | .reservedInstruction => raise .reservedInstruction s
      | .outsideSpec | .truncated => .refused .outsideSpec) := by
    cases r
    · exact raise_keeps h _
    · exact .refused
    · exact .refused
  exact KeepsInv.ite (withCp0_keeps h hk) (KeepsInv.ite (withCp1_keeps h hk) (KeepsInv.ite (raise_keeps h _) hk))

end Sys2Proof.Machine
end

