-- ==== Sys2Proof/Tests/Slice0.lean ====
section
/-! SUPPORT. Small checks of the model: ill-formed terms, words written out from the encodings, single instructions with
the results of the spec's test vectors (96_test_vectors_integer.md, 97_test_vectors_system.md, 98_test_vectors_fp.md), and
for every statement with hypotheses a state that meets them. -/

set_option Elab.async false

noncomputable section

namespace Sys2Proof.Tests

open Sys2Proof.Machine

/-! Machines to test on. -/

/-- Some bytes at 0x100 and words in the frames 0x302 and 0x303, as the test vectors use them. -/
def testMemory : Memory :=
  memWrite (memWrite (memWrite [] 0x100 8 0x8877665544332211) 0x302004 4 0x12345678) 0x303000 4 0xCAFEF00D

/-- A machine at 0xFFFFFFFFA0001000 with this Status, these general and these floating-point registers. -/
def start (status : BitVec 32) (gprs fprs : List (Nat × Word)) : State :=
  let s : State := { State.reset with
    pc := 0xFFFFFFFFA0001000#64
    cp0 := { Cp0.reset with status := status }
    bus := { Bus.reset with mem := testMemory } }
  let s1 := gprs.foldl (fun s p => s.writeGpr (BitVec.ofNat 5 p.1) p.2) s
  fprs.foldl (fun s p => s.writeFpr (BitVec.ofNat 5 p.1) p.2) s1

/-- The state with its CP0 registers changed. -/
def onCp0 (s : State) (f : Cp0 → Cp0) : State := { s with cp0 := f s.cp0 }

/-- A page at a frame, uncached. -/
def page (pfn : BitVec 28) (d v : Bool) : TlbPage := { e := false, pfn := pfn, c := 2#3, d := d, v := v }

/-- A pair of 4 KB pages in the user segment. -/
def pagePair (vpn2 : BitVec 27) (g : Bool) (asid : BitVec 8) (even odd : TlbPage) : TlbEntry :=
  { mask := 0#12, r := 0#2, vpn2 := vpn2, g := g, asid := asid, even := even, odd := odd }

/-- The TLB of reset with the pair of address 0x200000 in entry 5. -/
def onePage (g : Bool) (asid : BitVec 8) : Vector TlbEntry 64 :=
  State.reset.tlb.set 5 (pagePair 0x100#27 g asid (page 0x300#28 true true) (page 0x301#28 false true))

/-- The TLB of reset with a code page, a writable page, a clean page and an invalid page. -/
def mappedPages : Vector TlbEntry 64 :=
  ((State.reset.tlb.set 0 (pagePair 0x200#27 true 0#8 (page 0x300#28 false true) (page 0x301#28 false true))).set 1
    (pagePair 0x201#27 false 5#8 (page 0x302#28 true true) (page 0x303#28 false true))).set 2
    (pagePair 0x202#27 false 5#8 (page 0x304#28 false false) (page 0#28 false false))

/-- Whether an instruction ends in a next state with the property. -/
def ends (i : Instr) (s : State) (p : State → Bool) : Bool :=
  match exec i s with
  | .next t => p t
  | _ => false

/-- The name of the refusal an instruction ends in, if it is refused. -/
def stops (i : Instr) (s : State) : Option Refusal :=
  match exec i s with
  | .refused r => some r
  | _ => none

/-- Cause without its CE field, which is free. -/
def causeOf (s : State) : BitVec 32 := s.causeValue &&& 0xCFFFFFFF#32

/-! Single instructions, with the results of the test vectors. -/

theorem test_lb : ends (.lb 3#5 2#5 7#16) (start 0x30400004#32 [(3, 0xFFFFFFFFA0000100#64)] [])
    (fun t => t.readGpr 2#5 == 0xFFFFFFFFFFFFFF88#64) = true := by decide +kernel
theorem test_lh : ends (.lh 3#5 2#5 6#16) (start 0x30400004#32 [(3, 0xFFFFFFFFA0000100#64)] [])
    (fun t => t.readGpr 2#5 == 0xFFFFFFFFFFFF8877#64) = true := by decide +kernel
theorem test_lw : ends (.lw 3#5 2#5 4#16) (start 0x30400004#32 [(3, 0xFFFFFFFFA0000100#64)] [])
    (fun t => t.readGpr 2#5 == 0xFFFFFFFF88776655#64) = true := by decide +kernel
theorem test_lwu : ends (.lwu 3#5 2#5 4#16) (start 0x30400004#32 [(3, 0xFFFFFFFFA0000100#64)] [])
    (fun t => t.readGpr 2#5 == 0x88776655#64) = true := by decide +kernel
theorem test_lh_2 : ends (.lh 3#5 2#5 1#16) (start 0x30400004#32 [(3, 0xFFFFFFFFA0000100#64), (2, 5#64)] [])
    (fun t => t.cp0.badVAddr == 0xFFFFFFFFA0000101#64 && t.cp0.status == 0x30400006#32 && t.cp0.epc == 0xFFFFFFFFA0001000#64 && t.pc == 0xFFFFFFFFBFC00380#64) = true := by decide +kernel
theorem test_lw_2 : ends (.lw 3#5 0#5 2#16) (start 0x30400004#32 [(3, 0xFFFFFFFFA0000100#64)] [])
    (fun t => t.pc == 0xFFFFFFFFA0001004#64) = true := by decide +kernel
theorem test_lwl : ends (.lwl 3#5 2#5 2#16) (start 0x30400004#32 [(3, 0xFFFFFFFFA0000100#64), (2, 0x55667788#64)] [])
    (fun t => t.readGpr 2#5 == 0x33221188#64) = true := by decide +kernel
theorem test_lwr : ends (.lwr 3#5 2#5 1#16) (start 0x30400004#32 [(3, 0xFFFFFFFFA0000100#64), (2, 0x55667788#64)] [])
    (fun t => t.readGpr 2#5 == 0x55443322#64) = true := by decide +kernel
theorem test_ldl : ends (.ldl 3#5 2#5 3#16) (start 0x30400004#32
      [(3, 0xFFFFFFFFA0000100#64), (2, 0xA1A2A3A4A5A6A7A8#64)] [])
    (fun t => t.readGpr 2#5 == 0x44332211A5A6A7A8#64) = true := by decide +kernel
theorem test_ldr : ends (.ldr 3#5 2#5 3#16) (start 0x30400004#32
      [(3, 0xFFFFFFFFA0000100#64), (2, 0xA1A2A3A4A5A6A7A8#64)] [])
    (fun t => t.readGpr 2#5 == 0xA1A2A38877665544#64) = true := by decide +kernel
theorem test_sh : ends (.sh 3#5 2#5 2#16) (start 0x30400004#32
      [(3, 0xFFFFFFFFA0000100#64), (2, 0xAABBCCDDEEFF0102#64)] [])
    (fun t => memByte t.bus.mem 0x102 == 2#8 && memByte t.bus.mem 0x103 == 1#8) = true := by decide +kernel
theorem test_swl : ends (.swl 3#5 2#5 1#16) (start 0x30400004#32
      [(3, 0xFFFFFFFFA0000100#64), (2, 0xAABBCCDDEEFF0102#64)] [])
    (fun t => memByte t.bus.mem 0x100 == 0xFF#8 && memByte t.bus.mem 0x101 == 0xEE#8) = true := by decide +kernel
theorem test_swr : ends (.swr 3#5 2#5 1#16) (start 0x30400004#32
      [(3, 0xFFFFFFFFA0000100#64), (2, 0xAABBCCDDEEFF0102#64)] [])
    (fun t => memByte t.bus.mem 0x101 == 2#8 && memByte t.bus.mem 0x102 == 1#8 &&
      memByte t.bus.mem 0x103 == 0xFF#8) = true := by decide +kernel
theorem test_sdl : ends (.sdl 3#5 2#5 2#16) (start 0x30400004#32
      [(3, 0xFFFFFFFFA0000100#64), (2, 0xAABBCCDDEEFF0102#64)] [])
    (fun t => memByte t.bus.mem 0x100 == 0xCC#8 && memByte t.bus.mem 0x101 == 0xBB#8 &&
      memByte t.bus.mem 0x102 == 0xAA#8) = true := by decide +kernel
theorem test_sdr : ends (.sdr 3#5 2#5 5#16) (start 0x30400004#32
      [(3, 0xFFFFFFFFA0000100#64), (2, 0xAABBCCDDEEFF0102#64)] [])
    (fun t => memByte t.bus.mem 0x105 == 2#8 && memByte t.bus.mem 0x106 == 1#8 &&
      memByte t.bus.mem 0x107 == 0xFF#8) = true := by decide +kernel
theorem test_lld : ends (.lld 3#5 2#5 0#16) (start 0x30400004#32 [(3, 0xFFFFFFFFA0000100#64)] [])
    (fun t => t.readGpr 2#5 == 0x8877665544332211#64 && t.llbit == true) = true := by decide +kernel
theorem test_sc : ends (.sc 3#5 2#5 0#16) { start 0x30400004#32 [(3, 0xFFFFFFFFA0000100#64), (2, 7#64)] []
      with llbit := true }
    (fun t => t.readGpr 2#5 == 1#64 && t.llbit == false && memByte t.bus.mem 0x100 == 7#8 &&
      memByte t.bus.mem 0x101 == 0#8 && memByte t.bus.mem 0x102 == 0#8 &&
      memByte t.bus.mem 0x103 == 0#8) = true := by decide +kernel
theorem test_sc_2 : ends (.sc 3#5 2#5 0#16) (start 0x30400004#32 [(3, 0xFFFFFFFFA0000100#64), (2, 7#64)] [])
    (fun t => t.readGpr 2#5 == 0#64) = true := by decide +kernel
theorem test_sync : ends .sync (start 0x30400004#32 [(3, 0xFFFFFFFFA0000100#64)] [])
    (fun t => t.pc == 0xFFFFFFFFA0001004#64) = true := by decide +kernel
theorem test_sdc1 : ends (.sdc1 3#5 2#5 0#16) (start 0x34400004#32 [(3, 0xFFFFFFFFA0000100#64)]
      [(2, 0x400921FB54442D18#64)])
    (fun t => memByte t.bus.mem 0x100 == 0x18#8 && memByte t.bus.mem 0x101 == 0x2D#8 &&
      memByte t.bus.mem 0x102 == 0x44#8 && memByte t.bus.mem 0x103 == 0x54#8 && memByte t.bus.mem 0x104 == 0xFB#8 &&
      memByte t.bus.mem 0x105 == 0x21#8 && memByte t.bus.mem 0x106 == 9#8 &&
      memByte t.bus.mem 0x107 == 0x40#8) = true := by decide +kernel
theorem test_lwc1 : ends (.lwc1 3#5 3#5 4#16) (start 0x30400004#32 [(3, 0xFFFFFFFFA0000100#64)] [(2, 1#64)])
    (fun t => t.readFpr 2#5 == 0x8877665500000001#64) = true := by decide +kernel
theorem test_addi : ends (.addi 1#5 2#5 1#16) (start 0x30400004#32 [(1, 0x7FFFFFFF#64)] [])
    (fun t => t.cp0.status == 0x30400006#32 && t.cp0.epc == 0xFFFFFFFFA0001000#64 &&
      t.pc == 0xFFFFFFFFBFC00380#64) = true := by decide +kernel
theorem test_addiu : ends (.addiu 1#5 2#5 0x8000#16) (start 0x30400004#32 [(1, 0x1000#64)] [])
    (fun t => t.readGpr 2#5 == 0xFFFFFFFFFFFF9000#64) = true := by decide +kernel
theorem test_slti : ends (.slti 1#5 2#5 0#16) (start 0x30400004#32 [(1, 0xFFFFFFFFFFFFFFFF#64)] [])
    (fun t => t.readGpr 2#5 == 1#64) = true := by decide +kernel
theorem test_sltiu : ends (.sltiu 1#5 2#5 0xFFFF#16) (start 0x30400004#32 [(1, 5#64)] [])
    (fun t => t.readGpr 2#5 == 1#64) = true := by decide +kernel
theorem test_andi : ends (.andi 1#5 2#5 0xFFFF#16) (start 0x30400004#32 [(1, 0xFFFFFFFFFFFF1234#64)] [])
    (fun t => t.readGpr 2#5 == 0x1234#64) = true := by decide +kernel
theorem test_xori : ends (.xori 1#5 2#5 0xFFFF#16) (start 0x30400004#32 [(1, 0xFF00#64)] [])
    (fun t => t.readGpr 2#5 == 0xFF#64) = true := by decide +kernel
theorem test_lui : ends (.lui 2#5 0x8000#16) (start 0x30400004#32 [] [])
    (fun t => t.readGpr 2#5 == 0xFFFFFFFF80000000#64) = true := by decide +kernel
theorem test_add : ends (.add 1#5 2#5 3#5) (start 0x30400004#32
      [(3, 0x5555#64), (1, 0xFFFFFFFF80000000#64), (2, 0xFFFFFFFFFFFFFFFF#64)] [])
    (fun t => t.cp0.status == 0x30400006#32 && t.cp0.epc == 0xFFFFFFFFA0001000#64 &&
      t.pc == 0xFFFFFFFFBFC00380#64) = true := by decide +kernel
theorem test_addu : ends (.addu 1#5 2#5 3#5) (start 0x30400004#32 [(3, 0x5555#64), (1, 0xFFFFFFFF#64), (2, 1#64)] [])
    (fun t => t.readGpr 3#5 == 0#64) = true := by decide +kernel
theorem test_sub : ends (.sub 1#5 2#5 3#5) (start 0x30400004#32 [(3, 0x5555#64), (2, 0xFFFFFFFF80000000#64)] [])
    (fun t => t.cp0.status == 0x30400006#32 && t.cp0.epc == 0xFFFFFFFFA0001000#64 &&
      t.pc == 0xFFFFFFFFBFC00380#64) = true := by decide +kernel
theorem test_dsubu : ends (.dsubu 1#5 2#5 3#5) (start 0x30400004#32
      [(3, 0x5555#64), (1, 0x8000000000000000#64), (2, 1#64)] [])
    (fun t => t.readGpr 3#5 == 0x7FFFFFFFFFFFFFFF#64) = true := by decide +kernel
theorem test_slt : ends (.slt 1#5 2#5 3#5) (start 0x30400004#32
      [(3, 0x5555#64), (1, 0x8000000000000000#64), (2, 0x7FFFFFFFFFFFFFFF#64)] [])
    (fun t => t.readGpr 3#5 == 1#64) = true := by decide +kernel
theorem test_sltu : ends (.sltu 1#5 2#5 3#5) (start 0x30400004#32 [(3, 0x5555#64), (2, 0xFFFFFFFFFFFFFFFF#64)] [])
    (fun t => t.readGpr 3#5 == 1#64) = true := by decide +kernel
theorem test_nor : ends (.nor 1#5 2#5 3#5) (start 0x30400004#32
      [(3, 0x5555#64), (1, 0xFF00FF00FF00FF00#64), (2, 0xFF00FF00FF00FF0#64)] [])
    (fun t => t.readGpr 3#5 == 0xF000F000F000F#64) = true := by decide +kernel
theorem test_mult : ends (.mult 1#5 2#5) (start 0x30400004#32
      [(3, 0x5555#64), (1, 0xFFFFFFFF80000000#64), (2, 0xFFFFFFFF80000000#64)] [])
    (fun t => t.hi == 0x40000000#64 && t.lo == 0#64) = true := by decide +kernel
theorem test_multu : ends (.multu 1#5 2#5) (start 0x30400004#32
      [(3, 0x5555#64), (1, 0xFFFFFFFFFFFFFFFF#64), (2, 0xFFFFFFFFFFFFFFFF#64)] [])
    (fun t => t.hi == 0xFFFFFFFFFFFFFFFE#64 && t.lo == 1#64) = true := by decide +kernel
theorem test_dmult : ends (.dmult 1#5 2#5) (start 0x30400004#32
      [(3, 0x5555#64), (1, 0xFFFFFFFFFFFFFFFF#64), (2, 0xFFFFFFFFFFFFFFFF#64)] [])
    (fun t => t.hi == 0#64 && t.lo == 1#64) = true := by decide +kernel
theorem test_dmultu : ends (.dmultu 1#5 2#5) (start 0x30400004#32
      [(3, 0x5555#64), (1, 0xFFFFFFFFFFFFFFFF#64), (2, 0xFFFFFFFFFFFFFFFF#64)] [])
    (fun t => t.hi == 0xFFFFFFFFFFFFFFFE#64 && t.lo == 1#64) = true := by decide +kernel
theorem test_div : ends (.div 1#5 2#5) (start 0x30400004#32
      [(3, 0x5555#64), (1, 7#64), (2, 0xFFFFFFFFFFFFFFFE#64)] [])
    (fun t => t.hi == 1#64 && t.lo == 0xFFFFFFFFFFFFFFFD#64) = true := by decide +kernel
theorem test_divu : ends (.divu 1#5 2#5) (start 0x30400004#32
      [(3, 0x5555#64), (1, 0xFFFFFFFFFFFFFFFF#64), (2, 2#64)] [])
    (fun t => t.hi == 1#64 && t.lo == 0x7FFFFFFF#64) = true := by decide +kernel
theorem test_ddiv : ends (.ddiv 1#5 2#5) (start 0x30400004#32
      [(3, 0x5555#64), (1, 0x8000000000000000#64), (2, 0xFFFFFFFFFFFFFFFF#64)] [])
    (fun t => t.hi == 0#64 && t.lo == 0x8000000000000000#64) = true := by decide +kernel
theorem test_mfhi : ends (.mfhi 3#5) { start 0x30400004#32 [(3, 0x5555#64)] [] with hi := 0x123456789ABCDEF#64 }
    (fun t => t.readGpr 3#5 == 0x123456789ABCDEF#64) = true := by decide +kernel
theorem test_mthi : ends (.mthi 1#5) { start 0x30400004#32 [(3, 0x5555#64), (1, 0x1111111122222222#64)] []
      with hi := 0#64 }
    (fun t => t.hi == 0x1111111122222222#64) = true := by decide +kernel
theorem test_multg : ends (.multg 1#5 2#5 3#5) (start 0x30400004#32
      [(3, 0x5555#64), (1, 0x10000#64), (2, 0x8000#64)] [])
    (fun t => t.readGpr 3#5 == 0xFFFFFFFF80000000#64) = true := by decide +kernel
theorem test_divg : ends (.divg 1#5 2#5 3#5) (start 0x30400004#32
      [(3, 0x5555#64), (1, 0xFFFFFFFFFFFFFFF9#64), (2, 2#64)] [])
    (fun t => t.readGpr 3#5 == 0xFFFFFFFFFFFFFFFD#64) = true := by decide +kernel
theorem test_modg : ends (.modg 1#5 2#5 3#5) (start 0x30400004#32
      [(3, 0x5555#64), (1, 7#64), (2, 0xFFFFFFFFFFFFFFFE#64)] [])
    (fun t => t.readGpr 3#5 == 1#64) = true := by decide +kernel
theorem test_dmodug : ends (.dmodug 1#5 2#5 3#5) (start 0x30400004#32 [(3, 0x5555#64), (1, 9#64)] [])
    (fun t => t.pc == 0xFFFFFFFFA0001004#64) = true := by decide +kernel
theorem test_sll : ends (.sll 1#5 3#5 0x1F#5) (start 0x30400004#32 [(3, 0x5555#64), (1, 1#64)] [])
    (fun t => t.readGpr 3#5 == 0xFFFFFFFF80000000#64) = true := by decide +kernel
theorem test_sra : ends (.sra 1#5 3#5 0x1F#5) (start 0x30400004#32 [(3, 0x5555#64), (1, 0xFFFFFFFF80000000#64)] [])
    (fun t => t.readGpr 3#5 == 0xFFFFFFFFFFFFFFFF#64) = true := by decide +kernel
theorem test_srav : ends (.srav 2#5 1#5 3#5) (start 0x30400004#32
      [(3, 0x5555#64), (1, 0xFFFFFFFFF0000000#64), (2, 0xFFFFFFFFFFFFFFE4#64)] [])
    (fun t => t.readGpr 3#5 == 0xFFFFFFFFFF000000#64) = true := by decide +kernel
theorem test_dsra32 : ends (.dsra32 1#5 3#5 0#5) (start 0x30400004#32 [(3, 0x5555#64), (1, 0x8000000012345678#64)] [])
    (fun t => t.readGpr 3#5 == 0xFFFFFFFF80000000#64) = true := by decide +kernel
theorem test_dsll32 : ends (.dsll32 1#5 3#5 0x1F#5) (start 0x30400004#32 [(3, 0x5555#64), (1, 1#64)] [])
    (fun t => t.readGpr 3#5 == 0x8000000000000000#64) = true := by decide +kernel
theorem test_dsrlv : ends (.dsrlv 2#5 1#5 3#5) (start 0x30400004#32
      [(3, 0x5555#64), (1, 0xFFFFFFFFFFFFFFFF#64), (2, 0x40#64)] [])
    (fun t => t.readGpr 3#5 == 0xFFFFFFFFFFFFFFFF#64) = true := by decide +kernel
theorem test_beq : ends (.beq 1#5 2#5 0x8000#16) (start 0x30400004#32 [(31, 0x5555#64), (1, 7#64), (2, 7#64)] [])
    (fun t => t.pc == 0xFFFFFFFFA0001004#64 && t.delay == some 0xFFFFFFFF9FFE1004#64) = true := by decide +kernel
theorem test_bgtz : ends (.bgtz 1#5 4#16) (start 0x30400004#32 [(31, 0x5555#64)] [])
    (fun t => t.pc == 0xFFFFFFFFA0001004#64 && t.delay == some 0xFFFFFFFFA0001008#64) = true := by decide +kernel
theorem test_bltzal : ends (.bltzal 1#5 4#16) (start 0x30400004#32 [(31, 0x5555#64), (1, 0xFFFFFFFFFFFFFFFF#64)] [])
    (fun t => t.readGpr 31#5 == 0xFFFFFFFFA0001008#64 && t.pc == 0xFFFFFFFFA0001004#64 &&
      t.delay == some 0xFFFFFFFFA0001014#64) = true := by decide +kernel
theorem test_bnel : ends (.bnel 1#5 2#5 4#16) (start 0x30400004#32 [(31, 0x5555#64), (1, 7#64), (2, 7#64)] [])
    (fun t => t.pc == 0xFFFFFFFFA0001008#64) = true := by decide +kernel
theorem test_bltzall : ends (.bltzall 1#5 4#16) (start 0x30400004#32 [(31, 0x5555#64)] [])
    (fun t => t.readGpr 31#5 == 0xFFFFFFFFA0001008#64 && t.pc == 0xFFFFFFFFA0001008#64) = true := by decide +kernel
theorem test_j : ends (.j 0x40#26) { start 0x30400004#32 [(31, 0x5555#64)] [] with pc := 0xFFFFFFFFAFFFFFFC#64 }
    (fun t => t.pc == 0xFFFFFFFFB0000000#64 && t.delay == some 0xFFFFFFFFB0000100#64) = true := by decide +kernel
theorem test_jalr : ends (.jalr 1#5 2#5) (start 0x30400004#32 [(31, 0x5555#64), (1, 0xFFFFFFFF80002000#64)] [])
    (fun t => t.readGpr 2#5 == 0xFFFFFFFFA0001008#64 && t.pc == 0xFFFFFFFFA0001004#64 &&
      t.delay == some 0xFFFFFFFF80002000#64) = true := by decide +kernel
theorem test_branch_in_slot : stops (.beq 0#5 0#5 4#16) { start 0x30400004#32 [(31, 0x5555#64)] []
      with delay := some 0xFFFFFFFFA0002000#64 } = some .branchInDelaySlot := by decide +kernel
theorem test_tge : ends (.tge 1#5 2#5 0#10) (start 0x30400000#32 [(1, 0xFFFFFFFFFFFFFFFF#64)] [])
    (fun t => t.pc == 0xFFFFFFFFA0001004#64) = true := by decide +kernel
theorem test_tgeu : ends (.tgeu 1#5 2#5 0#10) (start 0x30400000#32 [(1, 0xFFFFFFFFFFFFFFFF#64)] [])
    (fun t => t.cp0.status == 0x30400002#32 && t.cp0.epc == 0xFFFFFFFFA0001000#64 &&
      t.pc == 0xFFFFFFFFBFC00380#64) = true := by decide +kernel
theorem test_tltiu : ends (.tltiu 1#5 0xFFFF#16) (start 0x30400000#32 [(1, 5#64)] [])
    (fun t => t.cp0.status == 0x30400002#32 && t.cp0.epc == 0xFFFFFFFFA0001000#64 &&
      t.pc == 0xFFFFFFFFBFC00380#64) = true := by decide +kernel
theorem test_teqi : ends (.teqi 1#5 1#16) (start 0x30400000#32 [(1, 2#64)] [])
    (fun t => t.pc == 0xFFFFFFFFA0001004#64) = true := by decide +kernel
theorem test_syscall : ends (.syscall 0xFFFFF#20) (start 0x30400000#32 [] [])
    (fun t => t.cp0.status == 0x30400002#32 && t.cp0.epc == 0xFFFFFFFFA0001000#64 &&
      t.pc == 0xFFFFFFFFBFC00380#64) = true := by decide +kernel
theorem test_brk : ends (.brk 1#20) (start 0x30400000#32 [] [])
    (fun t => t.cp0.status == 0x30400002#32 && t.cp0.epc == 0xFFFFFFFFA0001000#64 &&
      t.pc == 0xFFFFFFFFBFC00380#64) = true := by decide +kernel
theorem test_addD : ends (.addD 2#5 1#5 0#5) { start 0x34000000#32 []
      [(1, 0x3FF0000000000000#64), (2, 0x3CA0000000000000#64)] with fcsr := 2#32 }
    (fun t => t.readFpr 0#5 == 0x3FF0000000000001#64 && t.fcsr == 0x1006#32) = true := by decide +kernel
theorem test_addS : ends (.addS 2#5 4#5 0#5) (start 0x30000000#32 [] [(2, 0xFF800000#64), (4, 0x7F800000#64)])
    (fun t => (t.readFpr 0#5).setWidth 32 == 0x7FBFFFFF#32 && t.fcsr == 0x10040#32) = true := by decide +kernel
theorem test_addS_2 : ends (.addS 2#5 4#5 0#5) (start 0x30000000#32 [] [(2, 0x7F7FFFFF#64), (4, 0x7F7FFFFF#64)])
    (fun t => (t.readFpr 0#5).setWidth 32 == 0x7F800000#32 && t.fcsr == 0x5014#32) = true := by decide +kernel
theorem test_subS : ends (.subS 2#5 4#5 0#5) { start 0x30000000#32 [] [(2, 0x800000#64), (4, 0x800001#64)]
      with fcsr := 0x1000000#32 }
    (fun t => (t.readFpr 0#5).setWidth 32 == 0#32 && t.fcsr == 0x100300C#32) = true := by decide +kernel
theorem test_divS : ends (.divS 2#5 4#5 0#5) (start 0x30000000#32 [] [(2, 0x40400000#64), (4, 0x3F800000#64)])
    (fun t => (t.readFpr 0#5).setWidth 32 == 0x3EAAAAAB#32 && t.fcsr == 0x1004#32) = true := by decide +kernel
theorem test_divS_2 : ends (.divS 2#5 4#5 0#5) (start 0x30000000#32 [] [(4, 0x3F800000#64)])
    (fun t => (t.readFpr 0#5).setWidth 32 == 0x7F800000#32 && t.fcsr == 0x8020#32) = true := by decide +kernel
theorem test_sqrtS : ends (.sqrtS 4#5 0#5) (start 0x30000000#32 [] [(4, 0x40000000#64)])
    (fun t => (t.readFpr 0#5).setWidth 32 == 0x3FB504F3#32 && t.fcsr == 0x1004#32) = true := by decide +kernel
theorem test_absS : ends (.absS 4#5 0#5) (start 0x30000000#32 [] [(4, 0xFFC00000#64)])
    (fun t => (t.readFpr 0#5).setWidth 32 == 0x7FBFFFFF#32 && t.fcsr == 0x10040#32) = true := by decide +kernel
theorem test_negD : ends (.negD 1#5 0#5) (start 0x34000000#32 [] [(1, 0x3FF0000000000000#64)])
    (fun t => t.readFpr 0#5 == 0xBFF0000000000000#64) = true := by decide +kernel
theorem test_movS : ends (.movS 4#5 0#5) { start 0x30000000#32 [] [(4, 0x7FC00001#64)] with fcsr := 0x3F07C#32 }
    (fun t => (t.readFpr 0#5).setWidth 32 == 0x7FC00001#32) = true := by decide +kernel
theorem test_truncLD : ends (.truncLD 1#5 0#5) (start 0x34000000#32 [] [(1, 0xC00599999999999A#64)])
    (fun t => t.readFpr 0#5 == 0xFFFFFFFFFFFFFFFE#64 && t.fcsr == 0x1004#32) = true := by decide +kernel
theorem test_truncWD : ends (.truncWD 4#5 0#5) (start 0x30000000#32 [] [(4, 0x41E65A0BC0000000#64)])
    (fun t => (t.readFpr 0#5).setWidth 32 == 0x7FFFFFFF#32 && t.fcsr == 0x10040#32) = true := by decide +kernel
theorem test_cvtWD : ends (.cvtWD 4#5 0#5) { start 0x30000000#32 [] [(4, 0x4004000000000000#64)] with fcsr := 2#32 }
    (fun t => (t.readFpr 0#5).setWidth 32 == 3#32 && t.fcsr == 0x1006#32) = true := by decide +kernel
theorem test_cvtSD : ends (.cvtSD 4#5 0#5) (start 0x30000000#32 [] [(4, 0x3FF0000000400000#64)])
    (fun t => (t.readFpr 0#5).setWidth 32 == 0x3F800000#32 && t.fcsr == 0x1004#32) = true := by decide +kernel
theorem test_cvtSD_2 : ends (.cvtSD 4#5 0#5) { start 0x30000000#32 [] [(4, 0x37A16C262777579C#64)]
      with fcsr := 0x1000000#32 }
    (fun t => (t.readFpr 0#5).setWidth 32 == 0#32 && t.fcsr == 0x100300C#32) = true := by decide +kernel
theorem test_cvtSW : ends (.cvtSW 4#5 0#5) (start 0x30000000#32 [] [(4, 0x1000001#64)])
    (fun t => (t.readFpr 0#5).setWidth 32 == 0x4B800000#32 && t.fcsr == 0x1004#32) = true := by decide +kernel
theorem test_cvtDL : ends (.cvtDL 1#5 0#5) (start 0x34000000#32 [] [(1, 0x20000000000001#64)])
    (fun t => t.readFpr 0#5 == 0x4340000000000000#64 && t.fcsr == 0x1004#32) = true := by decide +kernel
theorem test_mfc1 : ends (.mfc1 2#5 3#5) (start 0x30000000#32 [] [(2, 0x9111111122222222#64)])
    (fun t => t.readGpr 2#5 == 0xFFFFFFFF91111111#64) = true := by decide +kernel
theorem test_mtc1 : ends (.mtc1 2#5 4#5) (start 0x30000000#32 [(2, 0xAAAAAAAA3F800000#64)] [])
    (fun t => (t.readFpr 4#5).setWidth 32 == 0x3F800000#32) = true := by decide +kernel
theorem test_ctc1 : ends (.ctc1 2#5 0x1F#5) (start 0x34000000#32 [(2, 0xFFFFFFFFFFFC0F83#64)] [])
    (fun t => t.fcsr == 0x3800F83#32) = true := by decide +kernel
theorem test_ctc1_2 : ends (.ctc1 2#5 0x1F#5) (start 0x34000000#32 [(2, 0x1080#64)] [])
    (fun t => t.fcsr == 0x1080#32 && t.cp0.status == 0x34000002#32 && t.cp0.epc == 0xFFFFFFFFA0001000#64 && t.pc == 0xFFFFFFFF80000180#64) = true := by decide +kernel
theorem test_bc1t : ends (.bc1t 4#16) { start 0x34000000#32 [] [] with fcsr := 0x2000000#32 }
    (fun t => t.pc == 0xFFFFFFFFA0001004#64 && t.delay == some 0xFFFFFFFFA0001008#64) = true := by decide +kernel
theorem test_bc1tl : ends (.bc1tl 4#16) (start 0x34000000#32 [] [])
    (fun t => t.pc == 0xFFFFFFFFA0001008#64) = true := by decide +kernel
theorem test_cSfS : ends (.cSfS 2#5 1#5) (start 0x34000000#32 [] [(1, 0x7F800001#64), (2, 0x3F800000#64)])
    (fun t => t.fcsr == 0x10040#32) = true := by decide +kernel
theorem test_cNgleS : ends (.cNgleS 2#5 1#5) (start 0x34000000#32 [] [(1, 0x7F800001#64), (2, 0x3F800000#64)])
    (fun t => t.fcsr == 0x810040#32) = true := by decide +kernel
theorem test_cLtS : ends (.cLtS 2#5 1#5) { start 0x34000000#32 [] [(1, 0x7F800001#64), (2, 0x3F800000#64)]
      with fcsr := 0x800800#32 }
    (fun t => t.fcsr == 0x810800#32 && t.cp0.status == 0x34000002#32 && t.cp0.epc == 0xFFFFFFFFA0001000#64 && t.pc == 0xFFFFFFFF80000180#64) = true := by decide +kernel
theorem test_cEqS : ends (.cEqS 2#5 1#5) (start 0x34000000#32 [] [(2, 0x80000000#64)])
    (fun t => t.fcsr == 0x800000#32) = true := by decide +kernel
theorem test_cUnD : ends (.cUnD 2#5 1#5) (start 0x34000000#32 []
      [(1, 0x7FF0000000000001#64), (2, 0x3FF0000000000000#64)])
    (fun t => t.fcsr == 0x800000#32) = true := by decide +kernel
theorem test_cLtPs : ends (.cLtPs 2#5 1#5) (start 0x34000000#32 []
      [(1, 0x3F80000040A00000#64), (2, 0x4000000040800000#64)])
    (fun t => t.fcsr == 0x2000000#32) = true := by decide +kernel
theorem test_cLePs : ends (.cLePs 2#5 1#5) (start 0x34000000#32 []
      [(1, 0x7F8000013F800000#64), (2, 0x4000000040800000#64)])
    (fun t => t.fcsr == 0x810040#32) = true := by decide +kernel
theorem test_addPs : ends (.addPs 2#5 1#5 0#5) (start 0x34000000#32 []
      [(1, 0x7F7FFFFF3F800000#64), (2, 0x7F7FFFFF40000000#64)])
    (fun t => t.readFpr 0#5 == 0x7F80000040400000#64 && t.fcsr == 0x5014#32) = true := by decide +kernel
theorem test_mulPs : ends (.mulPs 2#5 1#5 0#5) (start 0x34000000#32 []
      [(1, 0x7FC000003F800000#64), (2, 0x3F80000040400000#64)])
    (fun t => t.readFpr 0#5 == 0x7FBFFFFF40400000#64 && t.fcsr == 0x10040#32) = true := by decide +kernel
theorem test_maddS : ends (.maddS 2#5 4#5 0#5) (start 0x30000000#32 []
      [(0, 0xBF800002#64), (2, 0x3F800001#64), (4, 0x3F800001#64)])
    (fun t => (t.readFpr 0#5).setWidth 32 == 0x28800000#32) = true := by decide +kernel
theorem test_nmaddS : ends (.nmaddS 2#5 4#5 0#5) (start 0x30000000#32 []
      [(0, 0xBF800000#64), (2, 0x3F800000#64), (4, 0x3F800000#64)])
    (fun t => (t.readFpr 0#5).setWidth 32 == 0x80000000#32) = true := by decide +kernel
theorem test_nmsubPs : ends (.nmsubPs 2#5 1#5 0#5) (start 0x34000000#32 []
      [(0, 0x40A0000040C00000#64), (1, 0x3F80000040000000#64), (2, 0x4040000040800000#64)])
    (fun t => t.readFpr 0#5 == 0x40000000C0000000#64) = true := by decide +kernel
theorem test_mtc0 : ends (.mtc0 1#5 0xC#5) (start 0x30400004#32 [(1, 0xFFFFFFFFFFFFFFFF#64)] [])
    (fun t => t.cp0.status == 0xF5D0FF1F#32) = true := by decide +kernel
theorem test_mtc0_2 : ends (.mtc0 1#5 2#5) (start 0x30400004#32 [(1, 0xFFFFFFFFFFFFFFFF#64)] [])
    (fun t => t.cp0.entryLo0 == 0x20000003FFFFFFFF#64) = true := by decide +kernel
theorem test_dmtc0 : ends (.dmtc0 1#5 4#5) (onCp0 (start 0x30400004#32 [(1, 0xFFFFFFFFFFFFFFFF#64)] []) fun c => { c with context := 0x12340#64 })
    (fun t => t.cp0.context == 0xFFFFFFFFFF812340#64) = true := by decide +kernel
theorem test_mfc0 : ends (.mfc0 2#5 0xC#5) { start 0x20000010#32 [] [] with pc := 0x400000#64 }
    (fun t => t.cp0.status == 0x20000012#32 && causeOf t == 0x2C#32 && t.cp0.epc == 0x400000#64 &&
      t.pc == 0xFFFFFFFF80000180#64) = true := by decide +kernel
theorem test_mfc0_2 : ends (.mfc0 2#5 0xC#5) { start 0x30000010#32 [] [] with pc := 0x400000#64 }
    (fun t => t.readGpr 2#5 == 0x30000010#64) = true := by decide +kernel
theorem test_tlbp : ends .tlbp (onCp0 ({ start 0x30400004#32 [] [] with tlb := onePage false 7 }) fun c => { c
      with entryHi := 0x200007#64, index := 0x3F#32 })
    (fun t => t.cp0.index == 5#32) = true := by decide +kernel
theorem test_tlbp_2 : ends .tlbp (onCp0 ({ start 0x30400004#32 [] [] with tlb := onePage false 7 }) fun c => { c
      with entryHi := 0x200008#64, index := 0x3F#32 })
    (fun t => t.pc == 0xFFFFFFFFA0001004#64) = true := by decide +kernel
theorem test_tlbr : ends .tlbr (onCp0 ({ start 0x30400004#32 [] [] with tlb := onePage false 7 }) fun c => { c
      with index := 5#32 })
    (fun t => t.cp0.entryLo0 == 0xC016#64 && t.cp0.entryLo1 == 0xC052#64 && t.cp0.pageMask == 0#32 &&
      t.cp0.entryHi == 0x200007#64) = true := by decide +kernel
theorem test_eret : ends .eret (onCp0 (start 0x30400006#32 [] []) fun c => { c
      with epc := 0xFFFFFFFFA0002000#64, errorEpc := 0xFFFFFFFFBFC00000#64 })
    (fun t => t.cp0.status == 0x30400002#32 && t.pc == 0xFFFFFFFFA0002000#64) = true := by decide +kernel
theorem test_eret_2 : ends .eret (onCp0 (start 0x30400012#32 [] []) fun c => { c with epc := 0x400000#64 })
    (fun t => t.cp0.status == 0x30400010#32 && t.pc == 0x400000#64) = true := by decide +kernel
theorem test_exception_in_slot : ends (.syscall 0#20) { start 0x30000000#32 [] []
      with delay := some 0xFFFFFFFFA0002000#64 }
    (fun t => t.cp0.status == 0x30000002#32 && t.cp0.epc == 0xFFFFFFFFA0000FFC#64 &&
      t.pc == 0xFFFFFFFF80000180#64) = true := by decide +kernel
theorem test_exception_nested : ends (.syscall 0#20) (onCp0 (start 0x30000002#32 [] []) fun c => { c
      with cause := 0x80000000#32, epc := 0x1111#64 })
    (fun t => t.pc == 0xFFFFFFFF80000180#64) = true := by decide +kernel
theorem test_watch : ends (.lw 3#5 2#5 0#16) (onCp0 (start 0x30000000#32
      [(3, 0xFFFFFFFFA0000100#64), (2, 0x99#64)] []) fun c => { c with watch := 0xFFFFFFFFA0000102#64 })
    (fun t => t.cp0.status == 0x30000002#32 && t.cp0.epc == 0xFFFFFFFFA0001000#64 &&
      t.pc == 0xFFFFFFFF80000180#64) = true := by decide +kernel
theorem test_tlb_load : ends (.lw 3#5 2#5 4#16) (onCp0 { start 0x30000010#32 [(3, 0x402000#64)] []
      with pc := 0x400000#64, tlb := mappedPages } fun c => { c
      with entryHi := 5#64, context := 0xFFFFFFFF80000000#64, xcontext := 0x200000000#64 })
    (fun t => t.readGpr 2#5 == 0x12345678#64) = true := by decide +kernel
theorem test_tlb_modified : ends (.sw 3#5 2#5 0#16) (onCp0 { start 0x30000010#32 [(3, 0x403000#64)] []
      with pc := 0x400000#64, tlb := mappedPages } fun c => { c
      with entryHi := 5#64, context := 0xFFFFFFFF80000000#64, xcontext := 0x200000000#64 })
    (fun t => t.cp0.context == 0xFFFFFFFF80002010#64 && t.cp0.badVAddr == 0x403000#64 &&
      t.cp0.entryHi == 0x402005#64 && t.cp0.status == 0x30000012#32 && t.cp0.epc == 0x400000#64 && t.cp0.xcontext == 0x200002010#64 &&
      t.pc == 0xFFFFFFFF80000180#64) = true := by decide +kernel
theorem test_segment_error : ends (.lw 3#5 2#5 0#16) (onCp0 { start 0x30000010#32 [(3, 0x10000000000#64)] []
      with pc := 0x400000#64, tlb := mappedPages } fun c => { c
      with entryHi := 5#64, context := 0xFFFFFFFF80000000#64, xcontext := 0x200000000#64 })
    (fun t => t.cp0.badVAddr == 0x10000000000#64 && t.cp0.status == 0x30000012#32 && t.cp0.epc == 0x400000#64 && t.pc == 0xFFFFFFFF80000180#64) = true := by decide +kernel


/-- The fields of TagLo that figure 5-20 draws as 0 ignore a write (10_state.md R54, R56). -/
theorem test_mtc0_tagLo : ends (.mtc0 1#5 28#5) (start 0x30400004#32 [(1, 0xFFFFFFFFFFFFFFFF#64)] [])
    (fun t => t.cp0.tagLo == 0xFFFFFFF0#32 && t.readCp0 28#5 == 0xFFFFFFFFFFFFFFF0#64) = true := by decide +kernel
/-- KSU = 11 with EXL = ERL = 0 stops the step, an enabled interrupt pending (10_state.md R37). -/
theorem test_ksuReserved : (match step (onCp0 (start 0x34000119#32 [] []) fun c => { c with cause := 0x100#32 }) with
    | .fault f => f == .ksuReserved
    | _ => false) = true := by decide +kernel


/-! CACHE operations on the line of physical address 0x2040 (set 0x102), with the results of the vectors of
97_test_vectors_system.md. -/

/-- A line with the same doubleword four times. -/
def lineOf (v : Word) : Line := lineOfWords v v v v

/-- The line dirty in way 2 of the data cache, in way 1 of the secondary cache in a state, and in way 0 of the
instruction cache; r3 holds its CKSEG0 address, CKSEG0 is cached. -/
def cachedLine (sstate : BitVec 2) (lo hi : BitVec 32) : State :=
  let s := start 0x30400000#32 [(3, 0xFFFFFFFF80002040#64)] []
  { onCp0 s (fun c => { c with k0 := 3#3, tagLo := lo, tagHi := hi }) with
    bus := { s.bus with
      mem := memWrite testMemory 0x2040 8 0x33
      icache := [(1032, { v := true, ptag := 2#28, data := lineOf 0x44#64 })]
      dcache := [(1034, { cs := 3#2, ptag := 2#28, scway := 1#2, w := false, data := lineOf 0x1122334455667788#64 })]
      scache := [(1033, { tag := 0#23, state := sstate, data := lineOf 0x22#64 })] } }

theorem test_cacheIndexInvalidateI : ends (.cacheIndexInvalidateI 3#5 3#16) (cachedLine 2#2 0#32 0#32)
    (fun t => !(t.bus.iLine 1032).v && (t.bus.iLine 1032).ptag == 2#28 && (t.bus.dLine 1034).cs == 3#2) = true := by
  decide +kernel
theorem test_cacheIndexWritebackInvalidateD :
    ends (.cacheIndexWritebackInvalidateD 3#5 2#16) (cachedLine 2#2 0#32 0#32)
      (fun t => (t.bus.dLine 1034).cs == 0#2 && (t.bus.sLine 1033).data == lineOf 0x1122334455667788#64 &&
        memRead t.bus.mem 0x2040 8 == 0x33) = true := by decide +kernel
theorem test_cacheIndexWritebackInvalidateS :
    ends (.cacheIndexWritebackInvalidateS 3#5 1#16) (cachedLine 3#2 0#32 0#32)
      (fun t => (t.bus.dLine 1034).cs == 0#2 && (t.bus.sLine 1033).state == 0#2 &&
        memRead t.bus.mem 0x2058 8 == 0x1122334455667788) = true := by decide +kernel
theorem test_cacheIndexLoadTagS : ends (.cacheIndexLoadTagS 3#5 3#16)
    (let s := cachedLine 2#2 0#32 0#32
     { s with bus := { s.bus with scache := [(1035, { tag := 0x50091A#23, state := 3#2, data := 0#256 })] } })
    (fun t => t.cp0.tagLo == 0x01234C00#32 && t.cp0.tagHi == 0xA#32) = true := by decide +kernel
theorem test_cacheIndexStoreTagD : ends (.cacheIndexStoreTagD 3#5 3#16) (cachedLine 2#2 0x012342A0#32 0xA#32)
    (fun t => (t.bus.dLine 1035).ptag == 0xA012342#28 && (t.bus.dLine 1035).cs == 2#2 &&
      (t.bus.dLine 1035).scway == 2#2) = true := by decide +kernel
theorem test_cacheIndexStoreTagS : ends (.cacheIndexStoreTagS 3#5 1#16) (cachedLine 2#2 0x01234C00#32 0xA#32)
    (fun t => (t.bus.sLine 1033).tag == 0x50091A#23 && (t.bus.sLine 1033).state == 3#2 &&
      (t.bus.sLine 1033).data == lineOf 0x22#64 && (t.bus.dLine 1034).cs == 3#2) = true := by decide +kernel
theorem test_cacheHitInvalidateD : ends (.cacheHitInvalidateD 3#5 0#16) (cachedLine 2#2 0#32 0#32)
    (fun t => (t.bus.dLine 1034).cs == 0#2 && (t.bus.sLine 1033).data == lineOf 0x22#64 &&
      (t.bus.sLine 1033).state == 2#2) = true := by decide +kernel
theorem test_cacheHitInvalidateS : ends (.cacheHitInvalidateS 3#5 0#16) (cachedLine 3#2 0#32 0#32)
    (fun t => !(t.bus.iLine 1032).v && (t.bus.dLine 1034).cs == 0#2 && (t.bus.sLine 1033).state == 0#2 &&
      memRead t.bus.mem 0x2040 8 == 0x33) = true := by decide +kernel
theorem test_cacheHitWritebackInvalidateD : ends (.cacheHitWritebackInvalidateD 3#5 0#16) (cachedLine 2#2 0#32 0#32)
    (fun t => (t.bus.dLine 1034).cs == 0#2 && (t.bus.sLine 1033).data == lineOf 0x1122334455667788#64 &&
      memRead t.bus.mem 0x2040 8 == 0x33) = true := by decide +kernel
theorem test_cacheHitWritebackInvalidateS : ends (.cacheHitWritebackInvalidateS 3#5 0#16) (cachedLine 2#2 0#32 0#32)
    (fun t => (t.bus.dLine 1034).cs == 0#2 && (t.bus.sLine 1033).state == 0#2 &&
      memRead t.bus.mem 0x2040 8 == 0x1122334455667788) = true := by decide +kernel
theorem test_cacheIndexLoadDataD : ends (.cacheIndexLoadDataD 3#5 10#16) (cachedLine 2#2 0#32 0#32)
    (fun t => t.cp0.tagHi == 0x11223344#32 && t.cp0.tagLo == 0x55667788#32) = true := by decide +kernel
theorem test_cacheIndexLoadDataS : ends (.cacheIndexLoadDataS 3#5 17#16)
    (let s := cachedLine 2#2 0#32 0#32
     { s with bus := { s.bus with
        scache := [(1033, { tag := 0#23, state := 2#2, data := lineOfWords 0#64 0#64 0x0102030405060708#64 0#64 })] } })
    (fun t => t.cp0.tagHi == 0x01020304#32 && t.cp0.tagLo == 0x05060708#32) = true := by decide +kernel
theorem test_cacheIndexStoreDataD : ends (.cacheIndexStoreDataD 3#5 10#16) (cachedLine 2#2 0xEEFF0011#32 0xAABBCCDD#32)
    (fun t => (t.bus.dLine 1034).data ==
      lineOfWords 0x1122334455667788#64 0xAABBCCDDEEFF0011#64 0x1122334455667788#64 0x1122334455667788#64 &&
      (t.bus.dLine 1034).cs == 3#2) = true := by decide +kernel
theorem test_cacheIndexStoreDataS : ends (.cacheIndexStoreDataS 3#5 17#16) (cachedLine 2#2 0xEEFF0011#32 0xAABBCCDD#32)
    (fun t => (t.bus.sLine 1033).data == lineOfWords 0x22#64 0x22#64 0xAABBCCDDEEFF0011#64 0x22#64 &&
      (t.bus.sLine 1033).state == 2#2) = true := by decide +kernel
/-- TagLo after Index Load Tag (D), whatever TagHi[31:29]. -/
theorem test_loadTagD (s : State) (d : Line) :
    (s.loadTagD { cs := 2#2, ptag := 0xA012342#28, scway := 2#2, w := false, data := d }).cp0.tagLo = 0x012342A0#32 := by
  simp only [State.loadTagD, State.setTags, low32, BitVec.setWidth_append_eq_right]
  decide
/-- An uncached address: attribute 2 of CKSEG0 and of CKSEG1. -/
theorem test_cacheOnUncached : exec (.cacheHitInvalidateD 3#5 0#16) (onCp0 (cachedLine 2#2 0#32 0#32) fun c =>
    { c with k0 := 2#3 }) = .fault .cacheOnUncached := rfl
/-- User mode with U-Mode set: the invalidate operations run, the tag operations do not. -/
theorem test_cacheUserMode : ends (.cacheIndexLoadTagD 5#5 0#16) (onCp0 { start 0x20000010#32 [(5, 0x402040#64)] []
      with pc := 0x400000#64, tlb := mappedPages } fun c => { c with diagnostic := 0x100#64 })
    (fun t => t.cp0.status == 0x20000012#32 && causeOf t == 0x2C#32 && t.pc == 0xFFFFFFFF80000180#64) = true := by
  decide +kernel

/-! Ill-formed terms: each check of `WellFormed` refuses one and accepts its neighbour. -/

theorem test_wellFormed_jalr : WellFormed (.jalr 1#5 1#5) = false ∧ WellFormed (.jalr 1#5 31#5) = true := by decide
theorem test_wellFormed_bltzal : WellFormed (.bltzal 31#5 4#16) = false ∧ WellFormed (.bltzal 30#5 4#16) = true := by
  decide
theorem test_wellFormed_bgezal : WellFormed (.bgezal 31#5 4#16) = false ∧ WellFormed (.bgezal 0#5 4#16) = true := by
  decide
theorem test_wellFormed_bltzall : WellFormed (.bltzall 31#5 4#16) = false ∧ WellFormed (.bltzall 1#5 4#16) = true := by
  decide
theorem test_wellFormed_bgezall : WellFormed (.bgezall 31#5 4#16) = false ∧ WellFormed (.bgezall 1#5 4#16) = true := by
  decide
theorem test_wellFormed_ll : WellFormed (.ll 3#5 0#5 0#16) = false ∧ WellFormed (.ll 3#5 1#5 0#16) = true := by decide
theorem test_wellFormed_lld : WellFormed (.lld 3#5 0#5 0#16) = false ∧ WellFormed (.lld 3#5 1#5 0#16) = true := by decide
theorem test_wellFormed_cfc1 : WellFormed (.cfc1 2#5 1#5) = false ∧ WellFormed (.cfc1 2#5 31#5) = true := by decide
theorem test_wellFormed_ctc1 : WellFormed (.ctc1 2#5 30#5) = false ∧ WellFormed (.ctc1 2#5 0#5) = true := by decide

/-! Words of every family, written out field by field from the tables of 30_encoding.md R165 to R174. -/

/-- LW r2, -8(r29): op 100011, base 11101, rt 00010, offset. -/
theorem test_decode_load : decode 0b10001111101000101111111111111000#32 = .ok (.lw 29#5 2#5 0xFFF8#16) := by
  decide +kernel
/-- SDR r7, 3(r1): op 101101, base 00001, rt 00111, offset. -/
theorem test_decode_store : decode 0b10110100001001110000000000000011#32 = .ok (.sdr 1#5 7#5 3#16) := by decide +kernel
/-- LDC1 f2, 8(r3): op 110101, base 00011, ft 00010, offset. -/
theorem test_decode_fpLoad : decode 0b11010100011000100000000000001000#32 = .ok (.ldc1 3#5 2#5 8#16) := by decide +kernel
/-- DADDIU r4, r5, -1: op 011001, rs 00101, rt 00100, immediate. -/
theorem test_decode_aluImmediate : decode 0b01100100101001001111111111111111#32 = .ok (.daddiu 5#5 4#5 0xFFFF#16) := by
  decide +kernel
/-- NOR r3, r1, r2: op 000000, rs 00001, rt 00010, rd 00011, 00000, funct 100111. -/
theorem test_decode_aluRegister : decode 0b00000000001000100001100000100111#32 = .ok (.nor 1#5 2#5 3#5) := by
  decide +kernel
/-- DMODUG r3, r1, r2: op 011100, rs 00001, rt 00010, rd 00011, 00000, funct 011111. -/
theorem test_decode_mulDiv : decode 0b01110000001000100001100000011111#32 = .ok (.dmodug 1#5 2#5 3#5) := by
  decide +kernel
/-- DSRA32 r3, r1, 31: op 000000, 00000, rt 00001, rd 00011, sa 11111, funct 111111. -/
theorem test_decode_shift : decode 0b00000000000000010001111111111111#32 = .ok (.dsra32 1#5 3#5 31#5) := by decide +kernel
/-- BGEZALL r9, 4: op 000001, rs 01001, selector 10011, offset. -/
theorem test_decode_branch : decode 0b00000101001100110000000000000100#32 = .ok (.bgezall 9#5 4#16) := by decide +kernel
/-- TNE r1, r2 with code 1: op 000000, rs 00001, rt 00010, code 0000000001, funct 110110. -/
theorem test_decode_trap : decode 0b00000000001000100000000001110110#32 = .ok (.tne 1#5 2#5 1#10) := by decide +kernel
/-- DMTC0 r1, entryhi: op 010000, 00101, rt 00001, rd 01010, zeros. -/
theorem test_decode_cp0 : decode 0b01000000101000010101000000000000#32 = .ok (.dmtc0 1#5 10#5) := by decide +kernel
/-- CACHE 17, 0(r3): op 101111, base 00011, operation 10001, offset. -/
theorem test_decode_cache : decode 0b10111100011100010000000000000000#32 = .ok (.cacheHitInvalidateD 3#5 0#16) := by
  decide +kernel
/-- SUB.D f0, f1, f2: op 010001, fmt 10001, ft 00010, fs 00001, fd 00000, funct 000001. -/
theorem test_decode_fpArith : decode 0b01000110001000100000100000000001#32 = .ok (.subD 2#5 1#5 0#5) := by decide +kernel
/-- CVT.S.L f3, f4: op 010001, fmt 10101, 00000, fs 00100, fd 00011, funct 100000. -/
theorem test_decode_fpConvert : decode 0b01000110101000000010000011100000#32 = .ok (.cvtSL 4#5 3#5) := by decide +kernel
/-- DMTC1 r2, f1: op 010001, 00101, rt 00010, fs 00001, zeros. -/
theorem test_decode_fpMove : decode 0b01000100101000100000100000000000#32 = .ok (.dmtc1 2#5 1#5) := by decide +kernel
/-- C.ULE.S f1, f2: op 010001, fmt 10000, ft 00010, fs 00001, 00000, funct 110111. -/
theorem test_decode_fpCompare : decode 0b01000110000000100000100000110111#32 = .ok (.cUleS 2#5 1#5) := by decide +kernel
/-- MUL.PS f0, f1, f2: op 010001, fmt 10110, ft 00010, fs 00001, fd 00000, funct 000010. -/
theorem test_decode_fpPaired : decode 0b01000110110000100000100000000010#32 = .ok (.mulPs 2#5 1#5 0#5) := by decide +kernel
/-- NMSUB.D f0, f1, f2: op 011100, fmt 10001, ft 00010, fs 00001, fd 00000, funct 011011. -/
theorem test_decode_madd : decode 0b01110010001000100000100000011011#32 = .ok (.nmsubD 2#5 1#5 0#5) := by decide +kernel
/-- A non-zero shift amount in ADDU is outside the spec; SPECIAL function 5 is reserved (R175, R177). -/
theorem test_decode_rejects : decode 0x00221861#32 = .error .outsideSpec ∧
    decode 0x00000005#32 = .error .reservedInstruction := by decide +kernel
/-- The conditional-move positions of SPECIAL are outside the spec (R176 (a)). -/
theorem test_decode_moves : decode 0x00000001#32 = .error .outsideSpec ∧
    decode 0x0022180A#32 = .error .outsideSpec ∧ decode 0x0022180B#32 = .error .outsideSpec := by decide +kernel

/-! The table word interface: the decoder reads the row, and the step after reset runs it. -/

/-- 0x24220001 is ADDIU r2, r1, 1; the step from reset leaves 1 in r2 and goes on to the next address. -/
theorem test_first_step : decodeTableWord 32 0x24220001 = some (.addiu 1#5 2#5 1#16) ∧
    (match step (State.reset.withFetchWord 32 0x24220001) with
     | .next t => t.readGpr 2#5 == 1#64 && t.pc == 0xFFFFFFFFBFC00004#64
     | _ => false) = true := by decide +kernel

/-! The canonical form of memory. -/

/-- Writing the value an unlisted address reads as removes the entry (log 2). -/
theorem test_memory_canonical : memWrite (memWrite [] 0x100 4 0x11223344) 0x100 4 0 = [] ∧
    Memory.wf (memWrite (memWrite [] 0x200 2 0x1122) 0x100 4 0x33000044) := by decide

/-! Witnesses: for every statement with hypotheses, states and operands that meet them, clause by clause. -/

/-- The state after an outcome that is a next state. -/
def nextOf (o : Outcome) : State :=
  match o with
  | .next t => t
  | _ => State.reset

/-- Whether an outcome is a next state. -/
def isNext (o : Outcome) : Bool :=
  match o with
  | .next _ => true
  | _ => false

theorem next_nextOf {o : Outcome} (h : isNext o = true) : o = .next (nextOf o) := by
  cases o <;> simp_all [isNext, nextOf]

/-- Whether a data access succeeds. -/
def memOk {α : Type} (r : MemResult α) : Bool :=
  match r with
  | .ok _ _ => true
  | _ => false

theorem exists_of_memOk {α : Type} {r : MemResult α} (h : memOk r = true) : ∃ v b, r = .ok v b := by
  cases r <;> simp_all [memOk]

/-- Whether a bus access succeeds. -/
def busOk {α : Type} (r : BusResult α) : Bool :=
  match r with
  | .ok _ _ => true
  | _ => false

theorem exists_of_busOk {α : Type} {r : BusResult α} (h : busOk r = true) : ∃ a b, r = .ok a b := by
  cases r <;> simp_all [busOk]

/-- The bus after an access that succeeds. -/
def busOf (r : BusResult Unit) : Bus :=
  match r with
  | .ok _ b => b
  | _ => Bus.reset

theorem ok_busOf {r : BusResult Unit} (h : busOk r = true) : r = .ok () (busOf r) := by
  cases r <;> simp_all [busOk, busOf]

/-- With no reset requested, a defined mode and interrupts off, an instruction runs after a tick. -/
theorem quiet_boundary (s : State) (m : Mode) (hm : modeOf s.cp0.status = some m)
    (h : (s.coldResetRequest || s.nmiRequest || s.softResetRequest) = false)
    (hs : statusIe s.cp0.status = false) : s.tick.boundary = .run { s.tick with irqWait := none } := by
  simp_all [State.boundary, State.sampleInterrupt, State.interruptReady, State.tick]

/-- The exception of a fetch translation. -/
def fetchExc (f : FetchTranslation) : Option Exc :=
  match f with
  | .exc e => some e
  | _ => none

theorem exc_of_fetchExc {f : FetchTranslation} {e : Exc} (h : fetchExc f = some e) : f = .exc e := by
  cases f <;> simp_all [fetchExc]

/-- Whether the fetch reads this word. -/
def fetches (w : BitVec 32) (f : Fetched) : Bool :=
  match f with
  | .word v _ => v == w
  | _ => false

theorem exists_of_fetches {w : BitVec 32} {f : Fetched} (h : fetches w f = true) : ∃ t, f = .word w t := by
  cases f <;> simp_all [fetches]

/-- Kernel mode, both coprocessors usable, FR = 1. -/
def kernelState : State :=
  start 0x34000000#32 [(1, 0x7FFFFFFF#64), (2, 1#64), (3, 0xFFFFFFFFA0000100#64), (4, 0x8000000000000000#64)]
    [(1, 0x3F800000#64), (2, 0x40000000#64), (3, 1#64)]

/-- User mode, coprocessor 0 closed. -/
def userState : State := { start 0x20000010#32 [] [] with pc := 0x400000#64, tlb := mappedPages }

/-- The last address at which an instruction that goes on to the next one completes, and at which a branch does. -/
theorem witness_advance_boundary : ({ kernelState with pc := 0xFFFFFFFFFFFFFFF8#64 } : State).CanAdvance ∧
    ({ kernelState with pc := 0xFFFFFFFFFFFFFFFC#64, delay := some 0#64 } : State).CanAdvance ∧
    ({ kernelState with pc := 0xFFFFFFFFFFFFFFF8#64 } : State).CanBranch := by decide +kernel

theorem witness_ImmediateArithmetic : kernelState.CanAdvance := by decide +kernel
theorem witness_LogicalImmediates : kernelState.CanAdvance := by decide +kernel
theorem witness_RegisterArithmetic : kernelState.CanAdvance := by decide +kernel
theorem witness_ProductsAndHiLo : kernelState.CanAdvance := by decide +kernel
theorem witness_Shifts : kernelState.CanAdvance := by decide +kernel
/-- The TLB of reset with two entries for one address. -/
def twicePages : Vector TlbEntry 64 :=
  (mappedPages.set 7 (pagePair 0x201#27 true 0#8 (page 0x302#28 true true) (page 0x303#28 false true)))

/-- A load to register 0 at an address that two entries match stops (20_memory.md R119). -/
theorem test_lw_zero_multiple : (match exec (.lw 3#5 0#5 0#16) (onCp0 { start 0x30000010#32 [(3, 0x402000#64)] [] with
      tlb := twicePages } fun c => { c with entryHi := 5#64 }) with
    | .fault f => f == .tlbMultipleMatch
    | _ => false) = true := by decide +kernel

/-- An uncached, a cacheable and a misaligned cacheable address, one outside every segment, and one that two entries
match. -/
theorem witness_LoadToZero : kernelState.CanAdvance ∧
    kernelState.translateData false 0xFFFFFFFFA0000100#64 = .ok 0x100#40 2#3 ∧
    (onCp0 kernelState fun c => { c with k0 := 3#3 }).translateData false 0xFFFFFFFF80000101#64 = .ok 0x101#40 3#3 ∧
    kernelState.translateData false 0x8000010000000000#64 = .exc (.addressError false 0x8000010000000000#64) ∧
    (onCp0 { userState with tlb := twicePages } fun c => { c with entryHi := 5#64 }).translateData false 0x402000#64 =
      .stop .tlbMultipleMatch ∧
    kernelState.bus.uca = none ∧ kernelState.bus.dataCached 0x101#40 = false ∧
    (kernelState.bus.historyOf ((0x101#40).toNat / 32)).cached = false ∧
    kernelState.bus.regionOf (0x118#40).toNat = .ram ∧ (0x118#40).toNat / 32 = (0x101#40).toNat / 32 ∧
    (0x118#40).toNat % 32 + 8 ≤ 32 := by
  decide +kernel

/-- 0x7FFFFFFF + 1 overflows, 0x7FFFFFFF + 0 does not; -2^63 - 1 overflows, -2^63 - 0 does not. -/
theorem witness_SignedOverflow :
    (let a : BitVec 32 := (kernelState.readGpr 1#5).setWidth 32
     let b : BitVec 32 := (kernelState.readGpr 2#5).setWidth 32
     let c := kernelState.readGpr 4#5
     let d := kernelState.readGpr 2#5
     (a.msb = b.msb ∧ (a + b).msb ≠ a.msb) ∧ ¬(a.msb = (0#32).msb ∧ (a + 0#32).msb ≠ a.msb) ∧
       (c.msb ≠ d.msb ∧ (c - d).msb ≠ c.msb) ∧ ¬(c.msb ≠ (0#64).msb ∧ (c - 0#64).msb ≠ c.msb)) ∧
      kernelState.CanAdvance ∧ kernelState.cp0.status.getLsbD 1 = false := by decide +kernel

/-- Divisor 1 and divisor 0, and a divisor whose low word alone is 0. -/
theorem witness_Quotients : kernelState.CanAdvance ∧ ((kernelState.readGpr 2#5).setWidth 32).toNat ≠ 0 ∧
    kernelState.readGpr 2#5 ≠ 0#64 ∧ ((kernelState.readGpr 4#5).setWidth 32).toNat = 0 ∧
    kernelState.readGpr 4#5 ≠ 0#64 ∧ kernelState.readGpr 0#5 = 0#64 := by decide +kernel

/-- Equal operands and operands that differ by sign: each condition holds and fails. -/
theorem witness_ConditionalTraps : kernelState.CanAdvance ∧
    (let a := kernelState.readGpr 1#5
     let c := kernelState.readGpr 4#5
     a.toInt ≤ a.toInt ∧ ¬a.toInt < a.toInt ∧ c.toInt < a.toInt ∧ a.toNat < c.toNat ∧ a ≠ c ∧
       (0xFFFF#16).toInt ≤ a.toInt ∧ ¬(0xFFFF#16).toInt % 2 ^ 64 ≤ a.toNat ∧ c.toInt < (0x8000#16).toInt ∧
       a.toNat < (0xFFFF#16).toInt % 2 ^ 64 ∧ (kernelState.readGpr 2#5).toInt = (1#16).toInt) := by decide +kernel

theorem witness_CallsAndReturn : kernelState.cp0.status.getLsbD 1 = false ∧ kernelState.cp0.status.getLsbD 2 = false ∧
    kernelState.delay = none := by decide +kernel
theorem witness_Jumps : kernelState.CanBranch ∧ (31#5 : RegNum) ≠ 1#5 := by decide +kernel

/-- A register at 0, above it and below it; equal and different registers; the condition bit clear and set. -/
theorem witness_ConditionalBranches : kernelState.CanBranch ∧ kernelState.Cp1Usable ∧
    kernelState.readGpr 0#5 = kernelState.readGpr 0#5 ∧ kernelState.readGpr 1#5 ≠ kernelState.readGpr 0#5 ∧
    (kernelState.readGpr 0#5).toInt = 0 ∧ 0 < (kernelState.readGpr 1#5).toInt ∧ (kernelState.readGpr 4#5).toInt < 0 ∧
    kernelState.fcsr.getLsbD 23 = false ∧
    (let t : State := { kernelState with fcsr := 0x00800000#32 }
     t.CanBranch ∧ t.Cp1Usable ∧ t.fcsr.getLsbD 23 = true) := by decide +kernel

theorem witness_LinkingBranches : kernelState.CanBranch ∧ (4#5 : RegNum) ≠ 31#5 ∧ (0#5 : RegNum) ≠ 31#5 ∧
    (kernelState.readGpr 4#5).toInt < 0 ∧ 0 ≤ (kernelState.readGpr 0#5).toInt := by decide +kernel

/-- A delay slot; the disabled units; an odd register while FR = 0. -/
theorem witness_RefusedForms :
    (let s : State := { kernelState with delay := some 0xFFFFFFFFA0002000#64 }
     s.delay ≠ none ∧ (31#5 : RegNum) ≠ 1#5 ∧ (1#5 : RegNum) ≠ 31#5 ∧ s.Cp1Usable) ∧
      (let s : State := { kernelState with pc := 0xFFFFFFFFFFFFFFFC#64 }
       s.delay = none ∧ s.pc = 0xFFFFFFFFFFFFFFFC#64) ∧
      (let s := start 0x31800000#32 [] []
       s.Cp1Usable ∧ (1#5 : RegNum) ≠ 0#5 ∧ (30#5 : RegNum) ≠ 31#5 ∧ s.cp0.status.getLsbD 24 = true ∧
         s.cp0.status.getLsbD 23 = true ∧ s.cp0.status.getLsbD 26 = false) ∧
      (let s := start 0x30000000#32 [] []
       s.Cp1Usable ∧ s.cp0.status.getLsbD 26 = false ∧ s.cp0.status.getLsbD 24 = false ∧
         s.cp0.status.getLsbD 23 = false ∧ (1#5 : RegNum).toNat % 2 = 1 ∧ (31#5 : RegNum).toNat % 2 = 1) := by
  decide +kernel

theorem kernelState_usable : kernelState.Cp0Usable := ⟨.kernel, by decide +kernel⟩

theorem witness_RefusedForms_eret :
    ({ kernelState with delay := some 0xFFFFFFFFA0002000#64 } : State).Cp0Usable :=
  ⟨.kernel, by decide +kernel⟩

/-- Each width succeeds at an aligned address. -/
theorem witness_AccessCompletes : kernelState.CanAdvance ∧ kernelState.Cp1Usable ∧ (2#5 : RegNum) ≠ 0#5 ∧
    fpr64Ok kernelState.cp0.status 2#5 = true ∧
    kernelState.readGpr 3#5 + (0#16).signExtend 64 = 0xFFFFFFFFA0000100#64 := by
  decide +kernel

theorem witness_AccessCompletes_load : ∀ n ∈ [1, 2, 4, 8],
    ∃ v b, loadData kernelState 0xFFFFFFFFA0000100#64 n = .ok v b := fun n h =>
  exists_of_memOk ((by decide +kernel :
    ∀ n ∈ [1, 2, 4, 8], memOk (loadData kernelState 0xFFFFFFFFA0000100#64 n) = true) n h)

theorem witness_AccessCompletes_store :
    (∃ u b, storeData kernelState 0xFFFFFFFFA0000100#64 1 1#64 = .ok u b) ∧
    (∃ u b, storeData kernelState 0xFFFFFFFFA0000100#64 2 1#64 = .ok u b) ∧
    (∃ u b, storeData kernelState 0xFFFFFFFFA0000100#64 4 1#64 = .ok u b) ∧
    ∃ u b, storeData kernelState 0xFFFFFFFFA0000100#64 8 1#64 = .ok u b :=
  ⟨exists_of_memOk (by decide +kernel), exists_of_memOk (by decide +kernel), exists_of_memOk (by decide +kernel),
    exists_of_memOk (by decide +kernel)⟩

/-- An aligned uncached address of memory, and the last doubleword of memory. -/
theorem witness_UncachedLoads :
    kernelState.ReachesRam false (kernelState.readGpr 3#5 + (0#16).signExtend 64) 0x100#40 ∧
    kernelState.ReachesRam false 0xFFFFFFFFAFFFFDF8#64 0x0FFFFDF8#40 ∧
    kernelState.CanAdvance ∧ kernelState.Cp1Usable ∧ (2#5 : RegNum) ≠ 0#5 ∧
    fpr64Ok kernelState.cp0.status 2#5 = true ∧ (kernelState.readGpr 3#5 + (0#16).signExtend 64).toNat % 8 = 0 :=
  ⟨⟨⟨2#3, by decide +kernel⟩, by decide +kernel⟩, ⟨⟨2#3, by decide +kernel⟩, by decide +kernel⟩, by decide +kernel⟩

theorem witness_UncachedStores :
    kernelState.ReachesRam true (kernelState.readGpr 3#5 + (0#16).signExtend 64) 0x100#40 ∧
    kernelState.CanAdvance ∧ kernelState.Cp1Usable ∧ fpr64Ok kernelState.cp0.status 2#5 = true ∧
    (kernelState.readGpr 3#5 + (0#16).signExtend 64).toNat % 8 = 0 :=
  ⟨⟨⟨2#3, by decide +kernel⟩, by decide +kernel⟩, by decide +kernel⟩

/-- Offsets 0 and 7 of a doubleword. -/
theorem witness_LeftAndRight :
    kernelState.ReachesRam false 0xFFFFFFFFA0000100#64 0x100#40 ∧
    kernelState.ReachesRam true 0xFFFFFFFFA0000107#64 0x107#40 ∧ kernelState.CanAdvance ∧ (2#5 : RegNum) ≠ 0#5 ∧
    kernelState.readGpr 3#5 + (0#16).signExtend 64 = 0xFFFFFFFFA0000100#64 ∧
    kernelState.readGpr 3#5 + (7#16).signExtend 64 = 0xFFFFFFFFA0000107#64 :=
  ⟨⟨⟨2#3, by decide +kernel⟩, by decide +kernel⟩, ⟨⟨2#3, by decide +kernel⟩, by decide +kernel⟩, by decide +kernel⟩

/-- An unaligned word at offset 1 and an unaligned doubleword at offset 7: all hypotheses, both instructions included. -/
theorem witness_UnalignedPairs :
    (2#5 : RegNum) ≠ 0#5 ∧ (3#5 : RegNum) ≠ 2#5 ∧
    (∀ p ∈ [(1#16, 0x101#40), (4#16, 0x104#40), (7#16, 0x107#40), (14#16, 0x10E#40)],
      (∃ c, kernelState.translateData false (kernelState.readGpr 3#5 + p.1.signExtend 64) = .ok p.2 c ∧
          attrOf c = .uncached) ∧
        kernelState.watchHit false (kernelState.readGpr 3#5 + p.1.signExtend 64) = false ∧
        kernelState.bus.regionOf p.2.toNat = .ram ∧ kernelState.bus.uca = none ∧ kernelState.bus.dataCached p.2 = false ∧
        (kernelState.bus.historyOf (lineNumber p.2)).cached = false ∧ p.2.toNat % 8 = (kernelState.readGpr 3#5 + p.1.signExtend 64).toNat % 8) ∧
    (∃ t u, exec (.lwr 3#5 2#5 1#16) kernelState = .next t ∧ exec (.lwl 3#5 2#5 4#16) t = .next u) ∧
    ∃ t u, exec (.ldr 3#5 2#5 7#16) kernelState = .next t ∧ exec (.ldl 3#5 2#5 14#16) t = .next u := by
  refine ⟨by decide, by decide, ?_, ⟨_, _, next_nextOf (by decide +kernel), next_nextOf (by decide +kernel)⟩,
    ⟨_, _, next_nextOf (by decide +kernel), next_nextOf (by decide +kernel)⟩⟩
  intro p hp
  simp only [List.mem_cons, List.not_mem_nil, or_false] at hp
  obtain rfl | rfl | rfl | rfl := hp <;>
    exact ⟨⟨2#3, by decide +kernel⟩, by decide +kernel⟩

/-- Misaligned by one byte for each width, by half a doubleword for 8, and a pc that is not a multiple of 4. -/
theorem witness_MisalignedAccess : ((2#5 : RegNum) ≠ 0#5 ∧ kernelState.Cp1Usable ∧
    fpr64Ok kernelState.cp0.status 2#5 = true ∧
    (∀ n ∈ [2, 4, 8], (kernelState.readGpr 3#5 + (1#16).signExtend 64).toNat % n ≠ 0) ∧
    (kernelState.readGpr 3#5 + (4#16).signExtend 64).toNat % 8 ≠ 0) ∧
    ∃ u, State.boundary { kernelState with pc := 0xFFFFFFFFA0001002#64 }.tick = .run u ∧ u.pc.toNat % 4 ≠ 0 :=
  ⟨by decide +kernel, _,
    quiet_boundary _ .kernel (by decide +kernel) (by decide +kernel) (by decide +kernel), by
      show (0xFFFFFFFFA0001002#64 : Word).toNat % 4 ≠ 0
      decide⟩

/-- A machine whose bus answers nothing at the unclaimed address 0x20000000 (60_exceptions.md R553). -/
def silentState : State :=
  { kernelState with pc := 0x9000000020000000#64, bus := { kernelState.bus with busErrorOnUnclaimed := true } }

/-- A segment address error, a refill, an invalid page, a clean page, and an access that no unit answers, uncached and cached
with the line in no cache. -/
theorem witness_MisalignedAccess_fails :
    (∀ store, kernelState.translateData store 0x8000010000000000#64 =
      .exc (.addressError store 0x8000010000000000#64)) ∧
    (let s := onCp0 userState fun c => { c with entryHi := 5#64 }
     (∀ store, s.translateData store 0x500000#64 = .exc (.tlbRefill store 0x500000#64)) ∧
       (∀ store, s.translateData store 0x404000#64 = .exc (.tlbInvalid store 0x404000#64)) ∧
       s.translateData true 0x403000#64 = .exc (.tlbModified 0x403000#64)) ∧
    (0x403000#64).toNat % 8 = 0 ∧
    (let b := silentState.bus
     silentState.translateData false 0x9000000020000000#64 = .ok 0x20000000#40 2#3 ∧
       silentState.translateData false 0x9800000020000000#64 = .ok 0x20000000#40 3#3 ∧
       silentState.watchHit false 0x9000000020000000#64 = false ∧ silentState.watchHit false 0x9800000020000000#64 = false ∧
       b.regionOf (0x20000000#40).toNat = .unclaimed ∧ b.busErrorOnUnclaimed = true ∧ b.uca = none ∧
       attrOf 2#3 ≠ .cached ∧ b.lookupD 0x9800000020000000#64 0x20000000#40 = .miss ∧
       b.lookupS 0x20000000#40 = .miss) := by decide +kernel

/-- A fetch that no unit answers. -/
theorem witness_MisalignedAccess_fetch : ∃ u, silentState.tick.boundary = .run u ∧ u.pc.toNat % 4 = 0 ∧
    u.translateFetch = .ok 0x20000000#40 2#3 [] ∧ u.bus.regionOf (0x20000000#40).toNat = .unclaimed ∧
    u.bus.busErrorOnUnclaimed = true ∧ u.bus.uca = none ∧ attrOf 2#3 ≠ .cached :=
  ⟨_, quiet_boundary _ .kernel (by decide +kernel) (by decide +kernel) (by decide +kernel), by decide +kernel⟩

/-- Watch names the doubleword of 0xA0000100 for loads and stores, with EXL = ERL = 0 and with EXL set. -/
theorem witness_MisalignedAccess_watch (exl : Bool) :
    (let s := onCp0 kernelState fun c =>
       { c with status := if exl then 0x34000002#32 else 0x34000000#32, watch := 0xFFFFFFFFA0000103#64 }
     s.Cp1Usable ∧ s.cp0.watch.extractLsb' 3 61 = (s.readGpr 3#5 + (0#16).signExtend 64).extractLsb' 3 61 ∧
       s.cp0.watch.getLsbD 1 = true ∧ s.cp0.watch.getLsbD 0 = true ∧
       (∀ store, s.translateData store (s.readGpr 3#5 + (0#16).signExtend 64) = .ok 0x100#40 2#3) ∧
       (s.readGpr 3#5 + (0#16).signExtend 64).toNat % 8 = 0 ∧ fpr64Ok s.cp0.status 2#5 = true ∧
       s.cp0.status.getLsbD 1 = exl ∧ s.cp0.status.getLsbD 2 = false) := by
  revert exl
  decide +kernel

theorem witness_ConditionalStores :
    kernelState.ReachesRam true (kernelState.readGpr 3#5 + (0#16).signExtend 64) 0x100#40 ∧
    ({ kernelState with llbit := true } : State).ReachesRam true 0xFFFFFFFFA0000100#64 0x100#40 ∧
    kernelState.CanAdvance ∧ kernelState.llbit = false ∧ ({ kernelState with llbit := true } : State).CanAdvance ∧
    (kernelState.readGpr 3#5 + (0#16).signExtend 64).toNat % 8 = 0 :=
  ⟨⟨⟨2#3, by decide +kernel⟩, by decide +kernel⟩, ⟨⟨2#3, by decide +kernel⟩, by decide +kernel⟩, by decide +kernel⟩

/-- A gather buffer that holds bytes 0 and 31 of the line at 0x100, or these valid bytes of it. -/
def gathered (valid : BitVec 32) : UcaBuffer := { line := 8#35, valid := valid, data := 0x11#256 }

/-- An empty gather buffer, and one with two bytes of the line at 0x100, which lie in memory. -/
theorem witness_SyncDrains : kernelState.CanAdvance ∧ kernelState.bus.uca = none ∧
    (∃ a b, ({ kernelState.bus with uca := some (gathered 0x80000001#32) } : Bus).drain kernelState.seq = .ok a b) ∧
    (∀ n < 32, kernelState.bus.regionOf (8 * 32 + n) = .ram) ∧ kernelState.bus.dataCached (8#35 ++ 0#5) = false :=
  ⟨by decide +kernel, by decide +kernel, exists_of_busOk (by decide +kernel), by decide +kernel⟩

/-- A store of attribute 7 to 0x118: with nothing gathered, with the first and the last byte gathered, with all but the last
doubleword gathered, and with bytes of another line gathered. -/
theorem witness_SyncDrains_gather :
    (let s := start 0x34000000#32 [(3, 0xB800000000000118#64)] []
     let mine (n : Nat) : Prop := 0x118 % 32 ≤ n ∧ n < 0x118 % 32 + 8
     s.CanAdvance ∧ s.Cp1Usable ∧ fpr64Ok s.cp0.status 2#5 = true ∧
       s.translateData true (s.readGpr 3#5 + (0#16).signExtend 64) = .ok 0x118#40 7#3 ∧
       s.watchHit true (s.readGpr 3#5 + (0#16).signExtend 64) = false ∧
       (s.readGpr 3#5 + (0#16).signExtend 64).toNat % 8 = 0 ∧ s.bus.uca = none ∧
       (8#35).toNat = (0x118#40).toNat / 32 ∧ (9#35).toNat ≠ (0x118#40).toNat / 32 ∧
       ((gathered 0x80000001#32).valid.getLsbD 1 = false ∧ ¬mine 1) ∧
       (∀ n < 32, (gathered 0x00FFFFFF#32).valid.getLsbD n = true ∨ mine n) ∧
       ∀ n < 64, s.bus.regionOf (8 * 32 + n) = .ram) := by
  decide +kernel

/-- A bus with the line of 0x100 clean in the data cache and in the secondary cache. -/
def cachedBus : Bus :=
  { kernelState.bus with
    dcache := [(32, { cs := 2#2, ptag := 0#28, scway := 0#2, w := false, data := 0x99#256 })]
    scache := [(32, { tag := 0#23, state := 2#2, data := 0x99#256 })] }

/-- The last doubleword of a line that is in the cache. -/
theorem witness_CachedStoreForwarded :
    (8 : Nat) ≤ 8 ∧ lineOffset 0x118#40 + 8 ≤ 32 ∧ ∃ b1,
      cachedBus.cachedWrite 0 0xFFFFFFFF80000118#64 0x118#40 8 0x1234#64 = .ok () b1 ∧
        (b1.historyOf ((0x118#40).toNat / 32)).mixedCached (colourBit 0xFFFFFFFF80000118#64) = false :=
  ⟨by decide, by decide +kernel, busOf _, ok_busOf (by decide +kernel), by decide +kernel⟩

/-- Each access of the second clause, another colour, and a fetch of a line of memory that no cache holds. -/
theorem witness_CachedStoreForwarded_history :
    (∃ a b1, cachedBus.cachedRead 0 0xFFFFFFFF80000118#64 0x118#40 8 = .ok a b1) ∧
    (∃ a b1, cachedBus.uncachedWrite 0 0x118#40 8 0x1234#64 = .ok a b1) ∧
    (∃ a b1, cachedBus.uncachedRead 0 0x118#40 8 = .ok a b1) ∧
    (∃ a b1, kernelState.bus.fetchCached 0 0x2100#64 0x20100#40 = .ok a b1) ∧ cachedBus.regionOf 0x118 = .ram ∧
    (0x1118#64).extractLsb' 12 2 ≠ (0xFFFFFFFF80000118#64).extractLsb' 12 2 ∧
    (0x20100#40).toNat % 4096 = (0x2100#64).toNat % 4096 ∧
    kernelState.bus.oldLines 0x2100#64 0x20100#40 = [] ∧ kernelState.bus.lookupI 0x2100#64 0x20100#40 = .miss ∧
    kernelState.bus.dataCached 0x20100#40 = false ∧ kernelState.bus.uca = none ∧
    ∀ n < 32, kernelState.bus.regionOf (0x20100 / 32 * 32 + n) = .ram :=
  ⟨exists_of_busOk (by decide +kernel), exists_of_busOk (by decide +kernel), exists_of_busOk (by decide +kernel),
    exists_of_busOk (by decide +kernel), by decide +kernel⟩

/-- The bus after an uncached store to a line of memory that no cache holds. -/
def storedBus : Bus := busOf (kernelState.bus.uncachedWrite 0 0x104#40 4 0x0BADC0DE#64)

/-- A fetch may see the old line at every colour (20_memory.md R138), and after a hit writeback-invalidate and Index
Invalidate (I) no more at the colour invalidated; a cached read is undefined (R127). -/
theorem test_fetch_sees_old :
    storedBus.oldLines 0x0104#64 0x104#40 = [memLine testMemory 0x100] ∧
    (let b := (storedBus.hitWrittenBack 0x104#40).indexInvalidatedI 8
     b.oldLines 0x0104#64 0x104#40 = [] ∧ b.oldLines 0x1104#64 0x104#40 = [memLine testMemory 0x100]) ∧
    (storedBus.indexInvalidatedI 8).oldLines 0x0104#64 0x104#40 = [memLine testMemory 0x100] ∧
    (storedBus.historyOf 8).mixedCached 1#4 = true ∧
    ((storedBus.hitWrittenBack 0x104#40).historyOf 8).mixedCached 1#4 = false := by decide +kernel

/-- The bus after a gathered store of a word to a line of memory that no cache holds. -/
def gatheredBus : Bus := busOf (kernelState.bus.gather 0 0x118#40 4 0x12345678#64)

/-- After SYNC drains a gathered word, a cached fetch may see the old word or the new one, and no mixture of their bytes
(20_memory.md R138, R128). -/
theorem test_drain_old_or_new :
    (let c := busOf (gatheredBus.drain 0)
     c.uca = none ∧ c.oldLines 0x0118#64 0x118#40 = [memLine testMemory 0x100] ∧
       memLine c.mem 0x100 = linePut (memLine testMemory 0x100) 24 4 0x12345678#64) := by decide +kernel

/-- A gathered store to memory with nothing gathered before, its drain, and a drain of the line alone. -/
theorem witness_CachedStoreForwarded_gathered :
    (∃ a b1, kernelState.bus.gather 0 0x118#40 4 0x12345678#64 = .ok a b1) ∧
    (∃ a b1, gatheredBus.drain 0 = .ok a b1) ∧ (∃ a b1, gatheredBus.drainLine 0 0x104#40 = .ok a b1) ∧
    kernelState.bus.uca = none ∧ kernelState.bus.regionOf (0x118#40).toNat = .ram ∧ gatheredBus.uca ≠ none :=
  ⟨exists_of_busOk (by decide +kernel), exists_of_busOk (by decide +kernel), exists_of_busOk (by decide +kernel),
    by decide +kernel⟩

/-- After the sequence for a cached store, another store shows the content before that one alone, and code stored and fetched
uncached needs no sequence (20_memory.md R138). -/
theorem test_fetch_after_sequence :
    (let b := busOf (cachedBus.cachedWrite 0 0xFFFFFFFF80000118#64 0x118#40 8 0x1234#64)
     b.oldLinesUncached 0x118#40 = [0x99#256] ∧
       (let c := (b.hitWrittenBack 0x118#40).indexInvalidatedI 8
        c.oldLinesUncached 0x118#40 = [] ∧
          (busOf (c.cachedWrite 0 0xFFFFFFFF80000118#64 0x118#40 8 0x5678#64)).oldLines 0xFFFFFFFF80000118#64 0x118#40 =
            [linePut 0x99#256 24 8 0x1234#64] ∧
          (busOf (c.uncachedWrite 0 0x118#40 4 0x5678#64)).oldLinesUncached 0x118#40 = [])) := by decide +kernel

/-- After a cached store and Hit Writeback Invalidate (D), with no Index Invalidate (I), a word stored uncached is the one an
uncached fetch delivers, while a cached fetch may see the newest content before it (20_memory.md R138). -/
theorem test_uncached_code :
    (let b := (busOf (cachedBus.cachedWrite 0 0xFFFFFFFF80000118#64 0x118#40 8 0x1234#64)).hitWrittenBack 0x118#40
     let c := busOf (b.uncachedWrite 0 0x118#40 4 0x5678#64)
     (b.historyOf 8).cached = false ∧ b.uca = none ∧ b.regionOf 0x118 = .ram ∧
       c.oldLinesUncached 0x118#40 = [linePut 0x99#256 24 4 0x5678#64] ∧
       c.dirtyCopy 0x118#40 = some (linePut 0x99#256 24 4 0x5678#64) ∧
       c.oldLines 0xFFFFFFFF80000118#64 0x118#40 = [linePut 0x99#256 24 8 0x1234#64, 0x99#256]) := by decide +kernel

/-- The witnesses of the clause after the sequence. -/
theorem witness_CachedStoreForwarded_sequence :
    (0x118#40).toNat % 4096 = (0xFFFFFFFF80000118#64).toNat % 4096 ∧
    (let c := (cachedBus.hitWrittenBack 0x118#40).indexInvalidatedI ((0xFFFFFFFF80000118#64).toNat / 32 % 512)
     (∃ a b1, c.cachedWrite 0 0xFFFFFFFF80000118#64 0x118#40 8 0x1234#64 = .ok a b1) ∧
       ∃ a b1, c.uncachedWrite 0 0x118#40 8 0x1234#64 = .ok a b1) ∧
    (let c := (busOf (cachedBus.cachedWrite 0 0xFFFFFFFF80000118#64 0x118#40 8 0x1234#64)).hitWrittenBack 0x118#40
     ∃ a b1, c.uncachedWrite 0 0x118#40 4 0x5678#64 = .ok a b1) :=
  ⟨by decide, ⟨exists_of_busOk (by decide +kernel), exists_of_busOk (by decide +kernel)⟩,
    exists_of_busOk (by decide +kernel)⟩

/-- A line that the caches hold and no data access has used, as a prefetch leaves it, here at two colours: an uncached load
reads memory, an uncached store reaches memory and the copies, a cached store is not disturbed (40_load_store.md R201). -/
theorem test_prefetch_not_visible :
    (match cachedBus.uncachedRead 0 0x118#40 8 with
     | .ok v _ => v.toNat == bytesAt cachedBus.mem 0x118 8
     | _ => false) = true ∧
    ((busOf (cachedBus.uncachedWrite 0 0x118#40 8 0x1234#64)).sLine 32).data = linePut 0x99#256 24 8 0x1234#64 ∧
    (let b : Bus := { cachedBus with dcache := cachedBus.dcache ++ [(544, (cachedBus.dLine 32))] }
     ((busOf (b.cachedWrite 0 0xFFFFFFFF80000118#64 0x118#40 8 0x1234#64)).dLine 32).data =
       linePut 0x99#256 24 8 0x1234#64) := by decide +kernel

/-- User mode with every coprocessor closed; TLBWI, a CACHE word, an undefined COP1 word, SDC1, MADD.S and a COP2 word. -/
theorem witness_CoprocessorsClosed :
    (let s := start 0x00000010#32 [] []
     modeOf s.cp0.status = some .user ∧ cp0UsableIn .user s.cp0.status = false ∧
       s.cp0.diagnostic.getLsbD 8 = false ∧ s.cp0.status.getLsbD 29 = false ∧ s.cp0.status.getLsbD 30 = false) ∧
      opField 0x42000002#32 = 16#6 ∧ opField 0xBC610000#32 = 47#6 ∧ opField 0x4A000000#32 = 18#6 ∧
      opField 0x47FFFFFF#32 = 17#6 ∧ opField 0xF4620000#32 = 61#6 ∧
      (opField 0x72000018#32 = 28#6 ∧ functField 0x72000018#32 = 24#6) := by decide +kernel

theorem witness_CoprocessorsClosed_word : ∀ w ∈ [0x42000002#32, 0xBC610000#32], ∀ rt rd,
    decode w = .ok (.mfc0 rt rd) ∨ decode w = .ok (.dmfc0 rt rd) → rd ≠ 24#5 ∧ rd ≠ 25#5 := by
  have h1 : decode 0x42000002#32 = .ok .tlbwi := by decide +kernel
  have h2 : decode 0xBC610000#32 = .ok (.cacheIndexWritebackInvalidateD 3#5 0#16) := by decide +kernel
  intro w hw rt rd
  simp only [List.mem_cons, List.not_mem_nil, or_false] at hw
  obtain rfl | rfl := hw
  · rw [h1]; simp
  · rw [h2]; simp

theorem userState_unusable : userState.Cp0Unusable := ⟨.user, by decide +kernel⟩

theorem witness_CounterReads : userState.CanAdvance ∧ userState.Cp0Unusable ∧ (25#5 : RegNum) = 25#5 :=
  ⟨by decide +kernel, userState_unusable, rfl⟩
theorem witness_CoprocessorZeroMoves : kernelState.Cp0Usable ∧ kernelState.CanAdvance :=
  ⟨kernelState_usable, by decide +kernel⟩

/-- The condition of TlbProbe. -/
abbrev probeHits (s : State) (i : Fin 64) : Prop :=
  let e := s.tlb[i]
  (∀ j : Nat, j < 27 → (e.mask.setWidth 27).getLsbD j = false → e.vpn2.getLsbD j = s.cp0.entryHi.getLsbD (13 + j)) ∧
    e.r = s.cp0.entryHi.extractLsb' 62 2 ∧ (e.g = true ∨ e.asid = s.cp0.entryHi.extractLsb' 0 8)

/-- One matching entry, none, and two. -/
theorem witness_TlbProbe : kernelState.Cp0Usable ∧ kernelState.CanAdvance ∧
    (let s := onCp0 { kernelState with tlb := onePage false 7 } fun c => { c with entryHi := 0x200007#64 }
     probeHits s 5 ∧ ∀ j, probeHits s j → j = 5) ∧
    (let s := onCp0 { kernelState with tlb := onePage false 7 } fun c => { c with entryHi := 0x200008#64 }
     ∀ i, ¬probeHits s i) ∧
    (let s := onCp0 { kernelState with tlb := (onePage true 0).set 63 (pagePair 0x100#27 true 9#8 (page 0 true true)
        (page 0 true true)) } fun c => { c with entryHi := 0x200007#64 }
     probeHits s 5 ∧ probeHits s 63 ∧ (5 : Fin 64) ≠ 63) :=
  ⟨kernelState_usable, by decide +kernel⟩

/-- The smallest and the largest page. -/
theorem witness_TlbWrite : kernelState.Cp0Usable ∧ kernelState.CanAdvance ∧
    (0#32 : BitVec 32).extractLsb' 13 12 = 0x000#12 ∧ (0x01FFE000#32 : BitVec 32).extractLsb' 13 12 = 0xFFF#12 :=
  ⟨kernelState_usable, by decide +kernel⟩

theorem witness_TlbRoundTrip : kernelState.Cp0Usable ∧ kernelState.CanAdvance ∧ kernelState.after.CanAdvance ∧
    kernelState.cp0.ReservedZero ∧ kernelState.cp0.pageMask.extractLsb' 13 12 = 0x000#12 :=
  ⟨kernelState_usable, by decide +kernel, by decide +kernel,
    by unfold Cp0.ReservedZero; decide +kernel, by decide +kernel⟩

/-- Both ends of the ranges (20_memory.md R106 to R110), in kernel mode. -/
theorem witness_SegmentMap :
    segmentOf .kernel 3#3 0xFFFFFFFFFF#64 = .mapped ∧ segmentOf .kernel 3#3 0x10000000000#64 = .addressError ∧
    segmentOf .kernel 3#3 0x4000000000000000#64 = .mapped ∧ segmentOf .kernel 3#3 0x4000010000000000#64 = .addressError ∧
    segmentOf .kernel 3#3 0x980000FFFFFFFFFF#64 = .unmapped 0xFFFFFFFFFF#40 3#3 ∧
    segmentOf .kernel 3#3 0x9800010000000000#64 = .addressError ∧
    segmentOf .kernel 3#3 0xC00000FF7FFFFFFF#64 = .mapped ∧ segmentOf .kernel 3#3 0xC00000FF80000000#64 = .addressError ∧
    segmentOf .kernel 3#3 0xFFFFFFFF7FFFFFFF#64 = .addressError ∧
    segmentOf .kernel 3#3 0xFFFFFFFF80000000#64 = .unmapped 0#40 3#3 ∧
    segmentOf .kernel 3#3 0xFFFFFFFFBFFFFFFF#64 = .unmapped 0x1FFFFFFF#40 2#3 ∧
    segmentOf .kernel 3#3 0xFFFFFFFFC0000000#64 = .mapped ∧ segmentOf .user 3#3 0xFFFFFFFFC0000000#64 = .addressError ∧
    segmentOf .supervisor 3#3 0xFFFFFFFFE0000000#64 = .addressError := by decide +kernel

/-- A data address and a pc in no segment of user mode, and in an unmapped segment of kernel mode. -/
theorem witness_SegmentMap_access :
    modeOf userState.cp0.status = some .user ∧ modeOf kernelState.cp0.status = some .kernel ∧
    (let s : State := { userState with pc := 0x8000000000000000#64 }
     modeOf s.cp0.status = some .user ∧ segmentOf .user s.cp0.k0 s.pc = .addressError ∧
       ∀ store, s.translateData store s.pc = .exc (.addressError store s.pc)) ∧
    segmentOf .kernel kernelState.cp0.k0 0xFFFFFFFFA0000100#64 = .unmapped 0x100#40 2#3 ∧
    (let s : State := { kernelState with pc := 0xFFFFFFFFBFC00380#64 }
     modeOf s.cp0.status = some .kernel ∧ segmentOf .kernel s.cp0.k0 s.pc = .unmapped 0x1FC00380#40 2#3) := by
  decide +kernel

/-- A refill, an invalid page, a clean page and a load that succeeds; the largest page size. -/
theorem witness_TlbTranslation : modeOf userState.cp0.status = some .user ∧
    segmentOf .user userState.cp0.k0 0x500000#64 = .mapped ∧ segmentOf .user userState.cp0.k0 0x404000#64 = .mapped ∧
    (let find (va : Word) (asid : BitVec 8) := tlbFind userState.tlb (va.extractLsb' 62 2) (va.extractLsb' 13 27) asid
     find 0x500000#64 5#8 = .none ∧ find 0x402000#64 5#8 = .one 1 ∧ find 0x403000#64 5#8 = .one 1 ∧
       find 0x404000#64 5#8 = .one 2) ∧
    (userState.tlb[(1 : Fin 64)]).mask.toNat = 4 ^ 0 - 1 ∧ (0xFFF#12).toNat = 4 ^ 6 - 1 ∧
    (userState.tlb[(1 : Fin 64)]).even.v = true ∧ (userState.tlb[(1 : Fin 64)]).odd.d = false ∧
    (userState.tlb[(2 : Fin 64)]).even.v = false ∧ (0x403000 / 2 ^ 12 % 2 = 1) := by decide +kernel

/-- Pages by a fetch: none, a readable code page, an invalid page and, in `noExecute`, a page with E set. -/
def noExecute : State :=
  { userState with tlb := State.reset.tlb.set 0 (pagePair 0x200#27 true 0#8 { page 0x300#28 false true with e := true }
      (page 0x301#28 false false)) }

theorem witness_TlbTranslation_fetch : modeOf noExecute.cp0.status = some .user ∧
    segmentOf .user noExecute.cp0.k0 0x400000#64 = .mapped ∧ segmentOf .user noExecute.cp0.k0 0x500000#64 = .mapped ∧
    (let find (s : State) (pc : Word) := tlbFind s.tlb (pc.extractLsb' 62 2) (pc.extractLsb' 13 27) 0#8
     find userState 0x400000#64 = .one 0 ∧ find noExecute 0x401000#64 = .one 0 ∧ find noExecute 0x500000#64 = .none) ∧
    (noExecute.tlb[(0 : Fin 64)]).mask.toNat = 4 ^ 0 - 1 ∧
    (noExecute.tlb[(0 : Fin 64)]).mask = noExecute.cp0.pageMask.extractLsb' 13 12 ∧
    (userState.tlb[(0 : Fin 64)]).even.v = true ∧ (userState.tlb[(0 : Fin 64)]).even.e = false ∧
    (noExecute.tlb[(0 : Fin 64)]).even.v = true ∧ (noExecute.tlb[(0 : Fin 64)]).even.e = true ∧
    (noExecute.tlb[(0 : Fin 64)]).odd.v = false ∧ (0x3#12 : BitVec 12) ≠ noExecute.cp0.pageMask.extractLsb' 13 12 ∧
    noExecute.itlb = [] ∧ (4#64).getLsbD 2 = true := by decide +kernel

/-- A recorded translation that matches the fetch and may run. -/
theorem witness_TlbTranslation_itlb :
    (let x : ItlbEntry := { mask := 0#12, r := 0#2, vpn2 := 0x200#27, g := true, asid := 0#8, oddPage := false,
                            page := page 0x300#28 false true }
     x.holds 0x400000#64 0#8 = true ∧ x.mask.toNat = 4 ^ 0 - 1 ∧ x.mask = userState.cp0.pageMask.extractLsb' 13 12 ∧
       x.page.e = false) := by decide +kernel

/-- A mapped fetch that ends in the refill exception, at a boundary. -/
theorem witness_TlbTranslation_step : ∃ u, ({ userState with pc := 0x500000#64 } : State).tick.boundary = .run u ∧
    u.pc.toNat % 4 = 0 ∧ u.translateFetch = .exc (.tlbRefill false 0x500000#64) :=
  ⟨_, quiet_boundary _ .user (by decide +kernel) (by decide +kernel) (by decide +kernel), by
      show (0x500000#64 : Word).toNat % 4 = 0
      decide, exc_of_fetchExc (by decide +kernel)⟩

theorem witness_ExceptionReturn : kernelState.Cp0Usable ∧ kernelState.delay = none ∧ userState.Cp0Unusable ∧
    ({ kernelState with delay := some 0#64 } : State).Cp0Usable :=
  ⟨kernelState_usable, by decide +kernel, userState_unusable, ⟨.kernel, by decide +kernel⟩⟩

/-- EXL clear and set. -/
theorem witness_ExceptionEntry : kernelState.cp0.status.getLsbD 1 = false ∧
    (start 0x30000002#32 [] []).cp0.status.getLsbD 1 = true ∧
    Exc.coprocessorUnusable 1#2 = .coprocessorUnusable 1#2 := by decide +kernel

theorem witness_TlbExceptionRegisters : Exc.tlbModified 0#64 ∈
    [Exc.tlbRefill true 0#64, .tlbInvalid true 0#64, .tlbModified 0#64] := by decide

/-- Interrupts enabled and software interrupt 0 requested and unmasked. -/
def interruptedState : State := onCp0 (start 0x34000101#32 [] []) fun c => { c with cause := 0x100#32 }

theorem witness_InterruptSampling : kernelState.coldResetRequest = false ∧ kernelState.nmiRequest = false ∧
    kernelState.softResetRequest = false ∧ kernelState.tick.cp0.status.getLsbD 0 = false ∧
    interruptedState.coldResetRequest = false ∧ interruptedState.nmiRequest = false ∧
    interruptedState.softResetRequest = false ∧ interruptedState.tick.cp0.status.getLsbD 0 = true ∧
    interruptedState.tick.cp0.status.getLsbD 1 = false ∧ interruptedState.tick.cp0.status.getLsbD 2 = false ∧
    interruptedState.tick.cp0.status.getLsbD 8 = true ∧ interruptedState.irqWait = none ∧
    ({ interruptedState with irqWait := some 0 } : State).irqWait = some 0 ∧
    ({ interruptedState with irqWait := some 1 } : State).irqWait = some (0 + 1) := by decide +kernel

theorem witness_InterruptSampling_pending : interruptedState.tick.causeValue.getLsbD 8 = true := by
  have h : (interruptedState.tick.cp0.cause &&& 0xB000037C#32).getLsbD 8 = true := by decide +kernel
  unfold State.causeValue
  rw [BitVec.getLsbD_or, h, Bool.true_or]

/-- Status with KSU = 11, with EXL clear and set, and an ordinary Status. -/
theorem witness_InterruptSampling_undefined :
    (let undefined (s : State) : Prop :=
       s.tick.cp0.status.extractLsb' 3 2 = 3#2 ∧ s.tick.cp0.status.getLsbD 1 = false ∧ s.tick.cp0.status.getLsbD 2 = false
     undefined (start 0x34000118#32 [] []) ∧ ¬undefined (start 0x3400011A#32 [] []) ∧ ¬undefined interruptedState) := by
  decide +kernel

/-- Each of the three requests, NMI in a delay slot. -/
theorem witness_NonMaskableInterrupt :
    (let s : State := { kernelState with nmiRequest := true, delay := some 0#64 }
     s.coldResetRequest = false ∧ s.nmiRequest = true ∧ s.delay ≠ none) ∧
    (let s : State := { kernelState with softResetRequest := true }
     s.coldResetRequest = false ∧ s.nmiRequest = false ∧ s.softResetRequest = true) ∧
    ({ kernelState with coldResetRequest := true } : State).coldResetRequest = true := by decide +kernel

/-- The pins INT0, INT2 and INT3 stay active and a performance counter has overflowed: a reset clears Cause.IP[6:2] and leaves
IP7 (70_reset_and_hazards.md R660, R662, 60_exceptions.md R569). -/
theorem test_reset_clears_requests :
    (let s := onCp0 { kernelState with bus := { kernelState.bus with lines := 0x10FF#15 } } fun c =>
       { c with perfCtrl := 0x10#64, perfCnt := 0x80000000#64 }
     s.causeValue.extractLsb' 10 6 = 0b110100#6 ∧ s.softReset.causeValue.extractLsb' 10 6 = 0b100000#6 ∧
       s.coldReset.causeValue.extractLsb' 10 6 = 0b100000#6 ∧ s.softReset.cp0.perfCnt = 0x80000000#64) := by decide +kernel

theorem witness_TimerInterrupt : kernelState.Cp0Usable ∧ (∃ t, exec (.mtc0 2#5 9#5) kernelState = .next t) ∧
    kernelState.cp0.count = kernelState.cp0.compare ∧
    (onCp0 kernelState fun c => { c with timerPending := true }).cp0.timerPending = true ∧
    kernelState.CanAdvance ∧ kernelState.cp0.perfCtrl = 0#64 ∧ kernelState.cp0.dropped = 0#6 :=
  ⟨kernelState_usable, ⟨_, next_nextOf (by decide +kernel)⟩, by decide +kernel⟩

/-- Opcode 62, SPECIAL function 61, REGIMM selector 31 and a COP1X word. -/
theorem witness_ReservedInstructions : opField 0xF8000000#32 = 62#6 ∧
    (opField 0x0000003D#32 = 0#6 ∧ functField 0x0000003D#32 = 61#6) ∧
    (opField 0x041F0000#32 = 1#6 ∧ rtField 0x041F0000#32 = 31#5) ∧ opField 0x4C000000#32 = 19#6 ∧
    (opField 0x00000001#32 = 0#6 ∧ functField 0x00000001#32 = 1#6) ∧
    (opField 0x0022180A#32 = 0#6 ∧ functField 0x0022180A#32 = 10#6) ∧
    (opField 0x0022180B#32 = 0#6 ∧ functField 0x0022180B#32 = 11#6) := by decide +kernel

/-- An instruction that completes, and one that takes an exception. -/
theorem witness_UserModeConfined : userState.PlainUser ∧ (∃ t, exec (.addiu 0#5 1#5 1#16) userState = .next t) ∧
    ∃ t, exec .tlbwi userState = .next t :=
  ⟨by decide +kernel, ⟨_, next_nextOf (by decide +kernel)⟩, _, next_nextOf (by decide +kernel)⟩

/-- CKSEG0 cacheable, with the line of 0x100 clean in both caches (slot 32 of each). -/
def cacheState : State :=
  onCp0 { start 0x30000000#32 [(3, 0xFFFFFFFF80000100#64)] [] with bus := cachedBus } fun c => { c with k0 := 3#3 }

/-- The same with the line dirty in the data cache. -/
def dirtyState : State := { cacheState with bus := cacheState.bus.setDLine 32 { cacheState.bus.dLine 32 with cs := 3#2 } }

/-- The same with the line dirty in the secondary cache and not in the data cache. -/
def dirtySecondary : State :=
  { cacheState with bus := { cacheState.bus with
      dcache := [], scache := [(32, { tag := 0#23, state := 3#2, data := 0x99#256 })] } }

theorem witness_CacheTagsAndData : cacheState.CanAdvance ∧ cacheState.CacheReaches 3#5 0#16 false 0x100#40 ∧
    cacheState.CacheReaches 3#5 0x1B#16 false 0x11B#40 :=
  ⟨by decide +kernel, ⟨⟨.kernel, by decide +kernel⟩, by decide +kernel⟩,
    ⟨⟨.kernel, by decide +kernel⟩, by decide +kernel⟩⟩

/-- A hit with the line in slot 32 of every cache and in no other slot nearby, and a miss. -/
theorem witness_CacheInvalidations : cacheState.CanAdvance ∧ cacheState.CacheReaches 3#5 0#16 true 0x100#40 ∧
    cacheState.bus.lookupS 0x100#40 = .hit 32 ∧ cacheState.bus.lookupS 0x200#40 = .miss ∧
    (32 / 4 = (0x100#40).toNat / 32 % 4096 ∧ (cacheState.bus.sLine 32).state ≠ 0#2 ∧
      (cacheState.bus.sLine 32).tag = (0x100#40).extractLsb' 17 23) ∧
    (32 < 2048 ∧ 32 / 4 % 128 = (0x100#40).toNat / 32 % 128 ∧ (cacheState.bus.dLine 32).cs ≠ 0#2 ∧
      (cacheState.bus.dLine 32).ptag = (0x100#40).extractLsb' 12 28) ∧
    (let b := cacheState.bus.setILine 2047 { v := true, ptag := 0#28, data := 0#256 }
     2047 < 2048 ∧ (b.iLine 2047).v = true ∧ (b.iLine 2047).ptag = (0xFE0#40).extractLsb' 12 28 ∧
       2047 / 4 % 128 = (0xFE0#40).toNat / 32 % 128) ∧
    (cacheState.bus.dLine 33).cs = 0#2 :=
  ⟨by decide +kernel, ⟨⟨.kernel, by decide +kernel⟩, by decide +kernel⟩, by decide +kernel⟩

/-- Each clause: a clean and a dirty primary line, each hit form and each miss, an invalid, a clean and a dirty
secondary line, and a clean secondary line with its one dirty primary copy. -/
theorem witness_CacheWritebacks :
    (∀ s ∈ [cacheState, dirtyState, dirtySecondary], s.CanAdvance ∧ modeOf s.cp0.status = some .kernel ∧
      cacheUsableIn .kernel s.cp0 true = true ∧
      s.translateData false (s.readGpr 3#5 + (0#16).signExtend 64) = .ok 0x100#40 3#3) ∧
    (cacheState.bus.dLine 32).cs ≠ 3#2 ∧
    ((dirtyState.bus.dLine 32).cs = 3#2 ∧
      dirtyState.bus.lookupS (primaryLineAddr (dirtyState.bus.dLine 32).ptag (32 / 4)) = .hit 32) ∧
    dirtyState.bus.lookupD 0xFFFFFFFF80000100#64 0x100#40 = .hit 32 ∧
    dirtySecondary.bus.lookupD 0xFFFFFFFF80000100#64 0x100#40 = .miss ∧
    dirtyState.bus.lookupS 0x100#40 = .hit 32 ∧ kernelState.bus.lookupS 0x100#40 = .miss ∧
    (cacheState.bus.sLine 33).state = 0#2 ∧ (cacheState.bus.sLine 32).state = 2#2 ∧
    (dirtySecondary.bus.sLine 32).state = 3#2 ∧ secondaryLineAddr 0#23 (32 / 4) = 0x100#40 ∧
    dirtySecondary.bus.regionOf 0x100 = .ram ∧ (dirtyState.bus.dLine 32).ptag = (0x100#40).extractLsb' 12 28 := by
  decide +kernel

/-- The slots of the data cache that hold the line at 0x100: none, or slot 32 alone. -/
theorem witness_CacheWritebacks_copies (n : Nat) : (dirtySecondary.bus.dLine n).cs = 0#2 ∧
    ((cacheState.bus.dLine n).cs ≠ 0#2 → n = 32) ∧ ((dirtyState.bus.dLine n).cs ≠ 0#2 → n = 32) := by
  have h1 : dirtySecondary.bus.dcache = [] := rfl
  have h2 : cacheState.bus.dcache.map Prod.fst = [32] := by decide +kernel
  have h3 : dirtyState.bus.dcache.map Prod.fst = [32] := by decide +kernel
  have alone : ∀ l : Sparse DLine, l.map Prod.fst = [32] → (sparseRead DLine.unwritten l n).cs ≠ 0#2 → n = 32 := by
    intro l hl
    match l, hl with
    | [(k, v)], hl =>
      obtain rfl : k = 32 := by simpa using hl
      intro h
      by_contra hn
      simp [sparseRead, hn] at h
  exact ⟨by simp [Bus.dLine, h1, sparseRead], alone _ h2, alone _ h3⟩

/-- Usable, closed, opened by Diagnostic.U-Mode, closed in supervisor mode all the same; a translation that fails and one that
is uncached. -/
theorem witness_CachePrivilege : kernelState.Cp0Usable ∧ userState.PlainUser ∧ userState.cp0.diagnostic.getLsbD 8 = false ∧
    (let s := onCp0 userState fun c => { c with diagnostic := 0x100#64 }
     s.PlainUser ∧ s.cp0.diagnostic.getLsbD 8 = true) ∧
    (let s := onCp0 (start 0x00000008#32 [] []) fun c => { c with diagnostic := 0x100#64 }
     modeOf s.cp0.status = some .supervisor ∧ s.cp0.status.getLsbD 28 = false ∧ s.cp0.diagnostic.getLsbD 8 = true) ∧
    kernelState.translateData false 0xFFFFFFFFA0000100#64 = .ok 0x100#40 2#3 ∧ (2#3 : BitVec 3) ≠ 3#3 ∧
    kernelState.translateData false 0x8000010000000000#64 = .exc (.addressError false 0x8000010000000000#64) :=
  ⟨kernelState_usable, by decide +kernel⟩

/-- FR = 1 and FR = 0; register 2 holds 1 (no enabled cause), register 1 holds E. -/
theorem witness_FloatingMoves : kernelState.cp0.status.getLsbD 26 = true ∧ (31#5 : RegNum) ≠ 30#5 ∧
    (start 0x30000000#32 [] []).cp0.status.getLsbD 26 = false ∧ (30#5 : RegNum).toNat % 2 = 0 ∧
    (31#5 : RegNum).toNat = (30#5 : RegNum).toNat + 1 ∧ kernelState.Cp1Usable ∧ kernelState.CanAdvance ∧
    fpr64Ok kernelState.cp0.status 31#5 = true ∧ fpr64Ok kernelState.cp0.status 0#5 = true ∧
    (let f := (kernelState.readGpr 2#5).setWidth 32 &&& 0x0383FFFF#32
     f.getLsbD 17 = false ∧ f.extractLsb' 12 5 &&& f.extractLsb' 7 5 = 0#5) ∧
    (let f := (kernelState.readGpr 1#5).setWidth 32 &&& 0x0383FFFF#32
     ¬(f.getLsbD 17 = false ∧ f.extractLsb' 12 5 &&& f.extractLsb' 7 5 = 0#5)) := by decide +kernel

/-- 1 + 2 does not trap; a denormal operand does. -/
theorem witness_FloatingArithmetic : kernelState.Cp1Usable ∧ kernelState.CanAdvance ∧
    kernelState.cp0.status.getLsbD 24 = false ∧ kernelState.cp0.status.getLsbD 23 = false ∧
    (∀ r ∈ [0#5, 1#5, 31#5], fpr64Ok kernelState.cp0.status r = true) ∧
    (let value (r : RegNum) := fpUnpack .single ((kernelState.fpr[r.toNat]'r.isLt).extractLsb' 0 32 |>.setWidth 64)
     kernelState.Untrapped (fpAdd .single (fpEnvOf kernelState.fcsr) false (value 1#5) (value 2#5)).causes ∧
       ¬kernelState.Untrapped (fpAdd .single (fpEnvOf kernelState.fcsr) false (value 1#5) (value 3#5)).causes) := by
  decide +kernel

/-- Operands of each kind: unimplemented, signaling, opposite infinities, zero and infinity, and none of these. -/
theorem witness_FloatingArithmetic_special : (FpValue.quietNan false).Unimplemented ∧
    (FpValue.finite true true 1 (-149)).Unimplemented ∧ (FpValue.signalingNan true).Signals ∧
    ¬(FpValue.infinity true).Unimplemented ∧ ¬(FpValue.infinity true).Signals ∧
    ¬(FpValue.zero true).Unimplemented ∧ ¬(FpValue.zero true).Signals ∧
    ¬(FpValue.finite true false 3 0).Unimplemented ∧ ¬(FpValue.finite true false 3 0).Signals ∧
    FpValue.infinity true = .infinity (!false) ∧ (FpValue.infinity true).sign = true ∧
    fpUnpack .single 0xBF800000#64 = .finite true false (2 ^ 23) (-23) ∧
    fpUnpack .single 0x7FC00000#64 = .signalingNan false ∧ fpUnpack .single 0x7FBFFFFF#64 = .quietNan false :=
  ⟨.inl ⟨_, rfl⟩, .inr ⟨_, _, _, rfl⟩, ⟨_, rfl⟩, by simp [FpValue.Unimplemented], by simp [FpValue.Signals],
    by simp [FpValue.Unimplemented], by simp [FpValue.Signals], by simp [FpValue.Unimplemented],
    by simp [FpValue.Signals], rfl, rfl, by decide +kernel⟩

/-- The least and the greatest word of each kind in both formats (48_fpu.md R412). -/
theorem test_fpUnpack_kinds :
    fpUnpack .single 0xFF800000#64 = .infinity true ∧ fpUnpack .single 0x7F800001#64 = .quietNan false ∧
    fpUnpack .single 0xFFFFFFFF#64 = .signalingNan true ∧ fpUnpack .single 0x80000000#64 = .zero true ∧
    fpUnpack .single 1#64 = .finite false true 1 (-149) ∧
    fpUnpack .single 0x7F7FFFFF#64 = .finite false false 0xFFFFFF 104 ∧
    fpUnpack .double 0x7FF0000000000000#64 = .infinity false ∧ fpUnpack .double 0x7FF7FFFFFFFFFFFF#64 = .quietNan false ∧
    fpUnpack .double 0xFFF8000000000000#64 = .signalingNan true ∧
    fpUnpack .double 0x800FFFFFFFFFFFFF#64 = .finite true true 0xFFFFFFFFFFFFF (-1074) ∧
    fpUnpack .double 0x3FF0000000000000#64 = .finite false false 0x10000000000000 (-52) := by decide +kernel

theorem witness_PairedAndMultiplyAdd : kernelState.Cp1Usable ∧ kernelState.CanAdvance ∧
    (∀ r ∈ [0#5, 1#5, 31#5], fpr64Ok kernelState.cp0.status r = true) ∧
    kernelState.Untrapped (fpMadd .single (fpEnvOf kernelState.fcsr) false .madd (fpUnpack .single 0x3F800000#64)
      (fpUnpack .single 0x3F800000#64) (fpUnpack .single 0x3F800000#64)).causes ∧
    ¬kernelState.Untrapped (fpMadd .single (fpEnvOf kernelState.fcsr) false .madd (fpUnpack .single 1#64)
      (fpUnpack .single 0x3F800000#64) (fpUnpack .single 0x3F800000#64)).causes := by decide +kernel

/-- An infinite product with addends of either sign, and a zero product with a zero addend. -/
theorem witness_PairedAndMultiplyAdd_special :
    (let infinite (fs ft : FpValue) : Prop :=
       (∃ s, fs = .infinity s ∨ ft = .infinity s) ∧ fs.isNan = false ∧ ft.isNan = false
     infinite (.infinity true) (.finite false false 3 0) ∧ (∃ s, FpValue.infinity false = .infinity s ∧ (s != false) ≠ true) ∧
       (∃ s, FpValue.infinity false = .infinity s ∧ (s != true) ≠ false → False) ∧
       ¬infinite (.zero true) (.finite false false 3 0) ∧ ¬infinite (.infinity true) (.quietNan true)) := by
  simp [FpValue.isNan]

theorem witness_FloatingConversions : kernelState.Cp1Usable ∧ kernelState.CanAdvance ∧
    (∀ r ∈ [0#5, 1#5, 31#5], fpr64Ok kernelState.cp0.status r = true) ∧
    kernelState.Untrapped (fpConvertToInt 32 .nearest false (fpUnpack .single 0x40200000#64)).causes ∧
    ¬kernelState.Untrapped (fpConvertToInt 32 .nearest false (fpUnpack .single 1#64)).causes := by decide +kernel

/-- 1.5 fits in 32 bits and 3 * 2^40 does not, rounded down; an integer 0 and one that is not. -/
theorem witness_FloatingConversions_range :
    RoundsToInt .down (FpValue.finite false false 3 (-1)).toRat 1 ∧ -(2 ^ (32 - 1)) ≤ (1 : Int) ∧ (1 : Int) < 2 ^ (32 - 1) ∧
    RoundsToInt .down (FpValue.finite false false 3 40).toRat (3 * 2 ^ 40) ∧ ¬((3 * 2 ^ 40 : Int) < 2 ^ (32 - 1)) ∧
    RoundsToInt .nearest (FpValue.finite false false 3 (-1)).toRat 2 ∧ (5 : Int) ≠ 0 := by
  norm_num [RoundsToInt, FpValue.toRat, signedMag]

/-- FCSR with V enabled: a valid and an invalid comparison. -/
theorem witness_FloatingComparisons : kernelState.Cp1Usable ∧ kernelState.CanAdvance ∧
    fpr64Ok kernelState.cp0.status 31#5 = true ∧ kernelState.Untrapped causeNone ∧ kernelState.Untrapped causeV ∧
    ¬({ kernelState with fcsr := 0x800#32 } : State).Untrapped causeV ∧
    fpRelation (fpUnpack .single ((kernelState.readFpr32 2#5).setWidth 64))
      (fpUnpack .single ((kernelState.readFpr32 2#5).setWidth 64)) ≠ .unordered ∧
    kernelState.after.CanBranch := by decide +kernel

/-- A NaN, an infinity, a zero and a denormal number. -/
theorem witness_FloatingComparisons_operands :
    (let nan (x : FpValue) : Prop := (∃ s, x = .quietNan s) ∨ ∃ s, x = .signalingNan s
     let number (x : FpValue) : Prop := (∃ s, x = .zero s) ∨ ∃ s d m e, x = .finite s d m e
     nan (.signalingNan true) ∧ number (.zero true) ∧ number (.finite true true 1 (-149)) ∧ ¬number (.infinity true) ∧
       (FpValue.finite true true 1 (-149)).toRat < (FpValue.zero true).toRat ∧
       (FpValue.zero true).toRat = (FpValue.zero false).toRat) :=
  ⟨.inr ⟨_, rfl⟩, .inl ⟨_, rfl⟩, .inr ⟨_, _, _, _, rfl⟩, by simp, by norm_num [FpValue.toRat, signedMag], rfl⟩

/-- 3 is exact in single, 2^24 + 1 is a tie. -/
theorem witness_RoundingDirections :
    0 < 3 ∧ (fpRound .single { rm := .nearest, flush := false } false 3 0).causes = causeNone ∧
    0 < 2 ^ 24 + 1 ∧ (fpRound .single { rm := .nearest, flush := false } true (2 ^ 24 + 1) 0).causes = causeI := by
  decide +kernel

/-- 2^200 overflows single; 2^-200 is tiny, flushed and not. -/
theorem witness_RoundingDirections_range :
    (fpRound .single { rm := .nearest, flush := false } false 1 200).causes = causeO ||| causeI ∧
    (fpRound .single { rm := .up, flush := true } false 1 (-200)).causes = causeU ||| causeI ∧
    (fpRound .single { rm := .up, flush := false } false 1 (-200)).causes = causeE ∧
    (fpEnvOf 0x01000002#32).flush = true ∧ (fpEnvOf 0x01000102#32).flush = false ∧ (fpEnvOf 0x01000002#32).rm = .up := by
  decide +kernel

/-- Operands of the second clause: 0 + 5, 5 - 5, 1 / 3, the root of 2, 3 * 5 - 15 and 3 * 5 + 1. -/
theorem witness_ExactThenRounded_plain :
    (FpValue.zero true).Plain ∧ (FpValue.finite false false 5 0).Plain ∧
    |(FpValue.zero true).toRat + (FpValue.finite false false 5 0).toRat| = (5 : Nat) * 2 ^ (0 : Int) ∧
    (FpValue.finite false false 5 0).toRat ≠ 0 ∧
    (FpValue.finite false false 5 0).toRat - (FpValue.finite false false 5 0).toRat = 0 ∧
    (FpValue.finite false false 1 0).toRat / (FpValue.finite false false 3 0).toRat ≠ 0 ∧
    0 < (FpValue.finite false false 1 1).toRat ∧
    (FpValue.finite false false 3 0).toRat * (FpValue.finite false false 5 0).toRat
      + -(FpValue.finite false false 15 0).toRat = 0 ∧
    |(FpValue.finite false false 3 0).toRat * (FpValue.finite false false 5 0).toRat
      + (FpValue.finite false false 1 0).toRat| = (1 : Nat) * 2 ^ (4 : Int) :=
  ⟨.inl ⟨_, rfl⟩, .inr ⟨_, _, _, by decide, rfl⟩, by norm_num [FpValue.toRat, signedMag]⟩

/-- 3 + 5 = 1 * 2^3, 5 - 3 = 1 * 2^1, -(3 * 5) = -(15 * 2^0). -/
theorem witness_ExactThenRounded :
    let a := FpValue.finite false false 3 0
    let b := FpValue.finite false false 5 0
    let c := FpValue.finite true false 5 0
    |a.toRat + b.toRat| = (1 : Nat) * 2 ^ (3 : Int) ∧ |b.toRat - a.toRat| = (1 : Nat) * 2 ^ (1 : Int) ∧
      |a.toRat * c.toRat| = (15 : Nat) * 2 ^ (0 : Int) := by
  norm_num [FpValue.toRat, signedMag]

/-- The reset state with a NOP in the boot ROM: every hypothesis of both clauses. -/
def nopState : State := State.reset.withFetchWord 32 0

theorem witness_StepRunsDecoded : nopState.coldResetRequest = false ∧ nopState.nmiRequest = false ∧
    nopState.softResetRequest = false ∧ nopState.cp0.status.getLsbD 0 = false ∧
    modeOf nopState.cp0.status = some .kernel ∧
    nopState.pc = 0xFFFFFFFFA0000000#64 + (0x1FC00000#40).setWidth 64 ∧ (0x1FC00000#40).toNat < 2 ^ 29 ∧
    nopState.pc.toNat % 4 = 0 ∧ nopState.bus.regionOf (0x1FC00000#40).toNat = .rom ∧ nopState.bus.uca = none ∧
    nopState.bus.dirtyCopy 0x1FC00000#40 = none ∧ nopState.bus.oldLinesUncached 0x1FC00000#40 = [] ∧
    (0#32).toNat = bytesAt nopState.bus.mem (0x1FC00000#40).toNat 4 := by
  decide +kernel

theorem witness_StepRunsDecoded_decodes : decode 0#32 = .ok (.sll 0#5 0#5 0#5) := by decide +kernel

theorem witness_StepRunsDecoded_fetch : ∃ u t, nopState.tick.boundary = .run u ∧ u.fetch = .word 0#32 t := by
  obtain ⟨t, h⟩ := exists_of_fetches (w := 0#32) (f := State.fetch { nopState.tick with irqWait := none })
    (by decide +kernel)
  exact ⟨_, t, quiet_boundary _ .kernel (by decide +kernel) (by decide +kernel) (by decide +kernel), h⟩

theorem witness_StepKeepsInvariant : State.reset.Inv ∧ ∃ t, step State.reset = .next t :=
  ⟨⟨by unfold Bus.Canonical; decide, by unfold Cp0.ReservedZero; decide, by decide⟩, _, next_nextOf (by decide +kernel)⟩

theorem witness_DecodeOfEncode : WellFormed (.jalr 1#5 2#5) = true := by decide
theorem witness_EncodeOfDecode : decode 0xBC7F0000#32 = .ok (.cacheIndexStoreDataS 3#5 0#16) := by decide +kernel
/-- Whether a bus read delivers this value. -/
def delivers (r : BusResult Word) (v : Word) : Bool :=
  match r with
  | .ok w _ => w == v
  | _ => false

/-- The first and the last window register hold what was stored; Intenset enables a source, which then drives INT0. -/
theorem witness_DeviceRegisters : ∀ k ∈ [0, 47], k < 48 ∧
    delivers ((busOf (Bus.reset.physWrite (0x3FF00000 + 8 * k) 8 0x1122334455667788#64)).physRead 0
      (0x3FF00000 + 8 * k) 8) 0x1122334455667788#64 = true ∧
    (let b := busOf (Bus.reset.physWrite 0x1FE00130 4 1#64)
     { b with lines := b.lines ^^^ 1#15 }.extLines = 1#6 ∧ { b with lines := b.lines ^^^ 0x0800#15 }.extLines = 4#6) := by
  decide +kernel

end Sys2Proof.Tests

end
end

section
/-! The segment map: every region of R111 as a range of unsigned addresses (20_memory.md R106 to R111). -/

namespace Sys2Proof.Machine

/-! What a translation answers in an unmapped segment and in none (R118 step 2). -/

theorem State.translateData_of_addressError {s : State} {m : Mode} {va : Word} (store : Bool)
    (hm : modeOf s.cp0.status = some m) (h : segmentOf m s.cp0.k0 va = .addressError) :
    s.translateData store va = .exc (.addressError store va) := by
  simp only [State.translateData, hm, h]

theorem State.translateData_of_unmapped {s : State} {m : Mode} {va : Word} {pa : PhysAddr} {c : BitVec 3} (store : Bool)
    (hm : modeOf s.cp0.status = some m) (h : segmentOf m s.cp0.k0 va = .unmapped pa c) :
    s.translateData store va = .ok pa c := by
  simp only [State.translateData, hm, h]

theorem State.translateFetch_of_addressError {s : State} {m : Mode} (hm : modeOf s.cp0.status = some m)
    (h : segmentOf m s.cp0.k0 s.pc = .addressError) : s.translateFetch = .exc (.addressError false s.pc) := by
  simp only [State.translateFetch, hm, h]

theorem State.translateFetch_of_unmapped {s : State} {m : Mode} {pa : PhysAddr} {c : BitVec 3}
    (hm : modeOf s.cp0.status = some m) (h : segmentOf m s.cp0.k0 s.pc = .unmapped pa c) :
    s.translateFetch = .ok pa c s.itlb := by
  simp only [State.translateFetch, hm, h]

/-! The fields that `segmentOf` tests, as arithmetic on the unsigned address. -/

theorem extractLsb'_eq_iff_div_mod {w n : Nat} (x : BitVec w) (i : Nat) (k : BitVec n) :
    x.extractLsb' i n = k ↔ x.toNat / 2 ^ i % 2 ^ n = k.toNat := by
  rw [← BitVec.toNat_inj, BitVec.extractLsb'_toNat, Nat.shiftRight_eq_div_pow]

/-- VA[63:31] is all ones exactly in the top 2 GB, the compatibility segments. -/
theorem compatibility_iff (va : Word) : va.extractLsb' 31 33 = BitVec.allOnes 33 ↔ 2 ^ 64 - 2 ^ 31 ≤ va.toNat := by
  rw [extractLsb'_eq_iff_div_mod, BitVec.toNat_allOnes]
  omega

theorem not_compatibility {va : Word} (h : va.toNat < 2 ^ 64 - 2 ^ 31) : va.extractLsb' 31 33 ≠ BitVec.allOnes 33 :=
  fun hc => absurd ((compatibility_iff va).1 hc) (Nat.not_le.2 h)

/-- VA[63:62] is the quarter of the address space. -/
theorem top_iff (va : Word) (k : BitVec 2) : va.extractLsb' 62 2 = k ↔ va.toNat / 2 ^ 62 = k.toNat := by
  rw [extractLsb'_eq_iff_div_mod]
  omega

/-- VA[28:0], as a physical address. -/
theorem low29_eq_ofNat (va : Word) : (va.extractLsb' 0 29).setWidth 40 = BitVec.ofNat 40 (va.toNat % 2 ^ 29) := by
  apply BitVec.eq_of_toNat_eq
  simp only [BitVec.toNat_setWidth, BitVec.extractLsb'_toNat, BitVec.toNat_ofNat, Nat.shiftRight_zero]

/-! One equation for each region. -/

section
variable (m : Mode) (k0 : BitVec 3) (va : Word)

/-- XUSEG, XSUSEG, XKUSEG (VA[63:62] = 00). -/
theorem segmentOf_quarter0 (h : va.toNat < 2 ^ 62) :
    segmentOf m k0 va = if va.toNat < 2 ^ 40 then .mapped else .addressError := by
  have hc := not_compatibility (va := va) (by omega)
  have h0 : va.extractLsb' 62 2 = 0#2 := by rw [top_iff, BitVec.toNat_ofNat]; omega
  have hz : va.extractLsb' 40 22 = 0#22 ↔ va.toNat < 2 ^ 40 := by
    rw [extractLsb'_eq_iff_div_mod, BitVec.toNat_ofNat]; omega
  simp only [segmentOf, hc, h0, hz, ↓reduceIte]

/-- XSSEG, XKSSEG (VA[63:62] = 01). -/
theorem segmentOf_quarter1 (hl : 2 ^ 62 ≤ va.toNat) (hu : va.toNat < 2 ^ 63) :
    segmentOf m k0 va = if m ≠ .user ∧ va.toNat < 2 ^ 62 + 2 ^ 40 then .mapped else .addressError := by
  have hc := not_compatibility (va := va) (by omega)
  have h1 : va.extractLsb' 62 2 = 1#2 := by rw [top_iff, BitVec.toNat_ofNat]; omega
  have hz : va.extractLsb' 40 22 = 0#22 ↔ va.toNat < 2 ^ 62 + 2 ^ 40 := by
    rw [extractLsb'_eq_iff_div_mod, BitVec.toNat_ofNat]; omega
  simp only [segmentOf, hc, h1, hz, ↓reduceIte, BitVec.reduceEq]

/-- XKPHY (VA[63:62] = 10): eight windows of 2 ^ 40 bytes, one every 2 ^ 59. -/
theorem segmentOf_quarter2 (hl : 2 ^ 63 ≤ va.toNat) (hu : va.toNat < 3 * 2 ^ 62) :
    segmentOf m k0 va = if m = .kernel ∧ va.toNat % 2 ^ 59 < 2 ^ 40 then
      .unmapped (va.extractLsb' 0 40) (va.extractLsb' 59 3) else .addressError := by
  have hc := not_compatibility (va := va) (by omega)
  have h2 : va.extractLsb' 62 2 = 2#2 := by rw [top_iff, BitVec.toNat_ofNat]; omega
  have hz : va.extractLsb' 40 19 = 0#19 ↔ va.toNat % 2 ^ 59 < 2 ^ 40 := by
    rw [extractLsb'_eq_iff_div_mod, BitVec.toNat_ofNat]; omega
  simp only [segmentOf, hc, h2, hz, ↓reduceIte, BitVec.reduceEq]

/-- XKSEG (VA[63:62] = 11, below the compatibility segments). -/
theorem segmentOf_quarter3 (hl : 3 * 2 ^ 62 ≤ va.toNat) (hu : va.toNat < 2 ^ 64 - 2 ^ 31) :
    segmentOf m k0 va =
      if m = .kernel ∧ va.toNat < 3 * 2 ^ 62 + 2 ^ 40 - 2 ^ 31 then .mapped else .addressError := by
  have hc := not_compatibility (va := va) (by omega)
  have h3 : va.extractLsb' 62 2 = 3#2 := by rw [top_iff, BitVec.toNat_ofNat]; omega
  have hz : va < 0xC00000FF80000000#64 ↔ va.toNat < 3 * 2 ^ 62 + 2 ^ 40 - 2 ^ 31 := by
    rw [BitVec.lt_def, BitVec.toNat_ofNat]; omega
  simp only [segmentOf, hc, h3, hz, ↓reduceIte, BitVec.reduceEq]

/-- CKSEG0 (VA[30:29] = 00). -/
theorem segmentOf_ckseg0 (hl : 2 ^ 64 - 2 ^ 31 ≤ va.toNat) (hu : va.toNat < 2 ^ 64 - 3 * 2 ^ 29) :
    segmentOf m k0 va =
      if m = .kernel then .unmapped (BitVec.ofNat 40 (va.toNat % 2 ^ 29)) k0 else .addressError := by
  have hc := (compatibility_iff va).2 hl
  have hw : va.extractLsb' 29 2 = 0#2 := by rw [extractLsb'_eq_iff_div_mod, BitVec.toNat_ofNat]; omega
  simp only [segmentOf, hc, hw, low29_eq_ofNat, ↓reduceIte]

/-- CKSEG1 (VA[30:29] = 01). -/
theorem segmentOf_ckseg1 (hl : 2 ^ 64 - 3 * 2 ^ 29 ≤ va.toNat) (hu : va.toNat < 2 ^ 64 - 2 ^ 30) :
    segmentOf m k0 va =
      if m = .kernel then .unmapped (BitVec.ofNat 40 (va.toNat % 2 ^ 29)) 2#3 else .addressError := by
  have hc := (compatibility_iff va).2 (by omega)
  have hw : va.extractLsb' 29 2 = 1#2 := by rw [extractLsb'_eq_iff_div_mod, BitVec.toNat_ofNat]; omega
  simp only [segmentOf, hc, hw, low29_eq_ofNat, ↓reduceIte, BitVec.reduceEq]

/-- CKSSEG, CSSEG (VA[30:29] = 10). -/
theorem segmentOf_cksseg (hl : 2 ^ 64 - 2 ^ 30 ≤ va.toNat) (hu : va.toNat < 2 ^ 64 - 2 ^ 29) :
    segmentOf m k0 va = if m = .user then .addressError else .mapped := by
  have hc := (compatibility_iff va).2 (by omega)
  have hw : va.extractLsb' 29 2 = 2#2 := by rw [extractLsb'_eq_iff_div_mod, BitVec.toNat_ofNat]; omega
  simp only [segmentOf, hc, hw, ↓reduceIte, BitVec.reduceEq]

/-- CKSEG3 (VA[30:29] = 11). -/
theorem segmentOf_ckseg3 (hl : 2 ^ 64 - 2 ^ 29 ≤ va.toNat) :
    segmentOf m k0 va = if m = .kernel then .mapped else .addressError := by
  have hc := (compatibility_iff va).2 (by omega)
  have hw : va.extractLsb' 29 2 = 3#2 := by rw [extractLsb'_eq_iff_div_mod, BitVec.toNat_ofNat]; omega
  simp only [segmentOf, hc, hw, ↓reduceIte, BitVec.reduceEq]

/-- An address in window `c` of XKPHY, at offset `p`: both are read back from its bits. -/
theorem segmentOf_xkphys_window (c : BitVec 3) (p : PhysAddr) (h : va.toNat = 2 ^ 63 + c.toNat * 2 ^ 59 + p.toNat) :
    segmentOf m k0 va = if m = .kernel then .unmapped p c else .addressError := by
  have hlow : va.toNat % 2 ^ 59 < 2 ^ 40 := by omega
  have hpa : va.extractLsb' 0 40 = p := by rw [extractLsb'_eq_iff_div_mod]; omega
  have hattr : va.extractLsb' 59 3 = c := by rw [extractLsb'_eq_iff_div_mod]; omega
  rw [segmentOf_quarter2 m k0 va (by omega) (by omega), hpa, hattr]
  simp only [hlow, and_true]

end

/-- Settles O32: the accesses by the segment of their address, then the ranges of R111 from the bottom up. -/
theorem segmentMap : Obligations.SegmentMap := by
  refine ⟨fun s m hm => ⟨fun store va => ⟨State.translateData_of_addressError store hm,
    fun _ _ => State.translateData_of_unmapped store hm⟩, State.translateFetch_of_addressError hm,
    fun _ _ => State.translateFetch_of_unmapped hm⟩, ?_⟩
  intro m k0 va a is within
  refine ⟨?useg, ?aboveUseg, ?sseg, ?aboveSseg, ?xkphys, ?betweenWindows, ?xkseg, ?aboveXkseg,
    ?ckseg0, ?ckseg1, ?cksseg, ?ckseg3⟩
  case useg =>
    rintro ⟨-, hu⟩
    exact (segmentOf_quarter0 m k0 va (by omega)).trans (if_pos (by omega))
  case aboveUseg =>
    rintro ⟨hl, hu⟩
    exact (segmentOf_quarter0 m k0 va (by omega)).trans (if_neg (by omega))
  case sseg =>
    rintro ⟨hl, hu⟩
    have hin : va.toNat < 2 ^ 62 + 2 ^ 40 := hu
    refine (segmentOf_quarter1 m k0 va hl (by omega)).trans ?_
    simp only [hin, and_true, ite_not]
  case aboveSseg =>
    rintro ⟨hl, hu⟩
    exact (segmentOf_quarter1 m k0 va (by omega) (by omega)).trans (if_neg fun h => by omega)
  case xkphys => exact segmentOf_xkphys_window m k0 va
  case betweenWindows =>
    rintro ⟨hl, hu⟩ hgap
    exact (segmentOf_quarter2 m k0 va hl (by omega)).trans (if_neg fun h => by omega)
  case xkseg =>
    rintro ⟨hl, hu⟩
    have hin : va.toNat < 3 * 2 ^ 62 + 2 ^ 40 - 2 ^ 31 := by omega
    refine (segmentOf_quarter3 m k0 va hl (by omega)).trans ?_
    simp only [hin, and_true]
  case aboveXkseg =>
    rintro ⟨hl, hu⟩
    exact (segmentOf_quarter3 m k0 va (by omega) (by omega)).trans (if_neg fun h => by omega)
  case ckseg0 => exact fun ⟨hl, hu⟩ => segmentOf_ckseg0 m k0 va hl (by omega)
  case ckseg1 => exact fun ⟨hl, hu⟩ => segmentOf_ckseg1 m k0 va hl (by omega)
  case cksseg => exact fun ⟨hl, hu⟩ => segmentOf_cksseg m k0 va hl (by omega)
  case ckseg3 => exact fun ⟨hl, _⟩ => segmentOf_ckseg3 m k0 va hl

end Sys2Proof.Machine
end

section
/-! Logical immediates and signed overflow (41_alu_immediate.md R247 to R251). -/

namespace Sys2Proof

/-! The fields of an immediate word, put together by shifts, and what the three logical opcodes decode to. -/

/-- The immediate format of R165: the fields at bits 26, 21, 16 and 0. -/
theorem shiftedFields_eq_iWord (op : BitVec 6) (rs rt : RegNum) (imm : BitVec 16) :
    (op.setWidth 32 <<< 26) ||| ((rs.setWidth 32 <<< 21) ||| (rt.setWidth 32 <<< 16) ||| imm.setWidth 32) =
      iWord op rs rt imm := by
  have h := BitVec.setWidth_append_append_append_eq_shiftLeft_setWidth_or (w'''' := 32) (b := op) (b' := rs)
    (b'' := rt) (b''' := imm)
  simp only [← BitVec.or_assoc]
  exact h.symm.trans (BitVec.setWidth_eq _)

section
variable (rs rt : RegNum) (imm : BitVec 16)

theorem decode_iWord_andi : decode (iWord 0x0C#6 rs rt imm) = .ok (.andi rs rt imm) := by simp [decode]

theorem decode_iWord_ori : decode (iWord 0x0D#6 rs rt imm) = .ok (.ori rs rt imm) := by simp [decode]

theorem decode_iWord_xori : decode (iWord 0x0E#6 rs rt imm) = .ok (.xori rs rt imm) := by simp [decode]

end

namespace Machine

/-! The zero-extended immediate, as a natural number. -/

@[simp] theorem toNat_zextImm (imm : BitVec 16) : (zextImm imm).toNat = imm.toNat :=
  BitVec.toNat_setWidth_of_le (by decide)

theorem and_zextImm (a : Word) (imm : BitVec 16) : a &&& zextImm imm = BitVec.ofNat 64 (a.toNat &&& imm.toNat) := by
  rw [← toNat_zextImm imm, ← BitVec.toNat_and, BitVec.ofNat_toNat, BitVec.setWidth_eq]

theorem or_zextImm (a : Word) (imm : BitVec 16) : a ||| zextImm imm = BitVec.ofNat 64 (a.toNat ||| imm.toNat) := by
  rw [← toNat_zextImm imm, ← BitVec.toNat_or, BitVec.ofNat_toNat, BitVec.setWidth_eq]

theorem xor_zextImm (a : Word) (imm : BitVec 16) : a ^^^ zextImm imm = BitVec.ofNat 64 (a.toNat ^^^ imm.toNat) := by
  rw [← toNat_zextImm imm, ← BitVec.toNat_xor, BitVec.ofNat_toNat, BitVec.setWidth_eq]

/-- A conjunction with a 16-bit number is at most that number, so it reaches no bit from 16 up. -/
theorem upper_and_imm (a : Nat) (imm : BitVec 16) : (BitVec.ofNat 64 (a &&& imm.toNat)).extractLsb' 16 48 = 0#48 := by
  have hle : a &&& imm.toNat ≤ imm.toNat := Nat.and_le_right
  rw [extractLsb'_eq_iff_div_mod, BitVec.toNat_ofNat, BitVec.toNat_ofNat]
  omega

/-! The instructions. -/

section
variable (rs rt : RegNum) (imm : BitVec 16) {s : State} (h : s.CanAdvance)
include h

theorem exec_andi : exec (.andi rs rt imm) s =
    .next (s.writeGpr rt (BitVec.ofNat 64 ((s.readGpr rs).toNat &&& imm.toNat))).after := by
  rw [← and_zextImm]
  exact finishGpr_of_canAdvance rt _ h

theorem exec_ori : exec (.ori rs rt imm) s =
    .next (s.writeGpr rt (BitVec.ofNat 64 ((s.readGpr rs).toNat ||| imm.toNat))).after := by
  rw [← or_zextImm]
  exact finishGpr_of_canAdvance rt _ h

theorem exec_xori : exec (.xori rs rt imm) s =
    .next (s.writeGpr rt (BitVec.ofNat 64 ((s.readGpr rs).toNat ^^^ imm.toNat))).after := by
  rw [← xor_zextImm]
  exact finishGpr_of_canAdvance rt _ h

end

/-- Settles O3: the words are those of the immediate format, and a zero-extended immediate has its own value. -/
theorem logicalImmediates : Obligations.LogicalImmediates := by
  intro s rs rt imm h fields a
  have hword (op : BitVec 6) : op.setWidth 32 <<< 26 ||| fields = iWord op rs rt imm :=
    shiftedFields_eq_iWord op rs rt imm
  refine ⟨?andiWord, ?oriWord, ?xoriWord, exec_andi rs rt imm h, upper_and_imm a imm, exec_ori rs rt imm h,
    exec_xori rs rt imm h⟩
  case andiWord => exact (congrArg decode (hword 0x0C#6)).trans (decode_iWord_andi rs rt imm)
  case oriWord => exact (congrArg decode (hword 0x0D#6)).trans (decode_iWord_ori rs rt imm)
  case xoriWord => exact (congrArg decode (hword 0x0E#6)).trans (decode_iWord_xori rs rt imm)

/-! Overflow: the range of the exact result and the sign bits (R251). -/

theorem outOfRange_add_iff {w : Nat} (a b : BitVec w) :
    outOfRange w (a.toInt + b.toInt) = true ↔ a.msb = b.msb ∧ (a + b).msb ≠ a.msb := by
  have h : outOfRange w (a.toInt + b.toInt) = a.saddOverflow b := Bool.or_comm _ _
  rw [h, BitVec.saddOverflow_eq]
  simp

theorem outOfRange_sub_iff {w : Nat} (a b : BitVec w) :
    outOfRange w (a.toInt - b.toInt) = true ↔ a.msb ≠ b.msb ∧ (a - b).msb ≠ a.msb := by
  have h : outOfRange w (a.toInt - b.toInt) = a.ssubOverflow b := Bool.or_comm _ _
  rw [h, BitVec.ssubOverflow_eq]
  cases a.msb <;> cases b.msb <;> simp

theorem low32_sextImm (imm : BitVec 16) : low32 (sextImm imm) = imm.signExtend 32 := by
  ext i hi
  have h64 : i < 64 := by omega
  by_cases h16 : i < 16 <;>
    simp [low32, sextImm, BitVec.getElem_signExtend, h64, h16]

section
variable (s : State) (r : RegNum)

/-- Overflow answers the exception's entry, in the state as it was; no overflow answers the result. -/
theorem overflow_or_result {c : Bool} {p : Prop} [Decidable p] (h : c = true ↔ p) (v : Word) :
    let o := if c then raise .integerOverflow s else finishGpr s r v
    if p then o = .next (enterException .integerOverflow s) else s.CanAdvance → o = .next (s.writeGpr r v).after := by
  intro o
  split
  case isTrue hp => exact if_pos (h.2 hp)
  case isFalse hp => exact fun ha => (if_neg (mt h.1 hp)).trans (finishGpr_of_canAdvance r v ha)

theorem addOrOverflow32_ends (a b : BitVec 32) :
    if a.msb = b.msb ∧ (a + b).msb ≠ a.msb
      then addOrOverflow32 s r a b = .next (enterException .integerOverflow s)
      else s.CanAdvance → addOrOverflow32 s r a b = .next (s.writeGpr r ((a + b).signExtend 64)).after :=
  overflow_or_result s r (outOfRange_add_iff a b) _

theorem addOrOverflow64_ends (a b : Word) :
    if a.msb = b.msb ∧ (a + b).msb ≠ a.msb
      then addOrOverflow64 s r a b = .next (enterException .integerOverflow s)
      else s.CanAdvance → addOrOverflow64 s r a b = .next (s.writeGpr r (a + b)).after :=
  overflow_or_result s r (outOfRange_add_iff a b) _

theorem subOrOverflow32_ends (a b : BitVec 32) :
    if a.msb ≠ b.msb ∧ (a - b).msb ≠ a.msb
      then subOrOverflow32 s r a b = .next (enterException .integerOverflow s)
      else s.CanAdvance → subOrOverflow32 s r a b = .next (s.writeGpr r ((a - b).signExtend 64)).after :=
  overflow_or_result s r (outOfRange_sub_iff a b) _

theorem subOrOverflow64_ends (a b : Word) :
    if a.msb ≠ b.msb ∧ (a - b).msb ≠ a.msb
      then subOrOverflow64 s r a b = .next (enterException .integerOverflow s)
      else s.CanAdvance → subOrOverflow64 s r a b = .next (s.writeGpr r (a - b)).after :=
  overflow_or_result s r (outOfRange_sub_iff a b) _

end

/-! What the entry of an exception records in Cause and EPC (60_exceptions.md R540). -/

theorem causeWith_excCode (cause : BitVec 32) (bd : Bool) (ce : BitVec 2) (code : BitVec 5) :
    (causeWith cause bd ce code).extractLsb' 2 5 = code := by
  have hbd : ((BitVec.ofBool bd).setWidth 32 <<< 31).extractLsb' 2 5 = 0#5 := by revert bd; decide
  have hce : (ce.setWidth 32 <<< 28).extractLsb' 2 5 = 0#5 := by revert ce; decide
  have hcode : (code.setWidth 32 <<< 2).extractLsb' 2 5 = code := by revert code; decide
  simp [causeWith, BitVec.extractLsb'_or, BitVec.extractLsb'_and, hbd, hce, hcode]

theorem causeWith_bd (cause : BitVec 32) (bd : Bool) (ce : BitVec 2) (code : BitVec 5) :
    (causeWith cause bd ce code).getLsbD 31 = bd := by
  have hbd : ((BitVec.ofBool bd).setWidth 32 <<< 31).getLsbD 31 = bd := by revert bd; decide
  have hce : (ce.setWidth 32 <<< 28).getLsbD 31 = false := by revert ce; decide
  have hcode : (code.setWidth 32 <<< 2).getLsbD 31 = false := by revert code; decide
  simp only [causeWith, BitVec.getLsbD_or, BitVec.getLsbD_and, hbd, hce, hcode]
  simp

theorem enterException_excCode (e : Exc) (s : State) : (enterException e s).cp0.cause.extractLsb' 2 5 = e.code :=
  causeWith_excCode ..

/-- With EXL clear EPC is the instruction, or its branch for one in a delay slot. -/
theorem enterException_epc (e : Exc) {s : State} (h : s.cp0.status.getLsbD 1 = false) :
    (enterException e s).cp0.epc = if s.delay = none then s.pc else s.pc - 4#64 := by
  have hx : statusExl s.cp0.status = false := h
  cases hd : s.delay <;> simp [enterException, hx, hd]

/-- With EXL clear BD says whether the instruction is in a delay slot. -/
theorem enterException_bd (e : Exc) {s : State} (h : s.cp0.status.getLsbD 1 = false) :
    (enterException e s).cp0.cause.getLsbD 31 = s.delay.isSome := by
  have hfirst : (!statusExl s.cp0.status) = true := by rw [Bool.not_eq_true']; exact h
  exact (causeWith_bd ..).trans (if_pos hfirst)

/-- Settles O5: each instruction is one of the four sums and differences, on its own operands. -/
theorem signedOverflow : Obligations.SignedOverflow := by
  intro s rs rt rd imm adds32 adds64 a b t
  refine ⟨?add, ?addi, ?dadd, ?daddi, ?sub, ?dsub, rfl, rfl, rfl, rfl, enterException_excCode .integerOverflow s,
    fun h => ⟨enterException_epc .integerOverflow h, enterException_bd .integerOverflow h⟩⟩
  case add => exact addOrOverflow32_ends s rd (low32 a) (low32 b)
  case addi =>
    rw [← low32_sextImm]
    exact addOrOverflow32_ends s rt (low32 a) (low32 (sextImm imm))
  case dadd => exact addOrOverflow64_ends s rd a b
  case daddi => exact addOrOverflow64_ends s rt a (sextImm imm)
  case sub => exact subOrOverflow32_ends s rd (low32 a) (low32 b)
  case dsub => exact subOrOverflow64_ends s rd a b

end Machine
end Sys2Proof
end

section
/-! The performance counters: reads in every mode, privileged writes (47_cp0.md R379). -/

namespace Sys2Proof.Machine

/-- A read of a performance counter does not ask whether CP0 is usable (R379). -/
theorem counterOrCp0_of_counter (s : State) {rd : RegNum} (k : Outcome) (h : rd = 24#5 ∨ rd = 25#5) :
    counterOrCp0 s rd k = k := if_pos h

section
variable {s : State} (rt : RegNum) {rd : RegNum}

theorem exec_mfc0_of_counter (hrd : rd = 24#5 ∨ rd = 25#5) (h : s.CanAdvance) :
    exec (.mfc0 rt rd) s = .next (s.writeGpr rt (((s.readCp0 rd).setWidth 32).signExtend 64)).after :=
  (counterOrCp0_of_counter s _ hrd).trans (finishGpr_of_canAdvance rt _ h)

theorem exec_dmfc0_of_counter (hrd : rd = 24#5 ∨ rd = 25#5) (h : s.CanAdvance) :
    exec (.dmfc0 rt rd) s = .next (s.writeGpr rt (s.readCp0 rd)).after :=
  (counterOrCp0_of_counter s _ hrd).trans (finishGpr_of_canAdvance rt _ h)

theorem exec_mtc0_of_unusable (rd : RegNum) (h : s.Cp0Unusable) :
    exec (.mtc0 rt rd) s = .next (enterException (.coprocessorUnusable 0#2) s) := withCp0_of_unusable _ h

theorem exec_dmtc0_of_unusable (rd : RegNum) (h : s.Cp0Unusable) :
    exec (.dmtc0 rt rd) s = .next (enterException (.coprocessorUnusable 0#2) s) := withCp0_of_unusable _ h

end

/-- Settles O26: the reads go past the usability check, the writes do not. -/
theorem counterReads : Obligations.CounterReads := by
  intro s rt rd hrd
  refine ⟨?reads, ?writes⟩
  case reads => exact fun h => ⟨exec_mfc0_of_counter rt hrd h, exec_dmfc0_of_counter rt hrd h⟩
  case writes => exact fun h => ⟨exec_mtc0_of_unusable rt rd h, exec_dmtc0_of_unusable rt rd h⟩

end Sys2Proof.Machine
end

section
/-! Taking an exception (60_exceptions.md R540, with the codes of R530 and the vectors of R541). -/

namespace Sys2Proof.Machine

/-! What EXL alone decides: the mode is kernel (10_state.md R37) and no interrupt is taken (R563). -/

theorem statusExl_or_two (st : BitVec 32) : statusExl (st ||| 2#32) = true := by
  rw [statusExl, BitVec.getLsbD_or, show (2#32).getLsbD 1 = true by decide, Bool.or_true]

theorem modeOf_of_exl {st : BitVec 32} (h : statusExl st = true) : modeOf st = some .kernel := by
  simp [modeOf, h]

theorem interruptReady_of_exl {s : State} (h : statusExl s.cp0.status = true) : s.interruptReady = false := by
  simp [State.interruptReady, h]

/-! The fields of Cause that the entry sets or keeps beside BD and ExcCode. -/

theorem causeWith_ce (cause : BitVec 32) (bd : Bool) (ce : BitVec 2) (code : BitVec 5) :
    (causeWith cause bd ce code).extractLsb' 28 2 = ce := by
  have hbd : ((BitVec.ofBool bd).setWidth 32 <<< 31).extractLsb' 28 2 = 0#2 := by revert bd; decide
  have hce : (ce.setWidth 32 <<< 28).extractLsb' 28 2 = ce := by revert ce; decide
  have hcode : (code.setWidth 32 <<< 2).extractLsb' 28 2 = 0#2 := by revert code; decide
  simp [causeWith, BitVec.extractLsb'_or, BitVec.extractLsb'_and, hbd, hce, hcode]

/-- The software interrupt bits, 9:8, stay as they were. -/
theorem causeWith_softwareInterrupts (cause : BitVec 32) (bd : Bool) (ce : BitVec 2) (code : BitVec 5) :
    (causeWith cause bd ce code).extractLsb' 8 2 = cause.extractLsb' 8 2 := by
  have hbd : ((BitVec.ofBool bd).setWidth 32 <<< 31).extractLsb' 8 2 = 0#2 := by revert bd; decide
  have hce : (ce.setWidth 32 <<< 28).extractLsb' 8 2 = 0#2 := by revert ce; decide
  have hcode : (code.setWidth 32 <<< 2).extractLsb' 8 2 = 0#2 := by revert code; decide
  have hkept : (0x00000300#32).extractLsb' 8 2 = BitVec.allOnes 2 := by decide
  simp only [causeWith, BitVec.extractLsb'_or, BitVec.extractLsb'_and, hbd, hce, hcode, hkept, BitVec.and_allOnes,
    BitVec.or_zero]

/-! Recording the address leaves EPC and Cause alone. -/

@[simp] theorem recordAddress_epc (c : Cp0) (q : Nat) (e : Exc) : (recordAddress c q e).epc = c.epc := by
  cases e <;> rfl

@[simp] theorem recordAddress_cause (c : Cp0) (q : Nat) (e : Exc) : (recordAddress c q e).cause = c.cause := by
  cases e <;> rfl

/-! What the entry saves and sets, by EXL. -/

section
variable (e : Exc) (s : State)

theorem enterException_status : (enterException e s).cp0.status = s.cp0.status ||| 2#32 := rfl

theorem enterException_ce {u : BitVec 2} (h : e = .coprocessorUnusable u) :
    (enterException e s).cp0.cause.extractLsb' 28 2 = u := by
  subst h
  exact causeWith_ce ..

theorem enterException_softwareInterrupts :
    (enterException e s).cp0.cause.extractLsb' 8 2 = s.cp0.cause.extractLsb' 8 2 :=
  (causeWith_softwareInterrupts ..).trans (by rw [recordAddress_cause])

theorem modeOf_enterException : modeOf (enterException e s).cp0.status = some .kernel :=
  modeOf_of_exl (statusExl_or_two _)

theorem enterException_interruptReady : (enterException e s).interruptReady = false :=
  interruptReady_of_exl (statusExl_or_two _)

/-- Outside CP0 the entry sets pc and drops the delay slot, and nothing else. -/
theorem enterException_frame :
    enterException e s = { s with cp0 := (enterException e s).cp0, pc := (enterException e s).pc, delay := none } := rfl

/-- In CP0 the entry writes EPC, Cause and Status over what recording the address leaves. -/
theorem enterException_cp0 :
    let c := (enterException e s).cp0
    c = { recordAddress s.cp0 s.seq e with epc := c.epc, cause := c.cause, status := c.status } := rfl

end

section
variable (e : Exc) {s : State}

/-- With EXL clear a TLB refill goes to the vector base, every other exception to the general vector. -/
theorem enterException_pc_of_first (h : s.cp0.status.getLsbD 1 = false) :
    (enterException e s).pc = vectorBase s.cp0.status + if e.isRefill then 0#64 else 0x180#64 := by
  have hx : statusExl s.cp0.status = false := h
  simp [enterException, hx]

theorem enterException_epc_of_nested (h : s.cp0.status.getLsbD 1 = true) :
    (enterException e s).cp0.epc = s.cp0.epc := by
  have hx : statusExl s.cp0.status = true := h
  simp [enterException, hx]

theorem enterException_bd_of_nested (h : s.cp0.status.getLsbD 1 = true) :
    (enterException e s).cp0.cause.getLsbD 31 = s.cp0.cause.getLsbD 31 := by
  have hx : statusExl s.cp0.status = true := h
  exact (causeWith_bd ..).trans (by simp [hx, causeBd])

theorem enterException_pc_of_nested (h : s.cp0.status.getLsbD 1 = true) :
    (enterException e s).pc = vectorBase s.cp0.status + 0x180#64 := by
  have hx : statusExl s.cp0.status = true := h
  simp [enterException, hx]

end

/-- Settles O35: EXL decides what is saved and the vector; the rest holds of every entry, and what CP0 keeps follows the
address that the exception's kind records. -/
theorem exceptionEntry : Obligations.ExceptionEntry := by
  intro s e t st refill base
  have hrefill : refill = e.isRefill := by cases e <;> rfl
  refine ⟨?first, ?nested, ?code, fun _ => enterException_ce e s, enterException_status e s,
    modeOf_enterException e s, enterException_interruptReady e s, enterException_softwareInterrupts e s,
    enterException_frame e s, ?cp0⟩
  case first =>
    intro h
    rw [hrefill]
    exact ⟨enterException_epc e h, enterException_bd e h, enterException_pc_of_first e h⟩
  case nested =>
    exact fun h => ⟨enterException_epc_of_nested e h, enterException_bd_of_nested e h, enterException_pc_of_nested e h⟩
  case code => exact (enterException_excCode e s).trans (by cases e <;> rfl)
  -- For each kind of exception `recordAddress` computes to the registers that its clause names.
  case cp0 => cases e <;> exact enterException_cp0 _ s

end Sys2Proof.Machine
end

section
/-! Every step keeps the invariant (10_state.md R26 to R73): each instruction is one of the shared operations, each of which
keeps it. -/

namespace Sys2Proof.Machine

theorem Bus.Canonical.dropSetI {b : Bus} (h : b.Canonical) (set : Nat) :
    ([0, 1, 2, 3].foldl (fun b k => b.dropI (set * 4 + k)) b).Canonical :=
  foldl_keeps Bus.Canonical _ (fun _ _ hb => hb.dropI _) _ _ h

theorem Bus.Canonical.invalidateAllD {b : Bus} (h : b.Canonical) (ks : List Nat) :
    (ks.foldl (fun b k => b.invalidateD k) b).Canonical :=
  foldl_keeps Bus.Canonical _ (fun _ _ hb => hb.invalidateD _) _ _ h

theorem Bus.Canonical.dropAllS {b : Bus} (h : b.Canonical) (pa : PhysAddr) (js : List Nat) :
    (js.foldl (fun b j => b.dropS pa j) b).Canonical :=
  foldl_keeps Bus.Canonical _ (fun _ _ hb => hb.dropS _ _) _ _ h

theorem Bus.Canonical.indexWrittenBackD {b : Bus} (h : b.Canonical) (set : Nat) : (b.indexWrittenBackD set).Canonical :=
  h.recordAll _ _

theorem Bus.Canonical.indexWrittenBackS {b : Bus} (h : b.Canonical) (set : Nat) : (b.indexWrittenBackS set).Canonical :=
  h.recordAll _ _

section
variable {s : State} (h : s.Inv)
include h

/-- TLBP writes Index and P, the only fields of Index. -/
theorem execTlbp_keeps : KeepsInv (execTlbp s) := by
  refine withCp0_keeps h ?_
  split
  case h_1 =>
    rw [BitVec.setWidth_and, BitVec.and_comm]
    exact advance_keeps (h.setIndex _ (or_outside _ _ _ (by decide) (and_outside _ _ _ (by decide))))
  case h_2 i _ =>
    have index_fits : ∀ i : Fin 64, BitVec.ofNat 32 i.val &&& ~~~0x8000003F#32 = 0#32 := by decide
    exact advance_keeps (h.setIndex _ (index_fits i))
  case h_3 => exact .fault

theorem execCtc1_keeps (rt fs : RegNum) : KeepsInv (execCtc1 rt fs s) := by
  have hf : State.Inv { s with fcsr := low32 (s.readGpr rt) &&& fcsrMask } :=
    ⟨h.1, h.2.1, h.2.2.1, and_mask_outside _ _⟩
  exact withCp1_keeps h (.ite (advance_keeps h) (.ite (.ite (raise_keeps hf _) (advance_keeps hf)) .refused))

theorem execEret_keeps : KeepsInv (execEret s) := withCp0_keeps h (.ite .refused (.next (returnFromException_inv h)))

/-- A CACHE operation that writes lines back, and then the record. -/
theorem finishWriteback_keeps {r : BusResult Unit} (hr : r.Canon) {f : Bus → Bus}
    (hf : ∀ b, b.Canonical → (f b).Canonical) :
    KeepsInv (r.toMem.finish s fun _ s' => finishBus s' (f s'.bus)) :=
  MemResult.finish_keeps h (fun a b e => hr a b ((BusResult.toMem_eq_ok r a b).1 e))
    fun _ _ ht => finishBus_keeps ht (hf _ ht.1)

theorem exec_keeps (i : Instr) : KeepsInv (exec i s) := by
  have hb := h.1
  cases i
  case lb | lbu | lh | lhu | lw | lwu | ld => exact loadGpr_keeps h _ _ _ _ _
  case lwl | ldl => exact loadLeft_keeps h _ _ _ _ _
  case lwr | ldr => exact loadRight_keeps h _ _ _ _ _
  case ll | lld => exact linkedLoad_keeps h _ _ _ _ _
  case sb | sh | sw | sd => exact storeWord_keeps h _ _ _ _
  case swl | sdl => exact storeLeft_keeps h _ _ _ _
  case swr | sdr => exact storeRight_keeps h _ _ _ _
  case sc | scd => exact conditionalStore_keeps h _ _ _ _
  case sync => exact finishUnit_keeps h (hb.drain _)
  case addi | add | daddi | dadd | sub | dsub => exact .ite (raise_keeps h _) (finishGpr_keeps h _ _)
  case addiu | daddiu | slti | sltiu | andi | ori | xori | lui | addu | daddu | subu | dsubu | slt | sltu | and | or | xor
      | nor | mfhi | mflo | multg | dmultg | multug | dmultug | divg | ddivg | divug | ddivug | modg | dmodg | modug
      | dmodug | sll | srl | sra | dsll | dsrl | dsra | dsll32 | dsrl32 | dsra32 | sllv | srlv | srav | dsllv | dsrlv
      | dsrav => exact finishGpr_keeps h _ _
  case mult | multu | dmult | dmultu | div | divu | ddiv | ddivu | mthi | mtlo => exact advance_keeps (h.setHiLo _ _)
  case j | jr => exact outsideSlot_keeps (takeBranch_keeps h _)
  case jal => exact outsideSlot_keeps (takeBranch_keeps (h.writeGpr _ _) _)
  case jalr => exact .ite .refused (outsideSlot_keeps (takeBranch_keeps (h.writeGpr _ _) _))
  case beq | bne | blez | bgtz | bltz | bgez => exact branchIf_keeps h _ _
  case beql | bnel | blezl | bgtzl | bltzl | bgezl => exact branchLikelyIf_keeps h _ _
  case bltzal | bgezal => exact linkingBranch_keeps h _ fun _ ht => branchIf_keeps ht _ _
  case bltzall | bgezall => exact linkingBranch_keeps h _ fun _ ht => branchLikelyIf_keeps ht _ _
  case syscall | brk => exact raise_keeps h _
  case tge | tgeu | tlt | tltu | teq | tne | tgei | tgeiu | tlti | tltiu | teqi | tnei => exact trapIf_keeps h _
  case mfc0 | dmfc0 => exact .ite (finishGpr_keeps h _ _) (withCp0_keeps h (finishGpr_keeps h _ _))
  case mtc0 | dmtc0 => exact withCp0_keeps h (advance_keeps (h.writeCp0 _ _))
  case tlbp => exact execTlbp_keeps h
  case tlbr => exact withCp0_keeps h (advance_keeps (h.readTlbEntry _))
  case tlbwi | tlbwr => exact withCp0_keeps h (writeTlbEntry_keeps h _)
  case eret => exact execEret_keeps h
  case cacheIndexLoadTagD =>
    show KeepsInv (execCacheIndexLoadTagD _ _ _)
    exact cacheOp_keeps h _ _ _ fun _ _ => advance_keeps (h.setTags _)
  case cacheIndexLoadTagS =>
    show KeepsInv (execCacheIndexLoadTagS _ _ _)
    exact cacheOp_keeps h _ _ _ fun _ _ => advance_keeps (h.setTags _)
  case cacheIndexLoadDataD =>
    show KeepsInv (execCacheIndexLoadDataD _ _ _)
    exact cacheOp_keeps h _ _ _ fun _ _ => advance_keeps (h.setTags _)
  case cacheIndexLoadDataS =>
    show KeepsInv (execCacheIndexLoadDataS _ _ _)
    exact cacheOp_keeps h _ _ _ fun _ _ => advance_keeps (h.setTags _)
  case cacheIndexStoreTagD =>
    show KeepsInv (execCacheIndexStoreTagD _ _ _)
    exact cacheOp_keeps h _ _ _ fun _ _ => finishBus_keeps h (hb.storeTagD _ _ _)
  case cacheIndexStoreTagS =>
    show KeepsInv (execCacheIndexStoreTagS _ _ _)
    exact cacheOp_keeps h _ _ _ fun _ _ => finishBus_keeps h (hb.storeTagS _ _ _)
  case cacheIndexStoreDataD =>
    show KeepsInv (execCacheIndexStoreDataD _ _ _)
    exact cacheOp_keeps h _ _ _ fun _ _ => finishBus_keeps h (hb.storeDataD _ _ _)
  case cacheIndexStoreDataS =>
    show KeepsInv (execCacheIndexStoreDataS _ _ _)
    exact cacheOp_keeps h _ _ _ fun _ _ => finishBus_keeps h (hb.storeDataS _ _ _)
  case cacheIndexInvalidateI =>
    show KeepsInv (execCacheIndexInvalidateI _ _ _)
    exact cacheOp_keeps h _ _ _ fun _ _ => finishBus_keeps h ((hb.dropSetI _).recordAll _ _)
  case cacheHitInvalidateD =>
    show KeepsInv (execCacheHitInvalidateD _ _ _)
    exact cacheOp_keeps h _ _ _ fun _ _ => finishBus_keeps h (hb.invalidateAllD _)
  case cacheHitInvalidateS =>
    show KeepsInv (execCacheHitInvalidateS _ _ _)
    exact cacheOp_keeps h _ _ _ fun _ _ => finishBus_keeps h (hb.dropAllS _ _)
  case cacheIndexWritebackInvalidateD =>
    show KeepsInv (execCacheIndexWritebackInvalidateD _ _ _)
    exact cacheOp_keeps h _ _ _ fun _ _ => finishWriteback_keeps h (hb.flushD _) fun _ hb => hb.indexWrittenBackD _
  case cacheIndexWritebackInvalidateS =>
    show KeepsInv (execCacheIndexWritebackInvalidateS _ _ _)
    exact cacheOp_keeps h _ _ _ fun _ _ => finishWriteback_keeps h (hb.flushS _) fun _ hb => hb.indexWrittenBackS _
  case cacheHitWritebackInvalidateD =>
    show KeepsInv (execCacheHitWritebackInvalidateD _ _ _)
    exact cacheOp_keeps h _ _ _ fun _ _ => finishWriteback_keeps h (hb.flushAllD _) fun _ hb => hb.record _ _
  case cacheHitWritebackInvalidateS =>
    show KeepsInv (execCacheHitWritebackInvalidateS _ _ _)
    exact cacheOp_keeps h _ _ _ fun _ _ => finishWriteback_keeps h (hb.flushAllS _) fun _ hb => hb.record _ _
  case lwc1 =>
    exact withCp1_keeps h (MemResult.finish_keeps h (loadData_canonical hb _ _)
      fun _ _ ht => advance_keeps (ht.writeFpr32 _ _))
  case ldc1 =>
    exact withCp1_keeps h (withFpr64_keeps (MemResult.finish_keeps h (loadData_canonical hb _ _)
      fun _ _ ht => advance_keeps (ht.writeFpr _ _)))
  case swc1 => exact withCp1_keeps h (storeWord_keeps h _ _ _ _)
  case sdc1 => exact withCp1_keeps h (withFpr64_keeps (storeWord_keeps h _ _ _ _))
  case addS | subS | mulS | absS | negS | maddS | msubS | nmaddS | nmsubS | roundWS | truncWS | ceilWS | floorWS | cvtWS
      | cvtSW => exact withCp1_keeps h (fpFinishS_keeps h _ _)
  case roundWD | truncWD | ceilWD | floorWD | cvtWD | cvtSD | cvtSL =>
    exact withCp1_keeps h (withFpr64_keeps (fpFinishS_keeps h _ _))
  case addD | subD | mulD | absD | negD | addPs | subPs | mulPs | absPs | negPs | maddD | msubD | nmaddD | nmsubD | maddPs
      | msubPs | nmaddPs | nmsubPs | roundLS | truncLS | ceilLS | floorLS | cvtLS | roundLD | truncLD | ceilLD | floorLD
      | cvtLD | cvtDS | cvtDW | cvtDL => exact withCp1_keeps h (withFpr64_keeps (fpFinishD_keeps h _ _))
  case divS | sqrtS => exact withCp1_keeps h (.ite .refused (withCp1_keeps h (fpFinishS_keeps h _ _)))
  case divD | sqrtD =>
    exact withCp1_keeps h (.ite .refused (withCp1_keeps h (withFpr64_keeps (fpFinishD_keeps h _ _))))
  case movS | mtc1 => exact withCp1_keeps h (advance_keeps (h.writeFpr32 _ _))
  case movD | movPs | dmtc1 => exact withCp1_keeps h (withFpr64_keeps (advance_keeps (h.writeFpr _ _)))
  case mfc1 => exact withCp1_keeps h (finishGpr_keeps h _ _)
  case dmfc1 => exact withCp1_keeps h (withFpr64_keeps (finishGpr_keeps h _ _))
  case cfc1 => exact withCp1_keeps h (.ite (finishGpr_keeps h _ _) (.ite (finishGpr_keeps h _ _) .refused))
  case ctc1 => exact execCtc1_keeps h _ _
  case bc1f | bc1t => exact withCp1_keeps h (branchIf_keeps h _ _)
  case bc1fl | bc1tl => exact withCp1_keeps h (branchLikelyIf_keeps h _ _)
  case cFS | cUnS | cEqS | cUeqS | cOltS | cUltS | cOleS | cUleS | cSfS | cNgleS | cSeqS | cNglS | cLtS | cNgeS | cLeS
      | cNgtS => exact fpCompareS_keeps h _ _ _
  case cFD | cUnD | cEqD | cUeqD | cOltD | cUltD | cOleD | cUleD | cSfD | cNgleD | cSeqD | cNglD | cLtD | cNgeD | cLeD
      | cNgtD => exact fpCompareD_keeps h _ _ _
  case cFPs | cUnPs | cEqPs | cUeqPs | cOltPs | cUltPs | cOlePs | cUlePs | cSfPs | cNglePs | cSeqPs | cNglPs | cLtPs
      | cNgePs | cLePs | cNgtPs => exact fpComparePs_keeps h _ _ _

theorem runInstr_keeps : KeepsInv (runInstr s) := by
  obtain ⟨hword, hexc⟩ := h.fetch
  unfold runInstr
  split
  case h_1 w u hf =>
    unfold execWord
    split
    · exact exec_keeps (hword w u hf) _
    · exact rejectWord_keeps (hword w u hf) _ _
  case h_2 e u hf => exact raise_keeps (hexc e u hf) e
  case h_3 => exact .fault

theorem step_keeps : KeepsInv (step s) := by
  unfold step
  rcases h.tick.boundary with ⟨u, hu, hb | hb⟩ | hb <;> rw [hb]
  · exact .next hu
  · exact runInstr_keeps hu
  · exact .fault

end

/-- Settles O55: the tick, the boundary, the fetch and each instruction keep the invariant. -/
theorem stepKeepsInvariant : Obligations.StepKeepsInvariant := fun _ t h e => step_keeps h t e

/-- Settles O56. -/
theorem resetInvariant : Obligations.ResetInvariant :=
  ⟨Bus.reset_canonical, Cp0.reset_reservedZero, by decide, by decide⟩

end Sys2Proof.Machine
end

section
/-! User mode with CP0 closed (47_cp0.md R375, 60_exceptions.md R540): what an instruction can do to the CP0 registers and the
translation buffers. -/

namespace Sys2Proof.Machine

/-- `u` has the CP0 registers and the translation buffers of `s`. -/
def State.SameSystem (s u : State) : Prop := u.cp0 = s.cp0 ∧ u.tlb = s.tlb ∧ u.itlb = s.itlb

/-- An outcome that changes CP0 or the translation buffers only by taking an exception from a state in which they are as in
`s`. -/
def Confined (s : State) (o : Outcome) : Prop :=
  ∀ t, o = .next t → s.SameSystem t ∨ ∃ e u, t = enterException e u ∧ s.SameSystem u

theorem State.SameSystem.refl (s : State) : s.SameSystem s := ⟨rfl, rfl, rfl⟩

section
variable {s : State}

theorem Confined.fault {f : Fault} : Confined s (.fault f) := fun _ h => nomatch h
theorem Confined.refused {r : Refusal} : Confined s (.refused r) := fun _ h => nomatch h

theorem Confined.ite {c : Prop} [Decidable c] {a b : Outcome} (ha : Confined s a) (hb : Confined s b) :
    Confined s (if c then a else b) := by split <;> assumption

section
variable {u : State} (h : s.SameSystem u)
include h

theorem State.SameSystem.writeGpr (r : RegNum) (v : Word) : s.SameSystem (u.writeGpr r v) := by
  simpa [State.SameSystem] using h

theorem State.SameSystem.writeFpr32 (f : RegNum) (v : BitVec 32) : s.SameSystem (u.writeFpr32 f v) := by
  simpa [State.SameSystem] using h

theorem confined_raise (e : Exc) : Confined s (raise e u) := by
  rintro t ⟨⟩
  exact .inr ⟨e, u, rfl, h⟩

theorem confined_advance : Confined s (advance u) := by
  intro t ht
  obtain ⟨-, rfl⟩ := (advance_eq_next u t).1 ht
  exact .inl h

theorem confined_finishGpr (r : RegNum) (v : Word) : Confined s (finishGpr u r v) := confined_advance (h.writeGpr r v)

theorem confined_takeBranch (target : Word) : Confined s (takeBranch u target) := by
  intro t ht
  obtain ⟨-, rfl⟩ := (takeBranch_eq_next u t target).1 ht
  exact .inl h

theorem confined_skipSlot : Confined s (skipSlot u) := by
  refine .ite .fault ?_
  rintro t ⟨⟩
  exact .inl h

theorem confined_branchIf (taken : Bool) (imm : BitVec 16) : Confined s (branchIf u taken imm) :=
  .ite .refused (.ite (confined_takeBranch h _) (confined_takeBranch h _))

theorem confined_branchLikelyIf (taken : Bool) (imm : BitVec 16) : Confined s (branchLikelyIf u taken imm) :=
  .ite .refused (.ite (confined_takeBranch h _) (confined_skipSlot h))

theorem confined_linkingBranch (rs : RegNum) {k : State → Outcome} (hk : ∀ t, s.SameSystem t → Confined s (k t)) :
    Confined s (linkingBranch u rs k) := .ite .refused (hk _ (h.writeGpr _ _))

theorem confined_trapIf (c : Bool) : Confined s (trapIf u c) := .ite (confined_raise h _) (confined_advance h)

theorem confined_withCp1 {k : Outcome} (hk : Confined s k) : Confined s (withCp1 u k) := .ite hk (confined_raise h _)

theorem confined_fpComplete (c : FpCauses) {k : State → Outcome} (hk : ∀ t, s.SameSystem t → Confined s (k t)) :
    Confined s (fpComplete u c k) :=
  .ite (confined_raise (u := { u with fcsr := fcsrSetCauses u.fcsr c }) h _) (hk _ h)

theorem confined_fpFinishS (fd : RegNum) (r : FpResult) : Confined s (fpFinishS u fd r) :=
  confined_fpComplete h _ fun _ ht => confined_advance (ht.writeFpr32 _ _)

theorem confined_fpFinishD (fd : RegNum) (r : FpResult) : Confined s (fpFinishD u fd r) :=
  confined_fpComplete h _ fun _ ht => confined_advance ht

theorem confined_fpFinishCompare (i : Bool) (f : BitVec 32 → BitVec 32) : Confined s (fpFinishCompare u i f) :=
  confined_fpComplete h _ fun _ ht => confined_advance ht

theorem confined_finish {α : Type} (r : MemResult α) {k : α → State → Outcome}
    (hk : ∀ a t, s.SameSystem t → Confined s (k a t)) : Confined s (r.finish u k) := by
  cases r with
  | ok a b => exact hk a _ h
  | exc e => exact confined_raise h e
  | stop f => exact .fault

theorem confined_finishBus (b : Bus) : Confined s (finishBus u b) := confined_advance h

theorem confined_loadToZero (va : Word) : Confined s (loadToZero u va) := by
  unfold loadToZero
  split
  · exact .fault
  · exact confined_advance h

theorem confined_linkedLoad (base rt : RegNum) (offset : BitVec 16) (n : Nat) (ext : Word → Word) :
    Confined s (linkedLoad u base rt offset n ext) :=
  .ite .refused (confined_finish h _ fun _ t ht => confined_finishGpr (u := { t with llbit := true }) ht _ _)

theorem confined_conditionalStore (base rt : RegNum) (offset : BitVec 16) (n : Nat) :
    Confined s (conditionalStore u base rt offset n) :=
  confined_finish h _ fun _ t ht => confined_finishGpr (u := { t with llbit := false }) ht _ _

theorem confined_storeWord (base : RegNum) (offset : BitVec 16) (n : Nat) (v : Word) :
    Confined s (storeWord u base offset n v) := confined_finish h _ fun _ _ ht => confined_advance ht

end

theorem confined_withFpr64 {fs : List RegNum} {k : Outcome} (hk : Confined s k) : Confined s (withFpr64 s fs k) :=
  .ite hk .refused

/-- A CACHE operation that keeps to the caches is confined whoever runs it. -/
theorem confined_cacheOp {base : RegNum} {offset : BitVec 16} {relaxed : Bool} {k : Word → PhysAddr → Outcome}
    (hk : ∀ va pa, Confined s (k va pa)) : Confined s (cacheOp s base offset relaxed k) := by
  unfold cacheOp
  split
  · exact .fault
  · refine .ite ?_ (confined_raise (.refl s) _)
    dsimp only
    split
    · exact confined_raise (.refl s) _
    · exact .fault
    · exact .ite (hk _ _) .fault

theorem confined_withCp0 {k : Outcome} (hk : Confined s k) : Confined s (withCp0 s k) := by
  unfold withCp0
  split
  · exact .fault
  · exact .ite hk (confined_raise (.refl s) _)

theorem execCtc1_confined (rt fs : RegNum) : Confined s (execCtc1 rt fs s) := by
  have hf (f : BitVec 32) : s.SameSystem { s with fcsr := f } := .refl s
  exact confined_withCp1 (.refl s) (.ite (confined_advance (.refl s))
    (.ite (.ite (confined_raise (hf _) _) (confined_advance (hf _))) .refused))

/-- The instructions that write a CP0 register or the TLB themselves, where they are usable. -/
def writesSystem : Instr → Bool
  | .mtc0 .. | .dmtc0 .. | .tlbp | .tlbr | .tlbwi | .tlbwr | .eret | .cacheIndexLoadTagD .. | .cacheIndexLoadTagS ..
  | .cacheIndexLoadDataD .. | .cacheIndexLoadDataS .. => true
  | _ => false

theorem exec_confined {i : Instr} (hi : writesSystem i = false) : Confined s (exec i s) := by
  have h := State.SameSystem.refl s
  cases i
  case mtc0 | dmtc0 | tlbp | tlbr | tlbwi | tlbwr | eret | cacheIndexLoadTagD | cacheIndexLoadTagS | cacheIndexLoadDataD
      | cacheIndexLoadDataS => cases hi
  case lb | lbu | lh | lhu | lw | lwu | ld | lwl | ldl | lwr | ldr =>
    exact .ite (confined_loadToZero h _) (confined_finish h _ fun _ _ ht => confined_finishGpr ht _ _)
  case ll | lld => exact confined_linkedLoad h _ _ _ _ _
  case sb | sh | sw | sd | swl | sdl | swr | sdr => exact confined_finish h _ fun _ _ ht => confined_advance ht
  case sc | scd => exact confined_conditionalStore h _ _ _ _
  case lwc1 => exact confined_withCp1 h (confined_finish h _ fun _ _ ht => confined_advance (ht.writeFpr32 _ _))
  case ldc1 => exact confined_withCp1 h (confined_withFpr64 (confined_finish h _ fun _ _ ht => confined_advance ht))
  case swc1 => exact confined_withCp1 h (confined_storeWord h _ _ _ _)
  case sdc1 => exact confined_withCp1 h (confined_withFpr64 (confined_storeWord h _ _ _ _))
  case sync => exact confined_finish h _ fun _ _ ht => confined_advance ht
  case addi | add | daddi | dadd | sub | dsub => exact .ite (confined_raise h _) (confined_finishGpr h _ _)
  case addiu | daddiu | slti | sltiu | andi | ori | xori | lui | addu | daddu | subu | dsubu | slt | sltu | and | or | xor
      | nor | mfhi | mflo | multg | dmultg | multug | dmultug | divg | ddivg | divug | ddivug | modg | dmodg | modug
      | dmodug | sll | srl | sra | dsll | dsrl | dsra | dsll32 | dsrl32 | dsra32 | sllv | srlv | srav | dsllv | dsrlv
      | dsrav => exact confined_finishGpr h _ _
  case mult | multu | dmult | dmultu | div | divu | ddiv | ddivu | mthi | mtlo => exact confined_advance h
  case j | jr => exact .ite .refused (confined_takeBranch h _)
  case jal => exact .ite .refused (confined_takeBranch (h.writeGpr _ _) _)
  case jalr => exact .ite .refused (.ite .refused (confined_takeBranch (h.writeGpr _ _) _))
  case beq | bne | blez | bgtz | bltz | bgez => exact confined_branchIf h _ _
  case beql | bnel | blezl | bgtzl | bltzl | bgezl => exact confined_branchLikelyIf h _ _
  case bltzal | bgezal => exact confined_linkingBranch h _ fun _ ht => confined_branchIf ht _ _
  case bltzall | bgezall => exact confined_linkingBranch h _ fun _ ht => confined_branchLikelyIf ht _ _
  case syscall | brk => exact confined_raise h _
  case tge | tgeu | tlt | tltu | teq | tne | tgei | tgeiu | tlti | tltiu | teqi | tnei => exact confined_trapIf h _
  case mfc0 | dmfc0 => exact .ite (confined_finishGpr h _ _) (confined_withCp0 (confined_finishGpr h _ _))
  case cacheIndexStoreTagD =>
    show Confined s (execCacheIndexStoreTagD _ _ _)
    exact confined_cacheOp fun _ _ => confined_finishBus h _
  case cacheIndexStoreTagS =>
    show Confined s (execCacheIndexStoreTagS _ _ _)
    exact confined_cacheOp fun _ _ => confined_finishBus h _
  case cacheIndexStoreDataD =>
    show Confined s (execCacheIndexStoreDataD _ _ _)
    exact confined_cacheOp fun _ _ => confined_finishBus h _
  case cacheIndexStoreDataS =>
    show Confined s (execCacheIndexStoreDataS _ _ _)
    exact confined_cacheOp fun _ _ => confined_finishBus h _
  case cacheIndexInvalidateI =>
    show Confined s (execCacheIndexInvalidateI _ _ _)
    exact confined_cacheOp fun _ _ => confined_finishBus h _
  case cacheHitInvalidateD =>
    show Confined s (execCacheHitInvalidateD _ _ _)
    exact confined_cacheOp fun _ _ => confined_finishBus h _
  case cacheHitInvalidateS =>
    show Confined s (execCacheHitInvalidateS _ _ _)
    exact confined_cacheOp fun _ _ => confined_finishBus h _
  case cacheIndexWritebackInvalidateD =>
    show Confined s (execCacheIndexWritebackInvalidateD _ _ _)
    exact confined_cacheOp fun _ _ => confined_finish h _ fun _ _ ht => confined_finishBus ht _
  case cacheIndexWritebackInvalidateS =>
    show Confined s (execCacheIndexWritebackInvalidateS _ _ _)
    exact confined_cacheOp fun _ _ => confined_finish h _ fun _ _ ht => confined_finishBus ht _
  case cacheHitWritebackInvalidateD =>
    show Confined s (execCacheHitWritebackInvalidateD _ _ _)
    exact confined_cacheOp fun _ _ => confined_finish h _ fun _ _ ht => confined_finishBus ht _
  case cacheHitWritebackInvalidateS =>
    show Confined s (execCacheHitWritebackInvalidateS _ _ _)
    exact confined_cacheOp fun _ _ => confined_finish h _ fun _ _ ht => confined_finishBus ht _
  case addS | subS | mulS | absS | negS | maddS | msubS | nmaddS | nmsubS | roundWS | truncWS | ceilWS | floorWS | cvtWS
      | cvtSW => exact confined_withCp1 h (confined_fpFinishS h _ _)
  case roundWD | truncWD | ceilWD | floorWD | cvtWD | cvtSD | cvtSL =>
    exact confined_withCp1 h (confined_withFpr64 (confined_fpFinishS h _ _))
  case addD | subD | mulD | absD | negD | addPs | subPs | mulPs | absPs | negPs | maddD | msubD | nmaddD | nmsubD | maddPs
      | msubPs | nmaddPs | nmsubPs | roundLS | truncLS | ceilLS | floorLS | cvtLS | roundLD | truncLD | ceilLD | floorLD
      | cvtLD | cvtDS | cvtDW | cvtDL => exact confined_withCp1 h (confined_withFpr64 (confined_fpFinishD h _ _))
  case divS | sqrtS => exact confined_withCp1 h (.ite .refused (confined_withCp1 h (confined_fpFinishS h _ _)))
  case divD | sqrtD =>
    exact confined_withCp1 h (.ite .refused (confined_withCp1 h (confined_withFpr64 (confined_fpFinishD h _ _))))
  case movS | mtc1 => exact confined_withCp1 h (confined_advance (h.writeFpr32 _ _))
  case movD | movPs | dmtc1 => exact confined_withCp1 h (confined_withFpr64 (confined_advance (h)))
  case mfc1 => exact confined_withCp1 h (confined_finishGpr h _ _)
  case dmfc1 => exact confined_withCp1 h (confined_withFpr64 (confined_finishGpr h _ _))
  case cfc1 => exact confined_withCp1 h (.ite (confined_finishGpr h _ _) (.ite (confined_finishGpr h _ _) .refused))
  case ctc1 => exact execCtc1_confined _ _
  case bc1f | bc1t => exact confined_withCp1 h (confined_branchIf h _ _)
  case bc1fl | bc1tl => exact confined_withCp1 h (confined_branchLikelyIf h _ _)
  case cFS | cUnS | cEqS | cUeqS | cOltS | cUltS | cOleS | cUleS | cSfS | cNgleS | cSeqS | cNglS | cLtS | cNgeS | cLeS
      | cNgtS => exact confined_withCp1 h (confined_fpFinishCompare h _ _)
  case cFD | cUnD | cEqD | cUeqD | cOltD | cUltD | cOleD | cUleD | cSfD | cNgleD | cSeqD | cNglD | cLtD | cNgeD | cLeD
      | cNgtD => exact confined_withCp1 h (confined_withFpr64 (confined_fpFinishCompare h _ _))
  case cFPs | cUnPs | cEqPs | cUeqPs | cOltPs | cUltPs | cOlePs | cUlePs | cSfPs | cNglePs | cSeqPs | cNglPs | cLtPs
      | cNgePs | cLePs | cNgtPs => exact confined_withCp1 h (confined_withFpr64 (confined_fpFinishCompare h _ _))

/-- In user mode with CP0 closed each of the others takes coprocessor unusable. -/
theorem exec_of_plainUser {i : Instr} (h : s.PlainUser) (hi : writesSystem i = true) :
    exec i s = raise (.coprocessorUnusable 0#2) s := by
  have hcp0 (k : Outcome) : withCp0 s k = raise (.coprocessorUnusable 0#2) s := withCp0_of_unusable k h.cp0Unusable
  have hcache (base : RegNum) (offset : BitVec 16) (k : Word → PhysAddr → Outcome) :
      cacheOp s base offset false k = raise (.coprocessorUnusable 0#2) s := by
    simp [cacheOp, h.1, cacheUsableIn, cp0UsableIn, h.2]
  cases i
  case mtc0 | dmtc0 | tlbp | tlbr | tlbwi | tlbwr | eret => exact hcp0 _
  case cacheIndexLoadTagD =>
    show execCacheIndexLoadTagD _ _ _ = _
    exact hcache _ _ _
  case cacheIndexLoadTagS =>
    show execCacheIndexLoadTagS _ _ _ = _
    exact hcache _ _ _
  case cacheIndexLoadDataD =>
    show execCacheIndexLoadDataD _ _ _ = _
    exact hcache _ _ _
  case cacheIndexLoadDataS =>
    show execCacheIndexLoadDataS _ _ _ = _
    exact hcache _ _ _
  all_goals cases hi

end

/-- Settles O42: an instruction that writes neither CP0 nor the TLB is confined in every state, and the others take coprocessor
unusable. -/
theorem userModeConfined : Obligations.UserModeConfined := by
  intro s t i h ht
  cases hi : writesSystem i
  case false => exact exec_confined hi t ht
  case true =>
    rw [exec_of_plainUser h hi] at ht
    exact confined_raise (.refl s) _ t ht

end Sys2Proof.Machine
end

section
/-! Decoding and encoding (30_encoding.md R160 to R177). -/

namespace Sys2Proof

/-! A word is the encoding of its fields. -/

section
variable (w : BitVec 32)

theorem rWord_fields : rWord (opField w) (rsField w) (rtField w) (rdField w) (saField w) (functField w) = w := by
  have cut (hi lo n m : Nat) (h : hi = lo + n) : w.extractLsb' hi m ++ w.extractLsb' lo n = w.extractLsb' lo (m + n) :=
    BitVec.extractLsb'_append_extractLsb'_eq_extractLsb' h
  have h1 := cut 26 21 5 6 rfl
  have h2 := cut 21 16 5 11 rfl
  have h3 := cut 16 11 5 16 rfl
  have h4 := cut 11 6 5 21 rfl
  have h5 := cut 6 0 6 26 rfl
  simp only [Nat.reduceAdd] at h1 h2 h3 h4 h5
  simp only [rWord, opField, rsField, rtField, rdField, saField, functField, h1, h2, h3, h4, h5]
  exact BitVec.extractLsb'_eq_self

theorem iWord_fields : iWord (opField w) (rsField w) (rtField w) (immField w) = w := by
  have cut (hi lo n m : Nat) (h : hi = lo + n) : w.extractLsb' hi m ++ w.extractLsb' lo n = w.extractLsb' lo (m + n) :=
    BitVec.extractLsb'_append_extractLsb'_eq_extractLsb' h
  have h1 := cut 26 21 5 6 rfl
  have h2 := cut 21 16 5 11 rfl
  have h3 := cut 16 0 16 16 rfl
  simp only [Nat.reduceAdd] at h1 h2 h3
  simp only [iWord, opField, rsField, rtField, immField, h1, h2, h3]
  exact BitVec.extractLsb'_eq_self

theorem jWord_fields : jWord (opField w) (targetField w) = w := by
  have cut (hi lo n m : Nat) (h : hi = lo + n) : w.extractLsb' hi m ++ w.extractLsb' lo n = w.extractLsb' lo (m + n) :=
    BitVec.extractLsb'_append_extractLsb'_eq_extractLsb' h
  have h := cut 26 0 26 6 rfl
  simp only [Nat.reduceAdd] at h
  simp only [jWord, opField, targetField, h]
  exact BitVec.extractLsb'_eq_self

theorem codeWord_fields : codeWord (opField w) (codeField w) (functField w) = w := by
  have cut (hi lo n m : Nat) (h : hi = lo + n) : w.extractLsb' hi m ++ w.extractLsb' lo n = w.extractLsb' lo (m + n) :=
    BitVec.extractLsb'_append_extractLsb'_eq_extractLsb' h
  have h1 := cut 26 6 20 6 rfl
  have h2 := cut 6 0 6 26 rfl
  simp only [Nat.reduceAdd] at h1 h2
  simp only [codeWord, opField, codeField, functField, h1, h2]
  exact BitVec.extractLsb'_eq_self

theorem trapWord_fields : trapWord (opField w) (rsField w) (rtField w) (trapCodeField w) (functField w) = w := by
  have cut (hi lo n m : Nat) (h : hi = lo + n) : w.extractLsb' hi m ++ w.extractLsb' lo n = w.extractLsb' lo (m + n) :=
    BitVec.extractLsb'_append_extractLsb'_eq_extractLsb' h
  have h1 := cut 26 21 5 6 rfl
  have h2 := cut 21 16 5 11 rfl
  have h3 := cut 16 6 10 16 rfl
  have h4 := cut 6 0 6 26 rfl
  simp only [Nat.reduceAdd] at h1 h2 h3 h4
  simp only [trapWord, opField, rsField, rtField, trapCodeField, functField, h1, h2, h3, h4]
  exact BitVec.extractLsb'_eq_self

end

section
variable {w : BitVec 32} {op : BitVec 6} {rs rt rd sa : RegNum} {funct : BitVec 6}

theorem rWord_eq_iff : rWord op rs rt rd sa funct = w ↔ opField w = op ∧ rsField w = rs ∧ rtField w = rt ∧
    rdField w = rd ∧ saField w = sa ∧ functField w = funct := by
  constructor
  · rintro rfl; simp
  · rintro ⟨rfl, rfl, rfl, rfl, rfl, rfl⟩; exact rWord_fields w

theorem iWord_eq_iff {imm : BitVec 16} :
    iWord op rs rt imm = w ↔ opField w = op ∧ rsField w = rs ∧ rtField w = rt ∧ immField w = imm := by
  constructor
  · rintro rfl; simp
  · rintro ⟨rfl, rfl, rfl, rfl⟩; exact iWord_fields w

theorem jWord_eq_iff {target : BitVec 26} : jWord op target = w ↔ opField w = op ∧ targetField w = target := by
  constructor
  · rintro rfl; simp
  · rintro ⟨rfl, rfl⟩; exact jWord_fields w

theorem codeWord_eq_iff {code : BitVec 20} :
    codeWord op code funct = w ↔ opField w = op ∧ codeField w = code ∧ functField w = funct := by
  constructor
  · rintro rfl; simp
  · rintro ⟨rfl, rfl, rfl⟩; exact codeWord_fields w

theorem trapWord_eq_iff {code : BitVec 10} : trapWord op rs rt code funct = w ↔
    opField w = op ∧ rsField w = rs ∧ rtField w = rt ∧ trapCodeField w = code ∧ functField w = funct := by
  constructor
  · rintro rfl; simp
  · rintro ⟨rfl, rfl, rfl, rfl, rfl⟩; exact trapWord_fields w

end

/-! Each opcode map answers an instruction whose encoding is the word. -/

/-- `r` answers no instruction but one with `p`. -/
def Answers (p : Instr → Prop) (r : Except Rejection Instr) : Prop := ∀ i, r = .ok i → p i

section
variable {p : Instr → Prop}

theorem Answers.error {r : Rejection} : Answers p (.error r) := fun _ h => nomatch h

theorem Answers.ok {i : Instr} (h : p i) : Answers p (.ok i) := by rintro _ ⟨⟩; exact h

theorem Answers.ite {c : Prop} [Decidable c] {a b : Except Rejection Instr} (ha : c → Answers p a)
    (hb : Answers p b) : Answers p (if c then a else b) := by
  split
  · exact ha ‹_›
  · exact hb

theorem Answers.okWhen {zero : Prop} [Decidable zero] {i : Instr} (h : zero → p i) : Answers p (okWhen zero i) :=
  .ite (fun hz => .ok (h hz)) .error

end

section
variable {w : BitVec 32}

theorem encodes_syscall (hop : opField w = 0x00#6) (hf : functField w = 0x0C#6) :
    Answers (encode · = w) (.ok (.syscall (codeField w))) := .ok (codeWord_eq_iff.2 ⟨hop, rfl, hf⟩)

theorem encodes_brk (hop : opField w = 0x00#6) (hf : functField w = 0x0D#6) :
    Answers (encode · = w) (.ok (.brk (codeField w))) := .ok (codeWord_eq_iff.2 ⟨hop, rfl, hf⟩)

theorem encodes_j (hop : opField w = 0x02#6) : Answers (encode · = w) (.ok (.j (targetField w))) :=
  .ok (jWord_eq_iff.2 ⟨hop, rfl⟩)

theorem encodes_jal (hop : opField w = 0x03#6) : Answers (encode · = w) (.ok (.jal (targetField w))) :=
  .ok (jWord_eq_iff.2 ⟨hop, rfl⟩)

theorem decodeSpecial_encodes (hop : opField w = 0x00#6) : Answers (encode · = w) (decodeSpecial w) := by
  unfold decodeSpecial
  repeat' with_reducible refine Answers.ite (fun hf => ?_) ?_
  all_goals first
    | with_reducible exact .error
    | with_reducible exact encodes_syscall hop hf
    | with_reducible exact encodes_brk hop hf
    | with_reducible refine .okWhen fun hz => ?_
      exact rWord_eq_iff.2 (by simp only [hop, hf, hz, and_self])
    | with_reducible refine .ok ?_
      exact trapWord_eq_iff.2 ⟨hop, rfl, rfl, rfl, hf⟩

theorem decodeRegimm_encodes (hop : opField w = 0x01#6) : Answers (encode · = w) (decodeRegimm w) := by
  unfold decodeRegimm
  repeat' with_reducible refine Answers.ite (fun hf => ?_) ?_
  all_goals first
    | exact .error
    | exact .ok (iWord_eq_iff.2 (by simp [hop, hf]))

theorem decodeCop0_encodes (hop : opField w = 0x10#6) : Answers (encode · = w) (decodeCop0 w) := by
  unfold decodeCop0
  repeat' with_reducible refine Answers.ite (fun hf => ?_) ?_
  all_goals first
    | exact .error
    | exact .okWhen fun hz => rWord_eq_iff.2 (by simp [hop, hf, hz])

theorem decodeCache_encodes (hop : opField w = 0x2F#6) : Answers (encode · = w) (decodeCache w) := by
  unfold decodeCache
  repeat' with_reducible refine Answers.ite (fun hf => ?_) ?_
  all_goals first
    | exact .error
    | exact .ok (iWord_eq_iff.2 (by simp [hop, hf]))

theorem decodeFpS_encodes (hop : opField w = 0x11#6) (hfmt : rsField w = 0x10#5) :
    Answers (encode · = w) (decodeFpS w) := by
  unfold decodeFpS
  repeat' with_reducible refine Answers.ite (fun hf => ?_) ?_
  all_goals first
    | exact .error
    | exact .ok (rWord_eq_iff.2 (by simp [hop, hfmt, hf]))
    | exact .okWhen fun hz => rWord_eq_iff.2 (by simp [hop, hfmt, hf, hz])

theorem decodeFpD_encodes (hop : opField w = 0x11#6) (hfmt : rsField w = 0x11#5) :
    Answers (encode · = w) (decodeFpD w) := by
  unfold decodeFpD
  repeat' with_reducible refine Answers.ite (fun hf => ?_) ?_
  all_goals first
    | exact .error
    | exact .ok (rWord_eq_iff.2 (by simp [hop, hfmt, hf]))
    | exact .okWhen fun hz => rWord_eq_iff.2 (by simp [hop, hfmt, hf, hz])

theorem decodeFpPs_encodes (hop : opField w = 0x11#6) (hfmt : rsField w = 0x16#5) :
    Answers (encode · = w) (decodeFpPs w) := by
  unfold decodeFpPs
  repeat' with_reducible refine Answers.ite (fun hf => ?_) ?_
  all_goals first
    | exact .error
    | exact .ok (rWord_eq_iff.2 (by simp [hop, hfmt, hf]))
    | exact .okWhen fun hz => rWord_eq_iff.2 (by simp [hop, hfmt, hf, hz])

theorem decodeFpW_encodes (hop : opField w = 0x11#6) (hfmt : rsField w = 0x14#5) :
    Answers (encode · = w) (decodeFpW w) := by
  unfold decodeFpW
  repeat' with_reducible refine Answers.ite (fun hf => ?_) ?_
  all_goals first
    | exact .error
    | exact .okWhen fun hz => rWord_eq_iff.2 (by simp [hop, hfmt, hf, hz])

theorem decodeFpL_encodes (hop : opField w = 0x11#6) (hfmt : rsField w = 0x15#5) :
    Answers (encode · = w) (decodeFpL w) := by
  unfold decodeFpL
  repeat' with_reducible refine Answers.ite (fun hf => ?_) ?_
  all_goals first
    | exact .error
    | exact .okWhen fun hz => rWord_eq_iff.2 (by simp [hop, hfmt, hf, hz])

theorem decodeBc1_encodes (hop : opField w = 0x11#6) (hfmt : rsField w = 0x08#5) :
    Answers (encode · = w) (decodeBc1 w) := by
  unfold decodeBc1
  repeat' with_reducible refine Answers.ite (fun hf => ?_) ?_
  all_goals first
    | exact .error
    | exact .ok (iWord_eq_iff.2 (by simp [hop, hfmt, hf]))

theorem decodeCop1_encodes (hop : opField w = 0x11#6) : Answers (encode · = w) (decodeCop1 w) := by
  unfold decodeCop1
  repeat' with_reducible refine Answers.ite (fun hf => ?_) ?_
  all_goals first
    | with_reducible exact .error
    | with_reducible exact decodeBc1_encodes hop hf
    | with_reducible exact decodeFpS_encodes hop hf
    | with_reducible exact decodeFpD_encodes hop hf
    | with_reducible exact decodeFpW_encodes hop hf
    | with_reducible exact decodeFpL_encodes hop hf
    | with_reducible exact decodeFpPs_encodes hop hf
    | exact .okWhen fun hz => rWord_eq_iff.2 (by simp only [hop, hf, hz, and_self])

theorem decodeMadd_encodes (hop : opField w = 0x1C#6) : Answers (encode · = w) (decodeMadd w) := by
  unfold decodeMadd
  repeat' with_reducible refine Answers.ite (fun hf => ?_) ?_
  all_goals first
    | exact .error
    | exact .ok (rWord_eq_iff.2 (by simp [hop, hf]))

theorem decodeSpecial2_encodes (hop : opField w = 0x1C#6) : Answers (encode · = w) (decodeSpecial2 w) := by
  unfold decodeSpecial2
  repeat' with_reducible refine Answers.ite (fun hf => ?_) ?_
  all_goals first
    | exact decodeMadd_encodes hop
    | exact .okWhen fun hz => rWord_eq_iff.2 (by simp [hop, hf, hz])

theorem decode_encodes : Answers (encode · = w) (decode w) := by
  unfold decode
  repeat' with_reducible refine Answers.ite (fun hop => ?_) ?_
  all_goals first
    | with_reducible exact .error
    | with_reducible exact decodeSpecial_encodes hop
    | with_reducible exact decodeRegimm_encodes hop
    | with_reducible exact encodes_j hop
    | with_reducible exact encodes_jal hop
    | with_reducible exact decodeCop0_encodes hop
    | with_reducible exact decodeCop1_encodes hop
    | with_reducible exact decodeSpecial2_encodes hop
    | with_reducible exact decodeCache_encodes hop
    | with_reducible refine .okWhen fun hz => ?_
      exact iWord_eq_iff.2 (by simp only [hop, hz, and_self])
    | with_reducible refine .ok ?_
      exact iWord_eq_iff.2 ⟨hop, rfl, rfl, rfl⟩

end

/-! Every instruction is read back from its word: the fields of the word select the row of the maps. -/

theorem decode_encode (i : Instr) : decode (encode i) = .ok i := by
  cases i
  case lb | lbu | lh | lhu | lw | lwu | ld | lwl | lwr | ldl | ldr | ll | lld | sb | sh | sw | sd | swl | swr |
      sdl | sdr | sc | scd | lwc1 | ldc1 | swc1 | sdc1 | addi | daddi | addiu | daddiu | slti | sltiu | andi |
      ori | xori | lui | beq | bne | blez | bgtz | beql | bnel | blezl | bgtzl =>
    show decode (iWord _ _ _ _) = _
    simp [decode, okWhen]
  case sync | add | dadd | addu | daddu | sub | dsub | subu | dsubu | slt | sltu | and | or | xor | nor | mult |
      multu | dmult | dmultu | div | divu | ddiv | ddivu | mfhi | mthi | mflo | mtlo | jr | jalr | sll | srl |
      sra | dsll | dsrl | dsra | dsll32 | dsrl32 | dsra32 | sllv | srlv | srav | dsllv | dsrlv | dsrav =>
    show decode (rWord _ _ _ _ _ _) = _
    simp [decode, decodeSpecial, okWhen]
  case multg | dmultg | multug | dmultug | divg | ddivg | divug | ddivug | modg | dmodg | modug | dmodug | maddS
      | maddD | maddPs | msubS | msubD | msubPs | nmaddS | nmaddD | nmaddPs | nmsubS | nmsubD | nmsubPs =>
    show decode (rWord _ _ _ _ _ _) = _
    simp [decode, decodeSpecial2, decodeMadd, okWhen]
  case j | jal =>
    show decode (jWord _ _) = _
    simp [decode]
  case bltz | bgez | bltzal | bgezal | bltzl | bgezl | bltzall | bgezall | tgei | tgeiu | tlti | tltiu | teqi |
      tnei =>
    show decode (iWord _ _ _ _) = _
    simp [decode, decodeRegimm]
  case syscall | brk =>
    show decode (codeWord _ _ _) = _
    simp [decode, decodeSpecial]
  case tge | tgeu | tlt | tltu | teq | tne =>
    show decode (trapWord _ _ _ _ _) = _
    simp [decode, decodeSpecial]
  case mfc0 | mtc0 | dmfc0 | dmtc0 | tlbp | tlbr | tlbwi | tlbwr | eret =>
    show decode (rWord _ _ _ _ _ _) = _
    simp [decode, decodeCop0, okWhen]
  case cacheIndexInvalidateI | cacheIndexWritebackInvalidateD | cacheIndexWritebackInvalidateS |
      cacheIndexLoadTagD | cacheIndexLoadTagS | cacheIndexStoreTagD | cacheIndexStoreTagS | cacheHitInvalidateD
      | cacheHitInvalidateS | cacheHitWritebackInvalidateD | cacheHitWritebackInvalidateS | cacheIndexLoadDataD
      | cacheIndexLoadDataS | cacheIndexStoreDataD | cacheIndexStoreDataS =>
    show decode (iWord _ _ _ _) = _
    simp [decode, decodeCache]
  case addS | addD | subS | subD | mulS | mulD | divS | divD | sqrtS | sqrtD | absS | absD | movS | movD | negS
      | negD | roundLS | roundLD | truncLS | truncLD | ceilLS | ceilLD | floorLS | floorLD | roundWS | roundWD
      | truncWS | truncWD | ceilWS | ceilWD | floorWS | floorWD | cvtSD | cvtSW | cvtSL | cvtDS | cvtDW | cvtDL
      | cvtWS | cvtWD | cvtLS | cvtLD | mfc1 | dmfc1 | cfc1 | mtc1 | dmtc1 | ctc1 | cFS | cFD | cUnS | cUnD |
      cEqS | cEqD | cUeqS | cUeqD | cOltS | cOltD | cUltS | cUltD | cOleS | cOleD | cUleS | cUleD | cSfS | cSfD
      | cNgleS | cNgleD | cSeqS | cSeqD | cNglS | cNglD | cLtS | cLtD | cNgeS | cNgeD | cLeS | cLeD | cNgtS |
      cNgtD | addPs | subPs | mulPs | absPs | movPs | negPs | cFPs | cUnPs | cEqPs | cUeqPs | cOltPs | cUltPs |
      cOlePs | cUlePs | cSfPs | cNglePs | cSeqPs | cNglPs | cLtPs | cNgePs | cLePs | cNgtPs =>
    show decode (rWord _ _ _ _ _ _) = _
    simp [decode, decodeCop1, decodeFpS, decodeFpD, decodeFpW, decodeFpL, decodeFpPs, okWhen]
  case bc1f | bc1t | bc1fl | bc1tl =>
    show decode (iWord _ _ _ _) = _
    simp [decode, decodeCop1, decodeBc1]

/-- Settles O57: `decode_encode` reads the word back, and the four bytes are the word again. -/
theorem decodeOfEncode : Obligations.DecodeOfEncode := by
  unfold Obligations.DecodeOfEncode
  intro i _
  have hbytes := decodeBytes_bytesOfWord (encode i) []
  rw [decode_encode, List.append_nil] at hbytes
  exact ⟨decode_encode i, hbytes⟩

/-- Settles O58: every row of every map is encoded as the fields that select it. -/
theorem encodeOfDecode : Obligations.EncodeOfDecode := by
  unfold Obligations.EncodeOfDecode
  exact fun w i h => decode_encodes i h

theorem decode_of_encode_eq {w : BitVec 32} {i : Instr} (h : encode i = w) : decode w = .ok i := h ▸ decode_encode i

/-- Settles O59: each word is the encoding of its instruction, which `decode_encode` reads back. -/
theorem writtenWords : Obligations.WrittenWords :=
  ⟨decode_of_encode_eq rfl, decode_of_encode_eq rfl, decode_of_encode_eq rfl, decode_of_encode_eq rfl,
    decode_of_encode_eq rfl, decode_of_encode_eq rfl, decode_of_encode_eq rfl, decode_of_encode_eq rfl⟩

end Sys2Proof
end

section
/-! Integer arithmetic: register 0, the immediate and register forms, products, quotients and shifts (10_state.md R20,
41_alu_immediate.md to 45_shift.md). -/

namespace Sys2Proof.Machine

/-- Settles O1: the rules of `readGpr` and `writeGpr`, register 0 apart. -/
theorem registerWrite : Obligations.RegisterWrite := by
  intro s r q v
  refine ⟨?read, rfl, ?frame⟩
  case read =>
    by_cases hq : q = 0#5
    · simp [hq]
    · by_cases hqr : q = r
      · subst hqr
        simpa [hq] using s.readGpr_writeGpr_self q v hq
      · simpa [hq, hqr] using s.readGpr_writeGpr_other r q v hqr
  case frame =>
    unfold State.writeGpr
    split <;> rfl

/-! The 32-bit results: bits 31:0 of an integer, sign-extended, are the integer wrapped to 32 bits (R181). -/

theorem sext32_ofInt (n : Int) : sext32 (BitVec.ofInt 32 n) = BitVec.ofInt 64 (Int.bmod n (2 ^ 32)) := by
  rw [sext32, BitVec.signExtend, BitVec.toInt_ofInt]

theorem sext32_eq_bmod_toNat (x : BitVec 32) : sext32 x = BitVec.ofInt 64 (Int.bmod x.toNat (2 ^ 32)) := by
  rw [sext32, BitVec.signExtend, BitVec.toInt_eq_toNat_bmod]

theorem ofInt_toInt_eq_low32 (a : Word) : BitVec.ofInt 32 a.toInt = low32 a :=
  BitVec.signExtend_eq_setWidth_of_le a (by decide)

theorem sext32_add (a b : Word) :
    sext32 (low32 a + low32 b) = BitVec.ofInt 64 (Int.bmod (a.toInt + b.toInt) (2 ^ 32)) := by
  rw [← sext32_ofInt, BitVec.ofInt_add, ofInt_toInt_eq_low32, ofInt_toInt_eq_low32]

theorem sext32_sub (a b : Word) :
    sext32 (low32 a - low32 b) = BitVec.ofInt 64 (Int.bmod (a.toInt - b.toInt) (2 ^ 32)) := by
  rw [← sext32_ofInt, Int.sub_eq_add_neg, BitVec.ofInt_add, BitVec.ofInt_neg, ofInt_toInt_eq_low32,
    ofInt_toInt_eq_low32, BitVec.sub_eq_add_neg]

theorem boolWord_eq_ite {b : Bool} {p : Prop} [Decidable p] (h : b = true ↔ p) :
    boolWord b = if p then 1#64 else 0#64 := by
  by_cases hp : p
  · rw [if_pos hp, h.2 hp]; rfl
  · rw [if_neg hp, Bool.eq_false_iff.2 (mt h.1 hp)]; rfl

theorem boolWord_slt (a b : Word) : boolWord (a.slt b) = if a.toInt < b.toInt then 1#64 else 0#64 :=
  boolWord_eq_ite BitVec.slt_iff_toInt_lt

theorem boolWord_ult (a b : Word) : boolWord (a.ult b) = if a.toNat < b.toNat then 1#64 else 0#64 :=
  boolWord_eq_ite BitVec.ult_iff_lt

theorem add_eq_ofInt {w : Nat} (a b : BitVec w) : a + b = BitVec.ofInt w (a.toInt + b.toInt) := by
  rw [BitVec.ofInt_add, BitVec.ofInt_toInt, BitVec.ofInt_toInt]

theorem sub_eq_ofInt {w : Nat} (a b : BitVec w) : a - b = BitVec.ofInt w (a.toInt - b.toInt) := by
  rw [Int.sub_eq_add_neg, BitVec.ofInt_add, BitVec.ofInt_neg, BitVec.ofInt_toInt, BitVec.ofInt_toInt,
    BitVec.sub_eq_add_neg]

theorem toInt_sextImm (imm : BitVec 16) : (sextImm imm).toInt = imm.toInt :=
  BitVec.toInt_signExtend_of_le (by decide)

theorem toNat_sextImm (imm : BitVec 16) : ((sextImm imm).toNat : Int) = imm.toInt % 2 ^ 64 := by
  rw [sextImm, BitVec.signExtend, BitVec.toNat_ofInt]
  omega

theorem sext32_lui (imm : BitVec 16) : sext32 (imm ++ 0#16) = BitVec.ofInt 64 (Int.bmod (imm.toNat * 65536) (2 ^ 32)) := by
  have h : (imm ++ 0#16).toNat = imm.toNat * 65536 := by
    rw [BitVec.toNat_append, Nat.shiftLeft_eq]; simp
  rw [sext32_eq_bmod_toNat, h]; rfl

/-- Settles O2: each result is the integer it stands for. -/
theorem immediateArithmetic : Obligations.ImmediateArithmetic := by
  intro s rs rt imm h a
  refine ⟨?addiu, ?daddiu, ?slti, ?sltiu, ?lui⟩
  case addiu =>
    rw [← toInt_sextImm, ← sext32_add]
    exact finishGpr_of_canAdvance rt _ h
  case daddiu =>
    rw [← toInt_sextImm, ← add_eq_ofInt]
    exact finishGpr_of_canAdvance rt _ h
  case slti =>
    rw [← toInt_sextImm, ← boolWord_slt]
    exact finishGpr_of_canAdvance rt _ h
  case sltiu =>
    rw [← toNat_sextImm]
    simp only [Int.ofNat_lt]
    rw [← boolWord_ult]
    exact finishGpr_of_canAdvance rt _ h
  case lui =>
    rw [← sext32_lui]
    exact finishGpr_of_canAdvance rt _ h

theorem not_eq_ofNat (x : Word) : ~~~x = BitVec.ofNat 64 (2 ^ 64 - 1 - x.toNat) := by
  rw [← BitVec.toNat_not, BitVec.ofNat_toNat, BitVec.setWidth_eq]

/-- Settles O4: each result is the integer it stands for. -/
theorem registerArithmetic : Obligations.RegisterArithmetic := by
  intro s rs rt rd h a b
  have writes (v : Word) : finishGpr s rd v = .next (s.writeGpr rd v).after := finishGpr_of_canAdvance rd v h
  have ofNat_toNat (v : Word) : BitVec.ofNat 64 v.toNat = v := by simp
  refine ⟨?addu, ?daddu, ?subu, ?dsubu, ?slt, ?sltu, ?and, ?or, ?xor, ?nor⟩
  case addu => rw [← sext32_add]; exact writes _
  case daddu => rw [BitVec.ofNat_add, ofNat_toNat, ofNat_toNat]; exact writes _
  case subu => rw [← sext32_sub]; exact writes _
  case dsubu => rw [← sub_eq_ofInt]; exact writes _
  case slt => rw [← boolWord_slt]; exact writes _
  case sltu => rw [← boolWord_ult]; exact writes _
  case and => rw [← BitVec.toNat_and, ofNat_toNat]; exact writes _
  case or => rw [← BitVec.toNat_or, ofNat_toNat]; exact writes _
  case xor => rw [← BitVec.toNat_xor, ofNat_toNat]; exact writes _
  case nor => rw [← BitVec.toNat_or, ← not_eq_ofNat]; exact writes _

/-! Products: the halves of a double-width product, as integers. -/

theorem extractLsb'_ofInt_64 (p : Int) : (BitVec.ofInt 64 p).extractLsb' 32 32 = BitVec.ofInt 32 (p / 2 ^ 32) := by
  apply BitVec.eq_of_toNat_eq
  simp only [BitVec.extractLsb'_toNat, BitVec.toNat_ofInt, Nat.shiftRight_eq_div_pow]
  omega

theorem extractLsb'_ofInt_128 (p : Int) : (BitVec.ofInt 128 p).extractLsb' 64 64 = BitVec.ofInt 64 (p / 2 ^ 64) := by
  apply BitVec.eq_of_toNat_eq
  simp only [BitVec.extractLsb'_toNat, BitVec.toNat_ofInt, Nat.shiftRight_eq_div_pow]
  omega

theorem low32_ofInt (p : Int) : low32 (BitVec.ofInt 64 p) = BitVec.ofInt 32 p := by
  apply BitVec.eq_of_toNat_eq
  simp only [low32, BitVec.toNat_setWidth, BitVec.toNat_ofInt]
  omega

theorem setWidth_ofInt_128 (p : Int) : (BitVec.ofInt 128 p).setWidth 64 = BitVec.ofInt 64 p := by
  apply BitVec.eq_of_toNat_eq
  simp only [BitVec.toNat_setWidth, BitVec.toNat_ofInt]
  omega

/-- A sign-extended product is the integer product. -/
theorem signExtend_mul {v w : Nat} (a b : BitVec v) :
    a.signExtend w * b.signExtend w = BitVec.ofInt w (a.toInt * b.toInt) := by
  rw [BitVec.ofInt_mul]; rfl

/-- A zero-extended product is the product of natural numbers. -/
theorem setWidth_mul {v w : Nat} (a b : BitVec v) :
    a.setWidth w * b.setWidth w = BitVec.ofInt w (a.toNat * b.toNat) := by
  rw [BitVec.ofInt_mul, BitVec.ofInt_natCast, BitVec.ofInt_natCast, BitVec.ofNat_toNat, BitVec.ofNat_toNat]

/-- The upper word of a product of two 32-bit integers needs no wrapping. -/
theorem bmod_upper_of_product (a b : BitVec 32) :
    Int.bmod (a.toInt * b.toInt / 2 ^ 32) (2 ^ 32) = a.toInt * b.toInt / 2 ^ 32 := by
  have hp : |a.toInt * b.toInt| ≤ 2 ^ 31 * 2 ^ 31 := by
    rw [abs_mul]
    exact mul_le_mul (abs_le.2 ⟨by have := a.le_toInt; omega, by have := a.toInt_lt; omega⟩)
      (abs_le.2 ⟨by have := b.le_toInt; omega, by have := b.toInt_lt; omega⟩) (abs_nonneg _) (by norm_num)
  obtain ⟨hl, hu⟩ := abs_le.1 hp
  exact Int.bmod_eq_of_le (by omega) (by omega)

/-- Settles O6: each half of a product is the integer quotient or remainder by the word size. -/
theorem productsAndHiLo : Obligations.ProductsAndHiLo := by
  intro s rs rt rd h a b p u
  have writes (v : Word) : finishGpr s rd v = .next (s.writeGpr rd v).after := finishGpr_of_canAdvance rd v h
  have sets (hi lo : Word) : advance (s.setHiLo hi lo) = .next (s.setHiLo hi lo).after := advance_of_canAdvance h
  have low64 (n : Nat) : BitVec.ofNat 64 n = BitVec.ofInt 64 n := (BitVec.ofInt_natCast 64 n).symm
  refine ⟨?mult, ?multu, ?dmult, ?dmultu, ?multg, ?multug, ?dmultg, ?dmultug, writes _, writes _, sets _ _, sets _ _⟩
  case mult =>
    have hp : (low32 a).signExtend 64 * (low32 b).signExtend 64 = BitVec.ofInt 64 p := signExtend_mul _ _
    have hhi : BitVec.ofInt 64 (p / 2 ^ 32) = sext32 ((BitVec.ofInt 64 p).extractLsb' 32 32) := by
      rw [extractLsb'_ofInt_64, sext32_ofInt, bmod_upper_of_product]
    rw [hhi, ← sext32_ofInt, ← low32_ofInt, ← hp]
    exact sets _ _
  case multu =>
    have hp : (low32 a).setWidth 64 * (low32 b).setWidth 64 = BitVec.ofInt 64 u := setWidth_mul _ _
    rw [← sext32_ofInt, ← extractLsb'_ofInt_64, ← sext32_ofInt, ← low32_ofInt, ← hp]
    exact sets _ _
  case dmult =>
    rw [← extractLsb'_ofInt_128, ← setWidth_ofInt_128, ← signExtend_mul]
    exact sets _ _
  case dmultu =>
    have hp : a.setWidth 128 * b.setWidth 128 = BitVec.ofInt 128 (a.toNat * b.toNat : Nat) := setWidth_mul _ _
    rw [low64, low64, Int.natCast_ediv, ← setWidth_ofInt_128 (a.toNat * b.toNat : Nat)]
    erw [← extractLsb'_ofInt_128]
    rw [← hp]
    exact sets _ _
  case multg =>
    rw [← sext32_ofInt, ← low32_ofInt, ← signExtend_mul]
    exact writes _
  case multug =>
    have hp : (low32 a).setWidth 64 * (low32 b).setWidth 64 = BitVec.ofInt 64 u := setWidth_mul _ _
    rw [← sext32_ofInt, ← low32_ofInt, ← hp]
    exact writes _
  case dmultg =>
    rw [← setWidth_ofInt_128, ← signExtend_mul]
    exact writes _
  case dmultug =>
    have hp : a.setWidth 128 * b.setWidth 128 = BitVec.ofInt 128 (a.toNat * b.toNat : Nat) := setWidth_mul _ _
    rw [low64, ← setWidth_ofInt_128, ← hp]
    exact writes _

/-! Quotients and remainders: what each divider answers for a divisor other than zero. -/

section
variable (q : Nat) (a b : Word)

section
variable (h : (b.setWidth 32).toNat ≠ 0)
include h

theorem low32_ne_zero : low32 b ≠ 0#32 := fun hz => h (congrArg BitVec.toNat hz)

theorem quot32_eq : quot32 q a b =
    BitVec.ofInt 64 (Int.bmod ((a.setWidth 32).toInt.tdiv (b.setWidth 32).toInt) (2 ^ 32)) := by
  rw [← BitVec.toInt_sdiv]
  exact if_neg (by simpa using low32_ne_zero b h)

theorem rem32_eq : rem32 q a b = BitVec.ofInt 64 ((a.setWidth 32).toInt.tmod (b.setWidth 32).toInt) := by
  rw [← BitVec.toInt_srem]
  exact if_neg (by simpa using low32_ne_zero b h)

theorem quotU32_eq : quotU32 q a b =
    BitVec.ofInt 64 (Int.bmod ((a.setWidth 32).toNat / (b.setWidth 32).toNat : Nat) (2 ^ 32)) := by
  rw [← BitVec.toNat_udiv, ← sext32_eq_bmod_toNat]
  exact if_neg (by simpa using low32_ne_zero b h)

theorem remU32_eq : remU32 q a b =
    BitVec.ofInt 64 (Int.bmod ((a.setWidth 32).toNat % (b.setWidth 32).toNat : Nat) (2 ^ 32)) := by
  rw [← BitVec.toNat_umod, ← sext32_eq_bmod_toNat]
  exact if_neg (by simpa using low32_ne_zero b h)

end

section
variable (h : b ≠ 0#64)
include h

theorem quot64_eq : quot64 q a b = BitVec.ofInt 64 (a.toInt.tdiv b.toInt) := by
  have hdiv : BitVec.ofInt 64 (a.toInt.tdiv b.toInt) = a.sdiv b := by
    rw [← BitVec.toInt_inj, BitVec.toInt_ofInt, BitVec.toInt_sdiv]
  rw [hdiv]
  exact if_neg (by simpa using h)

theorem rem64_eq : rem64 q a b = BitVec.ofInt 64 (a.toInt.tmod b.toInt) := by
  rw [← BitVec.toInt_srem, BitVec.ofInt_toInt]
  exact if_neg (by simpa using h)

theorem quotU64_eq : quotU64 q a b = BitVec.ofNat 64 (a.toNat / b.toNat) := by
  rw [← BitVec.toNat_udiv, BitVec.ofNat_toNat, BitVec.setWidth_eq]
  exact if_neg (by simpa using h)

theorem remU64_eq : remU64 q a b = BitVec.ofNat 64 (a.toNat % b.toNat) := by
  rw [← BitVec.toNat_umod, BitVec.ofNat_toNat, BitVec.setWidth_eq]
  exact if_neg (by simpa using h)

end
end

/-- Settles O7: the dividers answer the truncated quotient and its remainder; whatever they answer for a divisor of
zero goes to the destination alone. -/
theorem quotients : Obligations.Quotients := by
  intro s rs rt rd h
  have writes (v : Word) : finishGpr s rd v = .next (s.writeGpr rd v).after := finishGpr_of_canAdvance rd v h
  have sets (hi lo : Word) : advance (s.setHiLo hi lo) = .next (s.setHiLo hi lo).after := advance_of_canAdvance h
  refine ⟨fun hn => ?words, fun hb => ?doublewords, fun _ => ⟨?_, ?_⟩, fun _ => ⟨?_, ?_⟩⟩
  case words =>
    rw [← rem32_eq s.seq _ _ hn, ← quot32_eq s.seq _ _ hn, ← remU32_eq s.seq _ _ hn, ← quotU32_eq s.seq _ _ hn]
    exact ⟨sets _ _, sets _ _, writes _, writes _, writes _, writes _⟩
  case doublewords =>
    rw [← rem64_eq s.seq _ _ hb, ← quot64_eq s.seq _ _ hb, ← remU64_eq s.seq _ _ hb, ← quotU64_eq s.seq _ _ hb]
    exact ⟨sets _ _, sets _ _, writes _, writes _, writes _, writes _⟩
  case refine_1 | refine_3 =>
    simp only [List.forall_mem_cons, List.not_mem_nil, false_imp_iff, implies_true, and_true]
    exact ⟨⟨_, _, sets _ _⟩, ⟨_, _, sets _ _⟩⟩
  case refine_2 | refine_4 =>
    simp only [List.forall_mem_cons, List.not_mem_nil, false_imp_iff, implies_true, and_true]
    exact ⟨⟨_, writes _⟩, ⟨_, writes _⟩, ⟨_, writes _⟩, ⟨_, writes _⟩⟩

/-! Shifts: each is a product or a quotient by a power of two. -/

theorem shiftLeft_eq_ofNat {w : Nat} (x : BitVec w) (n : Nat) : x <<< n = BitVec.ofNat w (x.toNat * 2 ^ n) := by
  apply BitVec.eq_of_toNat_eq
  rw [BitVec.toNat_shiftLeft, BitVec.toNat_ofNat, Nat.shiftLeft_eq]

theorem ushiftRight_eq_ofNat {w : Nat} (x : BitVec w) (n : Nat) : x >>> n = BitVec.ofNat w (x.toNat / 2 ^ n) := by
  rw [← Nat.shiftRight_eq_div_pow, ← BitVec.toNat_ushiftRight, BitVec.ofNat_toNat, BitVec.setWidth_eq]

theorem toInt_sshiftRight_eq_div {w : Nat} (x : BitVec w) (n : Nat) : (x.sshiftRight n).toInt = x.toInt / 2 ^ n := by
  rw [BitVec.toInt_sshiftRight, Int.shiftRight_eq_div_pow]
  rfl

theorem sext32_shiftLeft (x : BitVec 32) (n : Nat) :
    sext32 (x <<< n) = BitVec.ofInt 64 (Int.bmod (x.toNat * 2 ^ n) (2 ^ 32)) := by
  rw [← sext32_ofInt, shiftLeft_eq_ofNat, ← BitVec.ofInt_natCast]
  push_cast
  rfl

theorem sext32_ushiftRight (x : BitVec 32) (n : Nat) :
    sext32 (x >>> n) = BitVec.ofInt 64 (Int.bmod (x.toNat / 2 ^ n : Nat) (2 ^ 32)) := by
  rw [← sext32_ofInt, ushiftRight_eq_ofNat, BitVec.ofInt_natCast]

theorem sext32_sshiftRight (x : BitVec 32) (n : Nat) :
    sext32 (x.sshiftRight n) = BitVec.ofInt 64 (x.toInt / 2 ^ n) := by
  rw [← toInt_sshiftRight_eq_div]
  rfl

theorem sshiftRight_eq_ofInt {w : Nat} (x : BitVec w) (n : Nat) :
    x.sshiftRight n = BitVec.ofInt w (x.toInt / 2 ^ n) := by
  rw [← toInt_sshiftRight_eq_div, BitVec.ofInt_toInt]

theorem shiftAmount32_eq (v : Word) : shiftAmount32 v = v.toNat % 32 := by simp [shiftAmount32]

theorem shiftAmount64_eq (v : Word) : shiftAmount64 v = v.toNat % 64 := by simp [shiftAmount64]

/-- Settles O8: each shift is the arithmetic it stands for, on bits 31:0 or on all 64. -/
theorem shifts : Obligations.Shifts := by
  intro s rs rt rd sa h d w left32 right32 arith32 left right arith by5 by6 writes
  have done (v v' : Word) (hv : v = v') : finishGpr s rd v = .next (s.writeGpr rd v').after :=
    hv ▸ finishGpr_of_canAdvance rd v h
  have h5 : shiftAmount32 (s.readGpr rs) = by5 := shiftAmount32_eq _
  have h6 : shiftAmount64 (s.readGpr rs) = by6 := shiftAmount64_eq _
  refine ⟨?sll, ?srl, ?sra, ?sllv, ?srlv, ?srav, ?dsll, ?dsrl, ?dsra, ?dsll32, ?dsrl32, ?dsra32, ?dsllv, ?dsrlv, ?dsrav⟩
  case sll => exact done _ _ (sext32_shiftLeft w _)
  case srl => exact done _ _ (sext32_ushiftRight w _)
  case sra => exact done _ _ (sext32_sshiftRight w _)
  case sllv => exact done _ _ (h5 ▸ sext32_shiftLeft w _)
  case srlv => exact done _ _ (h5 ▸ sext32_ushiftRight w _)
  case srav => exact done _ _ (h5 ▸ sext32_sshiftRight w _)
  case dsll | dsll32 => exact done _ _ (shiftLeft_eq_ofNat d _)
  case dsrl | dsrl32 => exact done _ _ (ushiftRight_eq_ofNat d _)
  case dsra | dsra32 => exact done _ _ (sshiftRight_eq_ofInt d _)
  case dsllv => exact done _ _ (h6 ▸ shiftLeft_eq_ofNat d _)
  case dsrlv => exact done _ _ (h6 ▸ ushiftRight_eq_ofNat d _)
  case dsrav => exact done _ _ (h6 ▸ sshiftRight_eq_ofInt d _)

end Sys2Proof.Machine
end

section
/-! Traps, calls, jumps and branches, and the forms the spec leaves out (44_jump_branch.md, 46_special_trap.md, 47_cp0.md
ERET). -/

namespace Sys2Proof.Machine

/-! Traps. -/

/-- A trap on a condition: the exception if it holds, else control moves on. -/
theorem trapIf_ends (s : State) {b : Bool} {p : Prop} (h : b = true ↔ p) :
    (p → trapIf s b = .next (enterException .trap s)) ∧ (¬p → s.CanAdvance → trapIf s b = .next s.after) := by
  refine ⟨fun hp => ?taken, fun hp hadv => ?untaken⟩
  case taken => rw [h.2 hp]; exact trapIf_true s
  case untaken => rw [Bool.eq_false_iff.2 (mt h.1 hp)]; exact trapIf_false hadv

theorem eq_sextImm_iff (a : Word) (imm : BitVec 16) : a = sextImm imm ↔ a.toInt = imm.toInt := by
  rw [← BitVec.toInt_inj, toInt_sextImm]

/-- Settles O9: each trap tests its integer condition. -/
theorem conditionalTraps : Obligations.ConditionalTraps := by
  intro s rs rt code imm traps a b m
  refine ⟨?tge, ?tgeu, ?tlt, ?tltu, ?teq, ?tne, ?tgei, ?tgeiu, ?tlti, ?tltiu, ?teqi, ?tnei⟩
  case tge => exact trapIf_ends s BitVec.sle_iff_toInt_le
  case tgeu => exact trapIf_ends s BitVec.ule_iff_le
  case tlt => exact trapIf_ends s BitVec.slt_iff_toInt_lt
  case tltu => exact trapIf_ends s BitVec.ult_iff_lt
  case teq => exact trapIf_ends s decide_eq_true_iff
  case tne => exact trapIf_ends s decide_eq_true_iff
  case tgei => exact trapIf_ends s (BitVec.sle_iff_toInt_le.trans (by rw [toInt_sextImm]))
  case tgeiu =>
    refine trapIf_ends s (BitVec.ule_iff_le.trans ?_)
    rw [← toNat_sextImm, Int.ofNat_le]
    rfl
  case tlti => exact trapIf_ends s (BitVec.slt_iff_toInt_lt.trans (by rw [toInt_sextImm]))
  case tltiu =>
    refine trapIf_ends s (BitVec.ult_iff_lt.trans ?_)
    rw [← toNat_sextImm, Int.ofNat_lt]
    rfl
  case teqi => exact trapIf_ends s (decide_eq_true_iff.trans (eq_sextImm_iff a imm))
  case tnei => exact trapIf_ends s (decide_eq_true_iff.trans (not_congr (eq_sextImm_iff a imm)))

/-! Calls, and the return from their handler. -/

theorem cp0Usable_of_kernel {s : State} (h : modeOf s.cp0.status = some .kernel) : s.Cp0Usable := ⟨.kernel, h, rfl⟩

theorem exec_eret_of_usable {s : State} (hu : s.Cp0Usable) (hd : s.delay = none) :
    exec .eret s = .next (returnFromException s) := by
  refine (withCp0_of_usable _ hu).trans ?_
  rw [hd]
  rfl

/-- Setting EXL and then clearing it again, where ERL is clear and EXL was. -/
theorem status_exl_roundtrip {st : BitVec 32} (hexl : st.getLsbD 1 = false) (herl : st.getLsbD 2 = false) :
    (if statusErl (st ||| 2#32) then (st ||| 2#32) &&& ~~~4#32 else (st ||| 2#32) &&& ~~~2#32) = st := by
  have hno : statusErl (st ||| 2#32) = false := by
    rw [statusErl, BitVec.getLsbD_or, herl]; rfl
  rw [hno, if_neg (by decide), show (2#32) = BitVec.twoPow 32 1 from rfl]
  ext k hk
  by_cases h1 : k = 1
  · subst h1; simpa using hexl.symm
  · simp [BitVec.getElem_twoPow, h1]

/-- Settles O10: the entry sets EXL alone, so the handler runs in kernel mode and its ERET undoes the entry. -/
theorem callsAndReturn : Obligations.CallsAndReturn := by
  intro s code
  refine ⟨rfl, rfl, fun e _ => ?_⟩
  refine ⟨modeOf_enterException e s, fun hexl herl hd => ?_⟩
  refine ⟨_, exec_eret_of_usable (cp0Usable_of_kernel (modeOf_enterException e s)) rfl, ?pc,
    status_exl_roundtrip hexl herl, rfl, rfl, rfl, rfl, rfl, rfl, rfl, rfl, rfl⟩
  case pc =>
    exact (enterException_epc e hexl).trans (if_pos hd)

/-! Jumps and branches: where they go. -/

theorem branchTarget_eq (pc : Word) (imm : BitVec 16) :
    branchTarget pc imm = BitVec.ofInt 64 (pc.toInt + 4 + 4 * imm.toInt) := by
  have h4 : sextImm imm <<< 2 = BitVec.ofInt 64 (4 * imm.toInt) := by
    rw [BitVec.ofInt_mul, shiftLeft_eq_ofNat, BitVec.ofNat_mul, BitVec.ofNat_toNat, BitVec.setWidth_eq, BitVec.mul_comm]
    rfl
  rw [branchTarget, h4, BitVec.ofInt_add, BitVec.ofInt_add, BitVec.ofInt_toInt]
  rfl

theorem jumpTarget_eq (pc : Word) (target : BitVec 26) :
    jumpTarget pc target = BitVec.ofNat 64 ((pc + 4#64).toNat / 2 ^ 28 * 2 ^ 28 + target.toNat * 4) := by
  have hsplit : jumpTarget pc target = (pc + 4#64).extractLsb' 28 36 ++ (target ++ 0#2) := by
    rw [jumpTarget, show 0xFFFFFFFFF0000000#64 = BitVec.allOnes 64 <<< 28 from rfl]
    refine BitVec.eq_of_getLsbD_eq fun i hi => ?_
    simp only [BitVec.getLsbD_or, BitVec.getLsbD_and, BitVec.getLsbD_shiftLeft, BitVec.getLsbD_append,
      BitVec.getLsbD_extractLsb', BitVec.getLsbD_setWidth, BitVec.getLsbD_allOnes]
    by_cases h28 : i < 28
    · by_cases h2 : i < 2 <;> simp [h28, h2, show i - 2 < 64 by omega, hi]
    · have ht : target.getLsbD (i - 2) = false := BitVec.getLsbD_of_ge _ _ (by omega)
      simp [h28, hi, ht, show 28 + (i - 28) = i by omega, show i - 28 < 36 by omega, show i - 28 < 64 by omega]
  apply BitVec.eq_of_toNat_eq
  rw [hsplit]
  simp only [BitVec.toNat_append, BitVec.extractLsb'_toNat, BitVec.toNat_ofNat]
  rw [← Nat.shiftLeft_add_eq_or_of_lt (by have := target.isLt; simp [Nat.shiftLeft_eq]; omega)]
  simp only [Nat.shiftLeft_eq, Nat.shiftRight_eq_div_pow]
  have := target.isLt
  have := (pc + 4#64).isLt
  simp
  omega

/-- Settles O11: the four jumps, outside a delay slot. -/
theorem jumps : Obligations.Jumps := by
  intro s rs rd target h
  rw [← jumpTarget_eq]
  have jumps (t : State) (ht : t.CanBranch) (there : Word) :
      outsideSlot s (takeBranch t there) = .next (t.branchTo there) :=
    (outsideSlot_of_canBranch _ h).trans (takeBranch_of_canBranch _ ht)
  refine ⟨jumps _ h _, ?jal, jumps _ h _, fun hne => ?jalr⟩
  case jal => exact jumps _ ((s.canBranch_writeGpr _ _).2 h) _
  case jalr => exact (if_neg hne).trans (jumps _ ((s.canBranch_writeGpr _ _).2 h) _)

/-! Conditions of the branches, as integers. -/

theorem sle_zero_iff (a : Word) : a.sle 0#64 = true ↔ a.toInt ≤ 0 := BitVec.sle_iff_toInt_le

theorem not_sle_zero_iff (a : Word) : (!a.sle 0#64) = true ↔ 0 < a.toInt := by
  rw [Bool.not_eq_true', ← Bool.not_eq_true, sle_zero_iff, not_le]

theorem msb_iff (a : Word) : a.msb = true ↔ a.toInt < 0 := by
  rw [BitVec.msb_eq_toInt, decide_eq_true_iff]

theorem not_msb_iff (a : Word) : (!a.msb) = true ↔ 0 ≤ a.toInt := by
  rw [Bool.not_eq_true', ← Bool.not_eq_true, msb_iff, not_lt]

/-- A plain and a likely branch on one condition. -/
theorem branches_end {s : State} (h : s.CanBranch) (imm : BitVec 16) {b : Bool} {p : Prop} (hb : b = true ↔ p) :
    (p → branchIf s b imm = .next (s.branchTo (BitVec.ofInt 64 (s.pc.toInt + 4 + 4 * imm.toInt))) ∧
        branchLikelyIf s b imm = .next (s.branchTo (BitVec.ofInt 64 (s.pc.toInt + 4 + 4 * imm.toInt)))) ∧
      (¬p → branchIf s b imm = .next (s.branchTo (s.pc + 8#64)) ∧ branchLikelyIf s b imm = .next s.slotSkipped) := by
  rw [← branchTarget_eq, branchIf_of_canBranch b imm h, branchLikelyIf_of_canBranch b imm h]
  refine ⟨fun hp => ?taken, fun hp => ?untaken⟩
  case taken => rw [hb.2 hp]; exact ⟨rfl, rfl⟩
  case untaken => rw [Bool.eq_false_iff.2 (mt hb.1 hp)]; exact ⟨rfl, rfl⟩

/-- Settles O12: each branch tests its integer condition. -/
theorem conditionalBranches : Obligations.ConditionalBranches := by
  intro s rs rt imm h there goes a b
  refine ⟨?beq, ?bne, ?blez, ?bgtz, ?bltz, ?bgez, fun hcp => ?fcc⟩
  case beq => exact branches_end h imm decide_eq_true_iff
  case bne => exact branches_end h imm decide_eq_true_iff
  case blez => exact branches_end h imm (sle_zero_iff a)
  case bgtz => exact branches_end h imm (not_sle_zero_iff a)
  case bltz => exact branches_end h imm (msb_iff a)
  case bgez => exact branches_end h imm (not_msb_iff a)
  case fcc =>
    have hf : exec (.bc1f imm) s = _ := withCp1_of_usable _ hcp
    have hfl : exec (.bc1fl imm) s = _ := withCp1_of_usable _ hcp
    have ht : exec (.bc1t imm) s = _ := withCp1_of_usable _ hcp
    have htl : exec (.bc1tl imm) s = _ := withCp1_of_usable _ hcp
    simp only [goes]
    rw [hf, hfl, ht, htl]
    exact ⟨branches_end h imm (by rw [Bool.not_eq_true']; rfl), branches_end h imm Iff.rfl⟩

/-- Settles O13: the link is written first, and the branch is on the value read before it. -/
theorem linkingBranches : Obligations.LinkingBranches := by
  intro s rs imm h hne there l n
  have hl : s.link.CanBranch := (s.canBranch_link).2 h
  have hneg := branches_end hl imm (msb_iff (s.readGpr rs))
  have hpos := branches_end hl imm (not_msb_iff (s.readGpr rs))
  have plain (b : Bool) : linkingBranch s rs (fun t => branchIf t b imm) = branchIf s.link b imm :=
    linkingBranch_of_ne _ hne
  have likely (b : Bool) : linkingBranch s rs (fun t => branchLikelyIf t b imm) = branchLikelyIf s.link b imm :=
    linkingBranch_of_ne _ hne
  rw [State.link_pc] at hneg hpos
  refine ⟨fun hn => ?negative, fun hn => ?nonnegative⟩
  case negative =>
    obtain ⟨htaken, hltaken⟩ := hneg.1 hn
    obtain ⟨huntaken, hluntaken⟩ := hpos.2 (not_le.2 hn)
    exact ⟨(plain _).trans htaken, (likely _).trans hltaken, (plain _).trans huntaken, (likely _).trans hluntaken⟩
  case nonnegative =>
    obtain ⟨htaken, hltaken⟩ := hpos.1 hn
    obtain ⟨huntaken, hluntaken⟩ := hneg.2 (not_lt.2 hn)
    exact ⟨(plain _).trans htaken, (likely _).trans hltaken, (plain _).trans huntaken, (likely _).trans hluntaken⟩

/-! The refused forms. -/

/-- At the last address control does not move on. -/
theorem advance_at_lastPc {s : State} (hd : s.delay = none) (hpc : s.pc = lastPc) : advance s = .fault .pcWrap := by
  unfold advance
  rw [hd]
  exact if_pos hpc

theorem outsideSlot_at_lastPc {s : State} (hd : s.delay = none) {k : Outcome} (hk : k = .fault .pcWrap) :
    outsideSlot s k = .fault .pcWrap := by
  rw [hk, outsideSlot, hd]
  rfl

theorem takeBranch_at_lastPc {s : State} (target : Word) (hpc : s.pc = lastPc) :
    takeBranch s target = .fault .pcWrap := if_pos hpc

theorem branchIf_at_lastPc {s : State} (hd : s.delay = none) (hpc : s.pc = lastPc) (b : Bool) (imm : BitVec 16) :
    branchIf s b imm = .fault .pcWrap :=
  outsideSlot_at_lastPc hd (by cases b <;> exact takeBranch_at_lastPc _ hpc)

theorem branchLikelyIf_at_lastPc {s : State} (hd : s.delay = none) (hpc : s.pc = lastPc) (b : Bool) (imm : BitVec 16) :
    branchLikelyIf s b imm = .fault .pcWrap := by
  refine outsideSlot_at_lastPc hd ?_
  cases b
  · exact if_pos hpc
  · exact takeBranch_at_lastPc _ hpc

theorem finishGpr_at_lastPc {s : State} (hd : s.delay = none) (hpc : s.pc = lastPc) (r : RegNum) (v : Word) :
    finishGpr s r v = .fault .pcWrap :=
  advance_at_lastPc ((s.writeGpr_delay r v).trans hd) ((s.writeGpr_pc r v).trans hpc)

theorem withCp1_refused {s : State} (hcp : s.Cp1Usable) {k : Outcome} {r : Refusal} (hk : k = .refused r) :
    withCp1 s k = .refused r := (withCp1_of_usable _ hcp).trans hk

/-- With FR = 0 an odd register holds no 64-bit operand. -/
theorem fpr64Ok_of_odd {st : BitVec 32} (hfr : st.getLsbD 26 = false) {f : RegNum} (h : f.toNat % 2 = 1) :
    fpr64Ok st f = false := by
  have hodd : f.getLsbD 0 = true := by simpa [BitVec.getLsbD, Nat.testBit_zero] using h
  rw [fpr64Ok, hodd, statusFr, hfr]
  rfl

/-- One odd register among the operands is enough. -/
theorem withFpr64_of_mem {s : State} (hfr : s.cp0.status.getLsbD 26 = false) {f : RegNum} (h : f.toNat % 2 = 1)
    {fs : List RegNum} (hf : f ∈ fs) (k : Outcome) : withFpr64 s fs k = .refused .fpOddRegister :=
  withFpr64_of_odd k fun hall => absurd (List.all_eq_true.1 hall f hf) (by rw [fpr64Ok_of_odd hfr h]; decide)

theorem fpOdd_refused {s : State} (hcp : s.Cp1Usable) (hfr : s.cp0.status.getLsbD 26 = false) {fs : List RegNum}
    (h : ∃ f ∈ fs, f.toNat % 2 = 1) (k : Outcome) :
    withCp1 s (withFpr64 s fs k) = .refused .fpOddRegister := by
  obtain ⟨f, hmem, hodd⟩ := h
  exact withCp1_refused hcp (withFpr64_of_mem hfr hodd hmem k)

theorem fpOff_refused {s : State} (hcp : s.Cp1Usable) {off : Bool} (hoff : off = true) (k : Outcome) :
    withCp1 s (if off then .refused .fpUnitDisabled else k) = .refused .fpUnitDisabled :=
  withCp1_refused hcp (if_pos hoff)

theorem fpOn_odd_refused {s : State} (hcp : s.Cp1Usable) {off : Bool} (hon : off = false) {k : Outcome}
    (hk : k = .refused .fpOddRegister) :
    withCp1 s (if off then .refused .fpUnitDisabled else k) = .refused .fpOddRegister :=
  withCp1_refused hcp ((if_neg (by rw [hon]; decide)).trans hk)

theorem linkedLoad_zero (s : State) (base : RegNum) (offset : BitVec 16) :
    exec (.ll base 0#5 offset) s = .refused .linkedLoadToZero ∧
      exec (.lld base 0#5 offset) s = .refused .linkedLoadToZero := ⟨rfl, rfl⟩

section
variable {s : State} (rs rt rd ft fs fd base : RegNum) (imm : BitVec 16) (target : BitVec 26)

theorem exec_at_lastPc (hd : s.delay = none) (hpc : s.pc = lastPc) :
    ∀ i ∈ [Instr.j target, .jal target, .jr rs, .beq rs rt imm, .bne rs rt imm, .blez rs imm, .bgtz rs imm,
        .bltz rs imm, .bgez rs imm, .beql rs rt imm, .bnel rs rt imm, .blezl rs imm, .bgtzl rs imm, .bltzl rs imm,
        .bgezl rs imm, .addu rs rt rd, .or rs rt rd, .lui rt imm], exec i s = .fault .pcWrap := by
  have jump (t : Word) := outsideSlot_at_lastPc hd (takeBranch_at_lastPc t hpc)
  have link (t : Word) := outsideSlot_at_lastPc hd (takeBranch_at_lastPc (s := s.link) t (s.link_pc.trans hpc))
  have plain (b : Bool) := branchIf_at_lastPc hd hpc b imm
  have likely (b : Bool) := branchLikelyIf_at_lastPc hd hpc b imm
  have writes (r : RegNum) (v : Word) := finishGpr_at_lastPc hd hpc r v
  simp only [List.forall_mem_cons, List.not_mem_nil, false_imp_iff, implies_true, and_true]
  exact ⟨jump _, link _, jump _, plain _, plain _, plain _, plain _, plain _, plain _, likely _, likely _, likely _,
    likely _, likely _, likely _, writes _ _, writes _ _, writes _ _⟩

theorem exec_in_slot (hd : s.delay ≠ none) :
    ∀ i ∈ [Instr.j target, .jal target, .jr rs, .beq rs rt imm, .bne rs rt imm, .blez rs imm, .bgtz rs imm,
        .bltz rs imm, .bgez rs imm, .beql rs rt imm, .bnel rs rt imm, .blezl rs imm, .bgtzl rs imm, .bltzl rs imm,
        .bgezl rs imm], exec i s = .refused .branchInDelaySlot := by
  have slot (k : Outcome) := outsideSlot_in_slot k hd
  simp only [List.forall_mem_cons, List.not_mem_nil, false_imp_iff, implies_true, and_true]
  exact ⟨slot _, slot _, slot _, slot _, slot _, slot _, slot _, slot _, slot _, slot _, slot _, slot _, slot _, slot _,
    slot _⟩

theorem linkingBranches_in_slot (hd : s.delay ≠ none) (hne : rs ≠ 31#5) :
    ∀ i ∈ [Instr.bltzal rs imm, .bgezal rs imm, .bltzall rs imm, .bgezall rs imm],
      exec i s = .refused .branchInDelaySlot := by
  have slot (k : Outcome) := outsideSlot_in_slot (s := s.link) k (by rwa [State.link_delay])
  have plain (b : Bool) : linkingBranch s rs (fun t => branchIf t b imm) = branchIf s.link b imm :=
    linkingBranch_of_ne _ hne
  have likely (b : Bool) : linkingBranch s rs (fun t => branchLikelyIf t b imm) = branchLikelyIf s.link b imm :=
    linkingBranch_of_ne _ hne
  simp only [List.forall_mem_cons, List.not_mem_nil, false_imp_iff, implies_true, and_true]
  exact ⟨(plain _).trans (slot _), (plain _).trans (slot _), (likely _).trans (slot _), (likely _).trans (slot _)⟩

theorem fccBranches_in_slot (hd : s.delay ≠ none) (hcp : s.Cp1Usable) :
    ∀ i ∈ [Instr.bc1f imm, .bc1t imm, .bc1fl imm, .bc1tl imm], exec i s = .refused .branchInDelaySlot := by
  have slot (k : Outcome) := withCp1_refused hcp (outsideSlot_in_slot k hd)
  simp only [List.forall_mem_cons, List.not_mem_nil, false_imp_iff, implies_true, and_true]
  exact ⟨slot _, slot _, slot _, slot _⟩

theorem eret_in_slot (hd : s.delay ≠ none) (hcp : s.Cp0Usable) : exec .eret s = .refused .eretInDelaySlot :=
  (withCp0_of_usable _ hcp).trans (if_pos (Option.isSome_iff_ne_none.2 hd))

theorem fpControl_refused (hcp : s.Cp1Usable) (h0 : fs ≠ 0#5) (h31 : fs ≠ 31#5) :
    ∀ i ∈ [Instr.cfc1 rt fs, .ctc1 rt fs], exec i s = .refused .fpControlRegister := by
  simp only [List.forall_mem_cons, List.not_mem_nil, false_imp_iff, implies_true, and_true]
  exact ⟨withCp1_refused hcp ((if_neg h0).trans (if_neg h31)), withCp1_refused hcp ((if_neg h0).trans (if_neg h31))⟩

section
variable (hcp : s.Cp1Usable) (hfr : s.cp0.status.getLsbD 26 = false)
include hcp hfr

theorem fpOdd_ternary (h : ft.toNat % 2 = 1 ∨ fs.toNat % 2 = 1 ∨ fd.toNat % 2 = 1) :
    (∀ i ∈ [Instr.addD ft fs fd, .subD ft fs fd, .mulD ft fs fd, .addPs ft fs fd, .subPs ft fs fd,
        .mulPs ft fs fd, .maddD ft fs fd, .maddPs ft fs fd, .msubD ft fs fd, .msubPs ft fs fd,
        .nmaddD ft fs fd, .nmaddPs ft fs fd, .nmsubD ft fs fd, .nmsubPs ft fs fd], exec i s = .refused .fpOddRegister) ∧
      (s.cp0.status.getLsbD 24 = false → exec (.divD ft fs fd) s = .refused .fpOddRegister) := by
  have odd (k : Outcome) := fpOdd_refused hcp hfr (fs := [ft, fs, fd]) (by simpa using h) k
  simp only [List.forall_mem_cons, List.not_mem_nil, false_imp_iff, implies_true, and_true]
  exact ⟨⟨odd _, odd _, odd _, odd _, odd _, odd _, odd _, odd _, odd _, odd _, odd _, odd _, odd _, odd _⟩,
    fun hon => fpOn_odd_refused hcp hon (odd _)⟩

theorem fpOdd_binary (h : fs.toNat % 2 = 1 ∨ fd.toNat % 2 = 1) :
    (∀ i ∈ [Instr.absD fs fd, .absPs fs fd, .negD fs fd, .negPs fs fd, .movD fs fd, .movPs fs fd,
        .roundLD fs fd, .truncLD fs fd, .ceilLD fs fd, .floorLD fs fd, .cvtLD fs fd, .cvtDL fs fd],
        exec i s = .refused .fpOddRegister) ∧
      (s.cp0.status.getLsbD 23 = false → exec (.sqrtD fs fd) s = .refused .fpOddRegister) := by
  have odd (k : Outcome) := fpOdd_refused hcp hfr (fs := [fs, fd]) (by simpa using h) k
  simp only [List.forall_mem_cons, List.not_mem_nil, false_imp_iff, implies_true, and_true]
  exact ⟨⟨odd _, odd _, odd _, odd _, odd _, odd _, odd _, odd _, odd _, odd _, odd _, odd _⟩,
    fun hon => fpOn_odd_refused hcp hon (odd _)⟩

theorem fpOdd_source (h : fs.toNat % 2 = 1) :
    ∀ i ∈ [Instr.roundWD fs fd, .truncWD fs fd, .ceilWD fs fd, .floorWD fs fd, .cvtWD fs fd,
      .cvtSD fs fd, .cvtSL fs fd, .dmfc1 rt fs, .dmtc1 rt fs], exec i s = .refused .fpOddRegister := by
  have odd (k : Outcome) := fpOdd_refused hcp hfr (fs := [fs]) (by simpa using h) k
  simp only [List.forall_mem_cons, List.not_mem_nil, false_imp_iff, implies_true, and_true]
  exact ⟨odd _, odd _, odd _, odd _, odd _, odd _, odd _, odd _, odd _⟩

theorem fpOdd_destination (h : fd.toNat % 2 = 1) :
    ∀ i ∈ [Instr.roundLS fs fd, .truncLS fs fd, .ceilLS fs fd, .floorLS fs fd, .cvtLS fs fd,
      .cvtDS fs fd, .cvtDW fs fd], exec i s = .refused .fpOddRegister := by
  have odd (k : Outcome) := fpOdd_refused hcp hfr (fs := [fd]) (by simpa using h) k
  simp only [List.forall_mem_cons, List.not_mem_nil, false_imp_iff, implies_true, and_true]
  exact ⟨odd _, odd _, odd _, odd _, odd _, odd _, odd _⟩

theorem fpOdd_compare (h : ft.toNat % 2 = 1 ∨ fs.toNat % 2 = 1) :
    ∀ i ∈ [Instr.cFD ft fs, .cUnD ft fs, .cEqD ft fs, .cUeqD ft fs, .cOltD ft fs,
      .cUltD ft fs, .cOleD ft fs, .cUleD ft fs, .cSfD ft fs, .cNgleD ft fs, .cSeqD ft fs, .cNglD ft fs,
      .cLtD ft fs, .cNgeD ft fs, .cLeD ft fs, .cNgtD ft fs, .cFPs ft fs, .cUnPs ft fs, .cEqPs ft fs,
      .cUeqPs ft fs, .cOltPs ft fs, .cUltPs ft fs, .cOlePs ft fs, .cUlePs ft fs, .cSfPs ft fs,
      .cNglePs ft fs, .cSeqPs ft fs, .cNglPs ft fs, .cLtPs ft fs, .cNgePs ft fs, .cLePs ft fs,
      .cNgtPs ft fs], exec i s = .refused .fpOddRegister := by
  have double (c : BitVec 4) : fpCompareD s c ft fs = .refused .fpOddRegister :=
    fpOdd_refused hcp hfr (by simpa using h) _
  have paired (c : BitVec 4) : fpComparePs s c ft fs = .refused .fpOddRegister :=
    fpOdd_refused hcp hfr (by simpa using h) _
  simp only [List.forall_mem_cons, List.not_mem_nil, false_imp_iff, implies_true, and_true]
  exact ⟨double _, double _, double _, double _, double _, double _, double _, double _, double _, double _, double _,
    double _, double _, double _, double _, double _, paired _, paired _, paired _, paired _, paired _, paired _,
    paired _, paired _, paired _, paired _, paired _, paired _, paired _, paired _, paired _, paired _⟩

theorem fpOdd_memory (h : ft.toNat % 2 = 1) :
    ∀ i ∈ [Instr.ldc1 base ft imm, .sdc1 base ft imm], exec i s = .refused .fpOddRegister := by
  have odd (k : Outcome) := fpOdd_refused hcp hfr (fs := [ft]) (by simpa using h) k
  simp only [List.forall_mem_cons, List.not_mem_nil, false_imp_iff, implies_true, and_true]
  exact ⟨odd _, odd _⟩

end
end

/-- Settles O14: each form is refused by the first check that it meets. -/
theorem refusedForms : Obligations.RefusedForms := by
  intro s rs rt rd base ft fs fd imm target
  refine ⟨exec_at_lastPc rs rt rd imm target, fun hd => ?inSlot, if_pos rfl, ?links, ?linkedLoads, fun hcp => ?fp⟩
  case inSlot =>
    exact ⟨exec_in_slot rs rt imm target hd, fun hne => (if_neg hne).trans (outsideSlot_in_slot _ hd),
      linkingBranches_in_slot rs imm hd, fccBranches_in_slot imm hd, eret_in_slot hd⟩
  case links =>
    simp only [List.forall_mem_cons, List.not_mem_nil, false_imp_iff, implies_true, and_true]
    exact ⟨rfl, rfl, rfl, rfl⟩
  case linkedLoads =>
    simp only [List.forall_mem_cons, List.not_mem_nil, false_imp_iff, implies_true, and_true]
    exact linkedLoad_zero s base imm
  case fp =>
    refine ⟨fpControl_refused rt fs hcp, fun hoff => ?div, fun hoff => ?sqrt, fun hfr => ?odd⟩
    case div =>
      simp only [List.forall_mem_cons, List.not_mem_nil, false_imp_iff, implies_true, and_true]
      exact ⟨fpOff_refused hcp hoff _, fpOff_refused hcp hoff _⟩
    case sqrt =>
      simp only [List.forall_mem_cons, List.not_mem_nil, false_imp_iff, implies_true, and_true]
      exact ⟨fpOff_refused hcp hoff _, fpOff_refused hcp hoff _⟩
    case odd =>
      exact ⟨fpOdd_ternary ft fs fd hcp hfr, fpOdd_binary fs fd hcp hfr, fpOdd_source rt fs fd hcp hfr,
        fpOdd_destination fs fd hcp hfr, fpOdd_compare ft fs hcp hfr, fpOdd_memory ft base imm hcp hfr⟩

end Sys2Proof.Machine
end

section
/-! The CP0 registers and moves (10_state.md section 2, 47_cp0.md R376 to R385, R405). -/

namespace Sys2Proof.Machine

/-! The CP0 moves. -/

theorem counterOrCp0_of_usable {s : State} (rd : RegNum) (k : Outcome) (h : s.Cp0Usable) : counterOrCp0 s rd k = k := by
  unfold counterOrCp0
  split
  · rfl
  · exact withCp0_of_usable k h

/-- Settles O27: a usable CP0 lets each move go on. -/
theorem coprocessorZeroMoves : Obligations.CoprocessorZeroMoves := by
  intro s rt rd hu ha
  have writes (v : Word) : advance (s.writeCp0 rd v) = .next (s.writeCp0 rd v).after :=
    advance_of_canAdvance ((s.canAdvance_writeCp0 rd v).2 ha)
  exact ⟨(counterOrCp0_of_usable rd _ hu).trans (finishGpr_of_canAdvance rt _ ha),
    (counterOrCp0_of_usable rd _ hu).trans (finishGpr_of_canAdvance rt _ ha),
    (withCp0_of_usable _ hu).trans (writes _), (withCp0_of_usable _ hu).trans (writes _)⟩

/-! What the registers read as after a write. -/

/-- A word kept under a mask with the sign bit clear is sign-extended with zeros. -/
theorem sext32_low32_and (v : Word) {m : BitVec 32} (hm : m.msb = false) :
    sext32 (low32 v &&& m) = v &&& m.setWidth 64 := by
  have hmsb : (low32 v &&& m).msb = false := by rw [BitVec.msb_and, hm, Bool.and_false]
  rw [sext32, BitVec.signExtend_eq_setWidth_of_msb_false hmsb, BitVec.setWidth_and]
  refine BitVec.eq_of_getLsbD_eq fun k hk => ?_
  simp only [low32, BitVec.getLsbD_and, BitVec.getLsbD_setWidth]
  by_cases h32 : k < 32
  · simp [h32, hk]
  · simp [h32, BitVec.getLsbD_of_ge m k (by omega)]

theorem setWidth_low32_six (v : Word) : ((low32 v).setWidth 6).setWidth 64 = v &&& 0x3F#64 := by
  apply BitVec.eq_of_toNat_eq
  simp only [low32, BitVec.toNat_setWidth, BitVec.toNat_and, BitVec.toNat_ofNat]
  rw [show 0x3F % 2 ^ 64 = 2 ^ 6 - 1 from rfl, Nat.and_two_pow_sub_one_eq_mod]
  omega

theorem setWidth_low32_three (v : Word) : ((low32 v).setWidth 3).setWidth 32 = low32 v &&& 7#32 := by
  apply BitVec.eq_of_toNat_eq
  simp only [low32, BitVec.toNat_setWidth, BitVec.toNat_and, BitVec.toNat_ofNat]
  rw [show 7 % 2 ^ 32 = 2 ^ 3 - 1 from rfl, Nat.and_two_pow_sub_one_eq_mod]
  omega

/-- The bits of the pending interrupts that Cause shows from the inputs do not depend on its stored bits. -/
theorem State.interruptPending_and_of_cause (s : State) (cause : BitVec 32) :
    ({ s with cp0 := { s.cp0 with cause := cause } } : State).interruptPending &&& 0xFC#8 =
      s.interruptPending &&& 0xFC#8 := by
  refine BitVec.eq_of_getLsbD_eq fun k hk => ?_
  unfold State.interruptPending
  simp only [BitVec.getLsbD_and, BitVec.getLsbD_append (y := BitVec.extractLsb' 8 2 _)]
  by_cases h2 : k < 2
  · have hlow : (0xFC#8).getLsbD k = false := by interval_cases k <;> rfl
    rw [hlow, Bool.and_false, Bool.and_false]
  · simp only [h2, if_false]
    rfl

theorem causeValue_writeCp0 (s : State) (w : BitVec 32) :
    ({ s with cp0 := { s.cp0 with cause := mergeBits 0x00000300#32 s.cp0.cause w } } : State).causeValue =
      (s.causeValue &&& ~~~0x300#32) ||| (w &&& 0x300#32) := by
  have hkeep (p : BitVec 8) : (p &&& 0xFC#8).setWidth 32 <<< 8 &&& ~~~0x300#32 = (p &&& 0xFC#8).setWidth 32 <<< 8 := by
    revert p; decide
  have hnew : 0x300#32 &&& 0xB000037C#32 = 0x300#32 := rfl
  rw [State.causeValue, State.interruptPending_and_of_cause, State.causeValue, BitVec.and_or_distrib_right, hkeep,
    mergeBits, BitVec.and_or_distrib_right, BitVec.and_assoc w, hnew, BitVec.and_assoc, BitVec.and_assoc,
    BitVec.and_comm (~~~0x300#32), BitVec.or_assoc, BitVec.or_assoc, BitVec.or_comm (w &&& 0x300#32)]

section
variable (s : State) (v : Word)

theorem readCp0_writeCp0_wired : (s.writeCp0 6#5 v).readCp0 6#5 = sext32 (low32 v &&& 0x3F#32) :=
  (setWidth_low32_six v).trans (sext32_low32_and v (m := 0x3F#32) rfl).symm

theorem readCp0_writeCp0_cause :
    (s.writeCp0 13#5 v).readCp0 13#5 = (s.readCp0 13#5 &&& ~~~0x300#64) ||| (v &&& 0x300#64) := by
  have h : (s.writeCp0 13#5 v).readCp0 13#5 = sext32 ((s.causeValue &&& ~~~0x300#32) ||| (low32 v &&& 0x300#32)) :=
    congrArg sext32 (causeValue_writeCp0 s (low32 v))
  have hnew : sext32 (low32 v &&& 0x300#32) = v &&& 0x300#64 := sext32_low32_and v rfl
  have hor (x y : BitVec 32) : sext32 (x ||| y) = sext32 x ||| sext32 y := BitVec.signExtend_or
  have hand (x y : BitVec 32) : sext32 (x &&& y) = sext32 x &&& sext32 y := BitVec.signExtend_and
  rw [h, hor, hnew, hand]
  rfl

theorem readCp0_writeCp0_config : (s.writeCp0 16#5 v).readCp0 16#5 = 0x30930#64 ||| (v &&& 7#64) := by
  have h : (s.writeCp0 16#5 v).readCp0 16#5 = sext32 (Config.configFixed ||| ((low32 v).setWidth 3).setWidth 32) := rfl
  have hk0 : sext32 (low32 v &&& 7#32) = v &&& 7#64 := sext32_low32_and v rfl
  have hor (x y : BitVec 32) : sext32 (x ||| y) = sext32 x ||| sext32 y := BitVec.signExtend_or
  rw [h, setWidth_low32_three, hor, hk0]
  rfl

theorem readCp0_writeCp0_diagnostic : (s.writeCp0 22#5 v).readCp0 22#5 &&& ~~~6#64 = v &&& 0x1F1#64 := by
  have h : (s.writeCp0 22#5 v).readCp0 22#5 =
    (v &&& 0x1F1#64) ||| (Config.anyValue .diagnosticActions s.seq &&& 6#64) := rfl
  have hkept : 0x1F1#64 &&& ~~~6#64 = 0x1F1#64 := rfl
  rw [h, BitVec.and_or_distrib_right, BitVec.and_assoc, BitVec.and_assoc, hkept, BitVec.and_not_self]
  simp

/-- Beside CP0 a write can empty the instruction TLB, by Diagnostic.ITLB, and nothing else. -/
theorem writeCp0_frame (n : RegNum) : { s.writeCp0 n v with cp0 := s.cp0, itlb := s.itlb } = s ∧
    (s.writeCp0 n v).itlb = if n = 22#5 ∧ v.getLsbD 2 = true then [] else s.itlb := by
  by_cases h22 : n = 22#5
  · subst h22
    refine ⟨rfl, ?_⟩
    simp [State.writeCp0]
  · have hn : n.toNat ≠ 22 := fun e => h22 (BitVec.eq_of_toNat_eq e)
    simp only [h22, false_and, if_false]
    unfold State.writeCp0
    split
    all_goals first
      | exact absurd ‹n.toNat = 22› hn
      | exact ⟨rfl, rfl⟩

end

/-- Settles O28: the masks of `writeCp0` and the fixed fields that `readCp0` adds; each write replaces its own register. -/
theorem writtenThenRead : Obligations.WrittenThenRead := by
  intro s v after before word
  refine ⟨rfl, rfl, rfl, rfl, rfl, rfl, readCp0_writeCp0_wired s v, rfl, rfl, ?count, rfl, ?compare, rfl,
    readCp0_writeCp0_cause s v, rfl, rfl, readCp0_writeCp0_config s v, rfl, rfl, readCp0_writeCp0_diagnostic s v, rfl,
    rfl, rfl, rfl, rfl, fun n => writeCp0_frame s v n, rfl, rfl, rfl, rfl, rfl, rfl, rfl, rfl, rfl, rfl, rfl, rfl, rfl,
    rfl, rfl, rfl, rfl, rfl, rfl, rfl, rfl, ?others⟩
  case count | compare => exact (congrArg sext32 (BitVec.and_allOnes (x := low32 v))).symm
  case others =>
    simp only [List.forall_mem_cons, List.not_mem_nil, false_imp_iff, implies_true, and_true]
    exact ⟨rfl, rfl, rfl, rfl, rfl, rfl, rfl, rfl, rfl, rfl, rfl⟩

/-! ERET. -/

/-- Settles O34: `returnFromException` where CP0 is usable, and the checks before it. -/
theorem exceptionReturn : Obligations.ExceptionReturn := by
  intro s
  refine ⟨decode_of_encode_eq rfl, fun hu hd => ?returns, fun hu hd => eret_in_slot hd hu,
    fun hu => withCp0_of_unusable _ hu⟩
  case returns =>
    refine (exec_eret_of_usable hu hd).trans ?_
    rw [returnFromException, ← hd]
    rfl

end Sys2Proof.Machine
end

section
/-! The joint TLB: the search, and TLBP, TLBWI, TLBWR and TLBR (20_memory.md R113, 47_cp0.md R380 to R383). -/

namespace Sys2Proof.Machine

/-! The search, by the entries that match. -/

section
variable {tlb : Vector TlbEntry 64} {r : BitVec 2} {vpn2 : BitVec 27} {asid : BitVec 8}

theorem tlbFind_eq_none (h : ∀ i : Fin 64, tlb[i].holds r vpn2 asid = false) : tlbFind tlb r vpn2 asid = .none := by
  have hnil : (List.finRange 64).filter (fun i => tlb[i].holds r vpn2 asid) = [] :=
    List.filter_eq_nil_iff.2 fun i _ => by simpa using h i
  rw [tlbFind, hnil]

theorem tlbFind_eq_one {i : Fin 64} (hi : tlb[i].holds r vpn2 asid = true)
    (h : ∀ j : Fin 64, tlb[j].holds r vpn2 asid = true → j = i) : tlbFind tlb r vpn2 asid = .one i := by
  have hsame : (List.finRange 64).filter (fun j => tlb[j].holds r vpn2 asid) = (List.finRange 64).filter (· == i) := by
    refine List.filter_congr fun j _ => ?_
    rw [Bool.eq_iff_iff, beq_iff_eq]
    exact ⟨h j, fun e => e ▸ hi⟩
  have hone : (List.finRange 64).filter (· == i) = [i] := by
    rw [List.filter_beq, List.count_eq_one_of_mem (List.nodup_finRange 64) (List.mem_finRange i)]
    rfl
  rw [tlbFind, hsame, hone]

theorem tlbFind_eq_multiple {i j : Fin 64} (hi : tlb[i].holds r vpn2 asid = true)
    (hj : tlb[j].holds r vpn2 asid = true) (hne : i ≠ j) : tlbFind tlb r vpn2 asid = .multiple := by
  have hmem {k : Fin 64} (hk : tlb[k].holds r vpn2 asid = true) :
      k ∈ (List.finRange 64).filter (fun i => tlb[i].holds r vpn2 asid) :=
    List.mem_filter.2 ⟨List.mem_finRange k, hk⟩
  have hmi := hmem hi
  have hmj := hmem hj
  unfold tlbFind
  split
  case _ hl => rw [hl] at hmi; exact absurd hmi List.not_mem_nil
  case _ k hl =>
    rw [hl, List.mem_singleton] at hmi hmj
    exact absurd (hmi.trans hmj.symm) hne
  case _ => rfl

end

/-! When an entry matches: the VPN2 bits outside its Mask, the region, and G or the ASID. -/

theorem maskedVpn2_eq_iff (a b : BitVec 27) (mask : BitVec 12) : maskedVpn2 a mask = maskedVpn2 b mask ↔
    ∀ j : Nat, j < 27 → (mask.setWidth 27).getLsbD j = false → a.getLsbD j = b.getLsbD j := by
  unfold maskedVpn2
  constructor
  · intro h j hj hm
    have := congrArg (fun v => BitVec.getLsbD v j) h
    simpa only [BitVec.getLsbD_and, BitVec.getLsbD_not, hm, hj, decide_true, Bool.not_false, Bool.and_true] using this
  · intro h
    refine BitVec.eq_of_getLsbD_eq fun j hj => ?_
    cases hm : (mask.setWidth 27).getLsbD j
    · rw [BitVec.getLsbD_and, BitVec.getLsbD_and, h j hj hm]
    · simp [hm]

theorem TlbEntry.holds_iff (e : TlbEntry) (hi : Word) : e.holds (regionBits hi) (vpn2Of hi) (hi.extractLsb' 0 8) = true ↔
    (∀ j : Nat, j < 27 → (e.mask.setWidth 27).getLsbD j = false → e.vpn2.getLsbD j = hi.getLsbD (13 + j)) ∧
      e.r = hi.extractLsb' 62 2 ∧ (e.g = true ∨ e.asid = hi.extractLsb' 0 8) := by
  have hbit (j : Nat) (hj : j < 27) : (vpn2Of hi).getLsbD j = hi.getLsbD (13 + j) := by
    simp [vpn2Of, hj]
  simp only [TlbEntry.holds, Bool.and_eq_true, Bool.or_eq_true, decide_eq_true_iff, maskedVpn2_eq_iff, and_assoc]
  refine and_congr (forall_congr' fun j => forall_congr' fun hj => ?_) Iff.rfl
  rw [hbit j hj]

/-! TLBP. -/

theorem exec_tlbp {s : State} (hu : s.Cp0Usable) : exec .tlbp s =
    match tlbFind s.tlb (regionBits s.cp0.entryHi) (vpn2Of s.cp0.entryHi) s.asid with
    | .none => advance (s.setIndex (0x80000000#32 ||| (Config.anyValue .probeIndex s.seq &&& 0x3F#64).setWidth 32))
    | .one i => advance (s.setIndex (BitVec.ofNat 32 i.val))
    | .multiple => .fault .tlbMultipleMatch := withCp0_of_usable _ hu

/-- Index.P set, the number free. -/
theorem probeFailure_eq (v : Word) :
    0x80000000#32 ||| (v &&& 0x3F#64).setWidth 32 = 1#1 ++ 0#25 ++ v.setWidth 6 := by
  have hlow : v &&& 0x3F#64 = (v.setWidth 6).setWidth 64 := by
    apply BitVec.eq_of_toNat_eq
    simp only [BitVec.toNat_and, BitVec.toNat_setWidth, BitVec.toNat_ofNat]
    rw [show 0x3F % 2 ^ 64 = 2 ^ 6 - 1 from rfl, Nat.and_two_pow_sub_one_eq_mod]
    omega
  rw [hlow, show 0x80000000#32 = BitVec.twoPow 32 31 from rfl]
  refine BitVec.eq_of_getLsbD_eq fun k hk => ?_
  simp only [BitVec.getLsbD_or, BitVec.getLsbD_twoPow, BitVec.getLsbD_setWidth, BitVec.getLsbD_append]
  by_cases h6 : k < 6
  · simp [h6, show 31 ≠ k by omega, show k < 64 by omega, hk]
  · by_cases h31 : k = 31
    · subst h31; simp
    · simp [h6, Ne.symm h31, show k - 6 < 25 by omega]

/-- Settles O29: a search that finds none, one or several entries. -/
theorem tlbProbe : Obligations.TlbProbe := by
  intro s hu ha hi hits
  have hholds (i : Fin 64) : hits i ↔ s.tlb[i].holds (regionBits hi) (vpn2Of hi) s.asid = true :=
    (TlbEntry.holds_iff s.tlb[i] hi).symm
  have probes (v : BitVec 32) : advance (s.setIndex v) = .next (s.setIndex v).after := advance_of_canAdvance ha
  refine ⟨fun i h1 h2 => ?one, fun h => ?none, fun i j h1 h2 hne => ?multiple⟩
  case one =>
    rw [exec_tlbp hu, tlbFind_eq_one ((hholds i).1 h1) fun j hj => h2 j ((hholds j).2 hj)]
    exact probes _
  case none =>
    refine ⟨(Config.anyValue .probeIndex s.seq).setWidth 6, ?_⟩
    rw [exec_tlbp hu, tlbFind_eq_none fun i => Bool.eq_false_iff.2 (mt (hholds i).2 (h i)), ← probeFailure_eq]
    exact probes _
  case multiple => rw [exec_tlbp hu, tlbFind_eq_multiple ((hholds i).1 h1) ((hholds j).1 h2) hne]

/-! TLBWI and TLBWR. -/

/-- The page sizes of R31. -/
theorem pageShift_of_legal : ∀ m ∈ [0x000#12, 0x003#12, 0x00F#12, 0x03F#12, 0x0FF#12, 0x3FF#12, 0xFFF#12],
    (pageShift m).isSome = true := by
  simp only [List.forall_mem_cons, List.not_mem_nil, false_imp_iff, implies_true, and_true]
  exact ⟨rfl, rfl, rfl, rfl, rfl, rfl, rfl⟩

section
variable {s : State} (ha : s.CanAdvance)
  (hm : s.cp0.pageMask.extractLsb' 13 12 ∈ [0x000#12, 0x003#12, 0x00F#12, 0x03F#12, 0x0FF#12, 0x3FF#12, 0xFFF#12])
include ha hm

theorem writeTlbEntry_of_legal (i : BitVec 6) :
    s.writeTlbEntry i = .next ({ s with tlb := s.tlb.set i.toNat s.cp0.tlbEntry } : State).after := by
  obtain ⟨shift, hshift⟩ := Option.isSome_iff_exists.1 (pageShift_of_legal _ hm)
  have hfield : pageShift s.pageMaskField = some shift := hshift
  rw [State.writeTlbEntry, hfield]
  exact advance_of_canAdvance ha

/-- The entry of the number is the one the registers describe; every other entry and the rest of the state are as before. -/
theorem writeTlbEntry_writes (k : BitVec 6) : ∃ t, s.writeTlbEntry k = .next t ∧ t.tlb[k.toNat] = s.cp0.tlbEntry ∧
    (∀ j : BitVec 6, j ≠ k → t.tlb[j.toNat] = s.tlb[j.toNat]) ∧ { t with tlb := s.tlb } = s.after := by
  refine ⟨_, writeTlbEntry_of_legal ha hm k, Vector.getElem_set_self _, fun j hne => ?other, rfl⟩
  case other => exact Vector.getElem_set_ne k.isLt j.isLt fun e => hne (BitVec.eq_of_toNat_eq e.symm)

end

/-- Settles O30: both write one entry from the registers. -/
theorem tlbWrite : Obligations.TlbWrite := by
  intro s hu ha hm c m half e writes
  have written (i : Instr) (k : BitVec 6) (hi : exec i s = s.writeTlbEntry k) : writes i k := by
    obtain ⟨t, ht, hself, hother, hframe⟩ := writeTlbEntry_writes ha hm k
    exact ⟨t, hi.trans ht, hself, hother, hframe⟩
  exact ⟨written _ _ (withCp0_of_usable _ hu), written _ _ (withCp0_of_usable _ hu)⟩

/-! TLBR. -/

theorem exec_tlbr {s : State} (hu : s.Cp0Usable) (ha : s.CanAdvance) :
    exec .tlbr s = .next (s.readTlbEntry s.tlb[(s.cp0.index.extractLsb' 0 6).toNat]).after :=
  (withCp0_of_usable _ hu).trans (advance_of_canAdvance ha)

theorem shiftLeft_setWidth_mask (m : BitVec 12) : m.setWidth 32 <<< 13 = BitVec.ofNat 32 (m.toNat * 2 ^ 13) := by
  have := m.isLt
  rw [shiftLeft_eq_ofNat, BitVec.toNat_setWidth, Nat.mod_eq_of_lt (by omega)]

/-! A register is put together again from its fields when its reserved bits are zero. -/

/-- A reserved field of a register is zero. -/
theorem reservedField_zero {w : Nat} {x m : BitVec w} (h : x &&& m = 0#w) (start len : Nat)
    (hm : m.extractLsb' start len = BitVec.allOnes len) : x.extractLsb' start len = 0#len := by
  have hf := congrArg (BitVec.extractLsb' start len) h
  rw [BitVec.extractLsb'_and, hm, BitVec.and_allOnes] at hf
  simpa using hf

theorem ofBool_getLsbD_eq {w : Nat} (x : BitVec w) (i : Nat) : BitVec.ofBool (x.getLsbD i) = x.extractLsb' i 1 := by
  ext k hk
  simp [show k = 0 by omega]

theorem pageMask_roundTrip {x : BitVec 32} (h : x &&& ~~~0x01FFE000#32 = 0#32) :
    (x.extractLsb' 13 12).setWidth 32 <<< 13 = x := by
  have hhi := reservedField_zero h 25 7 rfl
  have hlo := reservedField_zero h 0 13 rfl
  rw [extractLsb'_eq_iff_div_mod, BitVec.toNat_ofNat] at hhi hlo
  rw [shiftLeft_setWidth_mask]
  apply BitVec.eq_of_toNat_eq
  rw [BitVec.toNat_ofNat, BitVec.extractLsb'_toNat, Nat.shiftRight_eq_div_pow]
  omega

/-- The fields of EntryHi: R, reserved, VPN2, reserved, ASID. -/
theorem entryHi_fields (x : BitVec 64) : x.extractLsb' 62 2 ++ x.extractLsb' 40 22 ++ x.extractLsb' 13 27 ++
    x.extractLsb' 8 5 ++ x.extractLsb' 0 8 = x := by
  have cut (hi lo n m : Nat) (h : hi = lo + n) : x.extractLsb' hi m ++ x.extractLsb' lo n = x.extractLsb' lo (m + n) :=
    BitVec.extractLsb'_append_extractLsb'_eq_extractLsb' h
  rw [cut 62 40 22 2 rfl, cut 40 13 27 _ rfl, cut 13 8 5 _ rfl, cut 8 0 8 _ rfl]
  exact BitVec.extractLsb'_eq_self

/-- The fields of an EntryLo register: reserved, E, reserved, PFN, C, D, V, G. -/
theorem entryLo_fields (x : BitVec 64) : x.extractLsb' 62 2 ++ x.extractLsb' 61 1 ++ x.extractLsb' 34 27 ++
    x.extractLsb' 6 28 ++ x.extractLsb' 3 3 ++ x.extractLsb' 2 1 ++ x.extractLsb' 1 1 ++ x.extractLsb' 0 1 = x := by
  have cut (hi lo n m : Nat) (h : hi = lo + n) : x.extractLsb' hi m ++ x.extractLsb' lo n = x.extractLsb' lo (m + n) :=
    BitVec.extractLsb'_append_extractLsb'_eq_extractLsb' h
  rw [cut 62 61 1 2 rfl, cut 61 34 27 _ rfl, cut 34 6 28 _ rfl, cut 6 3 3 _ rfl, cut 3 2 1 _ rfl, cut 2 1 1 _ rfl,
    cut 1 0 1 _ rfl]
  exact BitVec.extractLsb'_eq_self

/-- A field of a register with some bits cleared. -/
theorem extractLsb'_and_not {w : Nat} (x m : BitVec w) (start len : Nat) (h : start + len ≤ w) :
    (x &&& ~~~m).extractLsb' start len = x.extractLsb' start len &&& ~~~(m.extractLsb' start len) := by
  ext k hk
  simp [show start + k < w by omega]

/-- Masking VPN2 twice is masking it once. -/
theorem maskedVpn2_twice (v : BitVec 27) (m : BitVec 12) : maskedVpn2 (maskedVpn2 v m) m = maskedVpn2 v m := by
  rw [maskedVpn2, maskedVpn2, BitVec.and_assoc, BitVec.and_self]

theorem entryHi_roundTrip {x : BitVec 64} (h : x &&& ~~~0xC00000FFFFFFE0FF#64 = 0#64) (m : BitVec 12) :
    regionBits x ++ 0#22 ++ maskedVpn2 (vpn2Of x) m ++ 0#5 ++ x.extractLsb' 0 8 =
      x &&& ~~~(m.setWidth 64 <<< 13) := by
  have hm := m.isLt
  have hunder : (m.setWidth 64 <<< 13).toNat = m.toNat * 2 ^ 13 := by
    rw [BitVec.toNat_shiftLeft, BitVec.toNat_setWidth, Nat.shiftLeft_eq]
    omega
  have outside (start len : Nat) (k : BitVec len) (hk : m.toNat * 2 ^ 13 / 2 ^ start % 2 ^ len = k.toNat) :
      (m.setWidth 64 <<< 13).extractLsb' start len = k := by
    rw [extractLsb'_eq_iff_div_mod, hunder, hk]
  have h62 := outside 62 2 0#2 (by rw [BitVec.toNat_ofNat]; omega)
  have h13 := outside 13 27 (m.setWidth 27) (by rw [BitVec.toNat_setWidth]; omega)
  have h0 := outside 0 8 0#8 (by rw [BitVec.toNat_ofNat]; omega)
  have hr1 := reservedField_zero h 40 22 rfl
  have hr2 := reservedField_zero h 8 5 rfl
  rw [← entryHi_fields (x &&& ~~~(m.setWidth 64 <<< 13))]
  have all2 : ~~~0#2 = BitVec.allOnes 2 := rfl
  have all8 : ~~~0#8 = BitVec.allOnes 8 := rfl
  rw [extractLsb'_and_not _ _ 62 2 (by decide), extractLsb'_and_not _ _ 40 22 (by decide),
    extractLsb'_and_not _ _ 13 27 (by decide), extractLsb'_and_not _ _ 8 5 (by decide),
    extractLsb'_and_not _ _ 0 8 (by decide), h62, h13, h0, hr1, hr2, all2, all8, BitVec.and_allOnes, BitVec.and_allOnes,
    BitVec.zero_and, BitVec.zero_and]
  rfl

theorem entryLo_roundTrip {x : BitVec 64} (h : x &&& ~~~0x20000003FFFFFFFF#64 = 0#64) (g : Bool) :
    (TlbPage.ofEntryLo x).toEntryLo g = (x &&& ~~~1#64) ||| (BitVec.ofBool g).setWidth 64 := by
  have hr1 := reservedField_zero h 62 2 rfl
  have hr2 := reservedField_zero h 34 27 rfl
  have above (start len : Nat) (hs : 1 ≤ start) (hl : start + len ≤ 64) :
      ((x &&& ~~~1#64) ||| (BitVec.ofBool g).setWidth 64).extractLsb' start len = x.extractLsb' start len := by
    have h1 : (1#64).extractLsb' start len = 0#len := by
      ext k hk
      simp only [BitVec.getElem_extractLsb', BitVec.getElem_zero, BitVec.getLsbD_one]
      simp; omega
    have hg : ((BitVec.ofBool g).setWidth 64).extractLsb' start len = 0#len := by
      cases g
      · simp
      · exact h1
    rw [BitVec.extractLsb'_or, extractLsb'_and_not _ _ _ _ hl, h1, hg]
    simp
  have hlow : ((x &&& ~~~1#64) ||| (BitVec.ofBool g).setWidth 64).extractLsb' 0 1 = BitVec.ofBool g := by
    ext k hk
    simp [show k = 0 by omega]
  rw [← entryLo_fields ((x &&& ~~~1#64) ||| (BitVec.ofBool g).setWidth 64), above 62 2 (by decide) (by decide),
    above 61 1 (by decide) (by decide), above 34 27 (by decide) (by decide), above 6 28 (by decide) (by decide),
    above 3 3 (by decide) (by decide), above 2 1 (by decide) (by decide), above 1 1 (by decide) (by decide), hlow, hr1,
    hr2, ← ofBool_getLsbD_eq, ← ofBool_getLsbD_eq, ← ofBool_getLsbD_eq]
  rfl

/-- G of the entry, the conjunction of the two G bits. -/
theorem conjunction_g (a b : BitVec 64) :
    (BitVec.ofBool (a.getLsbD 0 && b.getLsbD 0)).setWidth 64 = a &&& b &&& 1#64 := by
  rw [BitVec.and_one_eq_setWidth_ofBool_getLsbD, BitVec.getLsbD_and]

/-- The registers that TLBR delivers of the entry that they describe. -/
theorem readTlbEntry_tlbEntry {c : Cp0} (h : c.ReservedZero) (s : State) (hs : s.cp0 = c) :
    (s.readTlbEntry c.tlbEntry).cp0 =
      { c with
        entryLo0 := (c.entryLo0 &&& ~~~1#64) ||| (c.entryLo0 &&& c.entryLo1 &&& 1#64)
        entryLo1 := (c.entryLo1 &&& ~~~1#64) ||| (c.entryLo0 &&& c.entryLo1 &&& 1#64)
        entryHi := c.entryHi &&& ~~~((c.pageMask.extractLsb' 13 12).setWidth 64 <<< 13) } := by
  obtain ⟨-, hlo0, hlo1, hmask, hhi, -⟩ := h
  subst hs
  simp only [State.readTlbEntry, Cp0.tlbEntry, maskedVpn2_twice, entryHi_roundTrip hhi, entryLo_roundTrip hlo0,
    entryLo_roundTrip hlo1, conjunction_g, pageMask_roundTrip hmask]

/-- Settles O31: TLBR delivers the entry's fields, and the fields of the entry TLBWI has just written are the registers'. -/
theorem tlbRoundTrip : Obligations.TlbRoundTrip := by
  refine ⟨fun s hu ha => ?reads, fun s hu ha ha2 hz hm => ?roundTrip⟩
  case reads =>
    intro e lo
    rw [← shiftLeft_setWidth_mask]
    exact exec_tlbr hu ha
  case roundTrip =>
    refine ⟨_, _, (withCp0_of_usable _ hu).trans (writeTlbEntry_of_legal ha hm _), exec_tlbr hu ha2, rfl, rfl, ?_⟩
    refine Eq.trans ?_ (readTlbEntry_tlbEntry hz s rfl)
    simp only [State.readTlbEntry, State.after_cp0, State.after_tlb, Vector.getElem_set_self]

end Sys2Proof.Machine
end

section
/-! Translation through the joint TLB, and what a TLB exception records (20_memory.md R113 to R123, 60_exceptions.md
R549). -/

namespace Sys2Proof.Machine

/-! Pages: the size a Mask stands for, the half of the pair, the physical address. -/

theorem pageShift_of_size {m : BitVec 12} {k : Nat} (hk : k ≤ 6) (hm : m.toNat = 4 ^ k - 1) :
    pageShift m = some (12 + 2 * k) := by
  have hlit : m = BitVec.ofNat 12 (4 ^ k - 1) := by rw [← hm, BitVec.ofNat_toNat, BitVec.setWidth_eq]
  subst hlit
  interval_cases k <;> rfl

theorem oddPageOf_eq (va : Word) (shift : Nat) : oddPageOf va shift = decide (va.toNat / 2 ^ shift % 2 = 1) := by
  rw [oddPageOf, BitVec.getLsbD, Nat.testBit_eq_decide_div_mod_eq]

/-- The frame without the bits inside the page, and the offset of the address. -/
theorem toNat_pageAddr (pfn : BitVec 28) {shift : Nat} (h : shift ≤ 40) (va : Word) :
    (pageAddr pfn shift va).toNat = pfn.toNat * 2 ^ 12 / 2 ^ shift * 2 ^ shift + va.toNat % 2 ^ shift := by
  have hframe : (pfn ++ 0#12).toNat = pfn.toNat * 2 ^ 12 := by
    rw [BitVec.toNat_append, Nat.shiftLeft_eq, BitVec.toNat_ofNat, Nat.zero_mod, Nat.or_zero]
  have hlow (i : Nat) (hi : i < 40) : (BitVec.ofNat 40 (2 ^ shift - 1)).getLsbD i = decide (i < shift) := by
    rw [BitVec.getLsbD_ofNat, Nat.testBit_two_pow_sub_one]
    simp [hi]
  have hlt := Nat.mod_lt va.toNat (Nat.two_pow_pos shift)
  have hpfn := pfn.isLt
  refine Nat.eq_of_testBit_eq fun i => ?_
  rw [Nat.mul_comm _ (2 ^ shift), Nat.testBit_two_pow_mul_add _ hlt, BitVec.testBit_toNat, pageAddr, ← hframe]
  by_cases hi : i < 40
  · simp only [BitVec.getLsbD_or, BitVec.getLsbD_and, BitVec.getLsbD_not, hlow i hi, hi, BitVec.getLsbD_setWidth,
      decide_true, Bool.true_and, Nat.testBit_mod_two_pow, Nat.testBit_div_two_pow, BitVec.testBit_toNat]
    by_cases hs : i < shift
    · simp [hs]
    · simp [hs, show i - shift + shift = i by omega]
  · have hbound : (pfn ++ 0#12).toNat / 2 ^ shift < 2 ^ (40 - shift) := by
      rw [Nat.div_lt_iff_lt_mul (Nat.two_pow_pos shift), ← pow_add, Nat.sub_add_cancel h]
      exact (pfn ++ 0#12).isLt
    rw [if_neg (by omega), BitVec.getLsbD_of_ge _ _ (by omega)]
    exact (Nat.testBit_lt_two_pow (hbound.trans_le (Nat.pow_le_pow_right (by decide) (by omega)))).symm

/-! Data accesses. -/

section
variable {s : State} {m : Mode} {va : Word} (store : Bool) (hm : modeOf s.cp0.status = some m)
  (hseg : segmentOf m s.cp0.k0 va = .mapped)
include hm hseg

theorem translateData_refill (hf : tlbFind s.tlb (regionBits va) (vpn2Of va) s.asid = .none) :
    s.translateData store va = .exc (.tlbRefill store va) := by
  simp only [State.translateData, hm, hseg, hf]

theorem translateData_of_entry {i : Fin 64} {shift : Nat}
    (hf : tlbFind s.tlb (regionBits va) (vpn2Of va) s.asid = .one i) (hs : pageShift (s.tlb[i]).mask = some shift) :
    s.translateData store va =
      let p := if oddPageOf va shift then (s.tlb[i]).odd else (s.tlb[i]).even
      if !p.v then .exc (.tlbInvalid store va)
      else if store && !p.d then .exc (.tlbModified va)
      else .ok (pageAddr p.pfn shift va) p.c := by
  simp only [State.translateData, hm, hseg, hf, hs]

end

/-! Fetches. -/

section
variable {s : State}

theorem fetchThroughJtlb_refill (hf : tlbFind s.tlb (regionBits s.pc) (vpn2Of s.pc) s.asid = .none) :
    s.fetchThroughJtlb = .exc (.tlbRefill false s.pc) := by
  simp only [State.fetchThroughJtlb, hf]

theorem fetchThroughJtlb_of_entry {i : Fin 64} {shift : Nat}
    (hf : tlbFind s.tlb (regionBits s.pc) (vpn2Of s.pc) s.asid = .one i)
    (hs : pageShift (s.tlb[i]).mask = some shift) :
    s.fetchThroughJtlb =
      let e := s.tlb[i]
      let odd := oddPageOf s.pc shift
      let p := if odd then e.odd else e.even
      let used : ItlbEntry :=
        { mask := e.mask, r := e.r, vpn2 := e.vpn2, g := e.g, asid := e.asid, oddPage := odd, page := p }
      if !p.v then .exc (.tlbInvalid false s.pc)
      else s.fetchPage e.mask p (if used ∈ s.itlb then s.itlb else used :: s.itlb) := by
  simp only [State.fetchThroughJtlb, hf, hs]

variable {mask : BitVec 12} {shift : Nat} (p : TlbPage) (itlb : List ItlbEntry) (hs : pageShift mask = some shift)
include hs

theorem fetchPage_mixed (hne : mask ≠ s.pageMaskField) : s.fetchPage mask p itlb = .stop .tlbMaskMixed := by
  simp only [State.fetchPage, hs, if_pos hne]

theorem fetchPage_noExecute (heq : mask = s.pageMaskField) (he : p.e = true) :
    s.fetchPage mask p itlb = .exc (.addressError false s.pc) := by
  simp only [State.fetchPage, hs, if_neg (not_not.2 heq), he, if_true]

theorem fetchPage_ok (heq : mask = s.pageMaskField) (he : p.e = false) :
    s.fetchPage mask p itlb = .ok (pageAddr p.pfn shift s.pc) p.c itlb := by
  simp only [State.fetchPage, hs, if_neg (not_not.2 heq), he]
  rfl

end

/-- What is recorded of a fetch: the translation it used, and those recorded before. -/
theorem mem_recorded_iff {used x : ItlbEntry} {l : List ItlbEntry} :
    x ∈ (if used ∈ l then l else used :: l) ↔ x = used ∨ x ∈ l := by
  split
  case isTrue h => exact ⟨.inr, fun hx => hx.elim (fun e => e ▸ h) id⟩
  case isFalse => exact List.mem_cons

section
variable {s : State} {m : Mode} (hm : modeOf s.cp0.status = some m) (hseg : segmentOf m s.cp0.k0 s.pc = .mapped)
include hm hseg

/-- A mapped fetch goes through the joint TLB or is served by a recorded translation that matches. -/
theorem translateFetch_cases : s.translateFetch = s.fetchThroughJtlb ∨
    ∃ x ∈ s.itlb, x.holds s.pc s.asid = true ∧ s.translateFetch = s.fetchPage x.mask x.page s.itlb := by
  cases hx : (s.itlb.filter fun e => e.holds s.pc s.asid)[Config.anyNat .itlbChoice s.seq]? with
  | none => exact .inl (by simp only [State.translateFetch, hm, hseg, hx])
  | some x =>
    obtain ⟨hmem, hholds⟩ := List.mem_filter.1 (List.mem_of_getElem? hx)
    exact .inr ⟨x, hmem, hholds, by simp only [State.translateFetch, hm, hseg, hx]⟩

theorem translateFetch_of_none (h : ∀ x ∈ s.itlb, x.holds s.pc s.asid = false) :
    s.translateFetch = s.fetchThroughJtlb := by
  rcases translateFetch_cases hm hseg with hj | ⟨x, hmem, hholds, -⟩
  · exact hj
  · rw [h x hmem] at hholds
    exact absurd hholds Bool.false_ne_true

end

/-- The exception of a fetch takes the step. -/
theorem step_of_fetchExc {s u : State} {e : Exc} (hb : s.tick.boundary = .run u) (ha : u.pc.toNat % 4 = 0)
    (he : u.translateFetch = .exc e) : step s = .next (enterException e u) := by
  have hfetch : u.fetch = .exc e u := by simp only [State.fetch, ha, he]; rfl
  simp only [step, hb, runInstr, hfetch]
  rfl

/-- A 1 written to Diagnostic.ITLB empties the recorded translations. -/
theorem writeCp0_diagnostic_itlb (s : State) {v : Word} (h : v.getLsbD 2 = true) : (s.writeCp0 22#5 v).itlb = [] :=
  (writeCp0_frame s v 22#5).2.trans (if_pos ⟨rfl, h⟩)

theorem sext32_low32_bit_two (v : Word) : (sext32 (low32 v)).getLsbD 2 = v.getLsbD 2 := by
  rw [sext32, low32, BitVec.getLsbD_signExtend, BitVec.getLsbD_setWidth]
  rfl

/-- Settles O33: the search decides, then the page; a fetch adds E and the page size, and may be served by a recorded
translation. -/
theorem tlbTranslation : Obligations.TlbTranslation := by
  refine ⟨fun s store va m hm hseg => ⟨translateData_refill store hm hseg, ?data⟩, fun s m hm hseg => ?fetch,
    fun s u e => step_of_fetchExc, fun s rt hu ha h2 => ?diagnostic⟩
  case data =>
    intro i k hf hk hmask page
    have hpage : s.translateData store va =
        if !page.v then .exc (.tlbInvalid store va)
        else if store && !page.d then .exc (.tlbModified va)
        else .ok (pageAddr page.pfn (12 + 2 * k) va) page.c := by
      have h := translateData_of_entry store hm hseg hf (pageShift_of_size hk hmask)
      rw [oddPageOf_eq] at h
      simp only [decide_eq_true_eq] at h
      exact h
    refine ⟨fun hv => ?invalid, fun hv hst hd => ?modified, fun hv hst => ⟨pageAddr page.pfn (12 + 2 * k) va, ?ok,
      toNat_pageAddr _ (by omega) va⟩⟩
    case invalid => rw [hpage, hv]; rfl
    case modified => rw [hpage, hv, hst, hd]; rfl
    case ok =>
      have hclean : (store && !page.d) = false := by
        rcases hst with rfl | hd
        · rfl
        · rw [hd]; exact Bool.and_false _
      rw [hpage, hv, hclean]
      rfl
  case fetch =>
    intro pc size address find
    refine ⟨fetchThroughJtlb_refill, fun i k hf hk hmask => ?entry, translateFetch_of_none hm hseg, ?served⟩
    case entry =>
      have hs := pageShift_of_size hk hmask
      have hpage := fetchThroughJtlb_of_entry hf hs
      rw [oddPageOf_eq] at hpage
      intro e odd page used
      have valid (hv : page.v = true) : ¬(!page.v) = true := by rw [hv]; decide
      refine ⟨fun hv => ?invalid, fun hv hne => ?mixed, fun hv heq he => ?noExecute, fun hv heq he => ?ok⟩
      case invalid => exact hpage.trans (if_pos (congrArg not hv))
      case mixed => exact (hpage.trans (if_neg (valid hv))).trans (fetchPage_mixed _ _ hs hne)
      case noExecute => exact (hpage.trans (if_neg (valid hv))).trans (fetchPage_noExecute _ _ hs heq he)
      case ok =>
        exact ⟨_, _, (hpage.trans (if_neg (valid hv))).trans (fetchPage_ok _ _ hs heq he),
          toNat_pageAddr _ (by omega) _, fun x => mem_recorded_iff⟩
    case served =>
      refine (translateFetch_cases hm hseg).imp_right fun ⟨x, hmem, hholds, hx⟩ => ⟨x, hmem, hholds, ?_⟩
      intro k hk hmask heq he
      exact ⟨_, hx.trans (fetchPage_ok _ _ (pageShift_of_size hk hmask) heq he), toNat_pageAddr _ (by omega) _⟩
  case diagnostic =>
    have moves (v : Word) : withCp0 s (advance (s.writeCp0 22#5 v)) = .next (s.writeCp0 22#5 v).after :=
      (withCp0_of_usable _ hu).trans (advance_of_canAdvance ((s.canAdvance_writeCp0 _ v).2 ha))
    simp only [List.forall_mem_cons, List.not_mem_nil, false_imp_iff, implies_true, and_true]
    exact ⟨⟨_, moves _, writeCp0_diagnostic_itlb s ((sext32_low32_bit_two _).trans h2)⟩,
      ⟨_, moves _, writeCp0_diagnostic_itlb s h2⟩⟩

/-! What a TLB exception records. -/

/-- A field put at its place reads back. -/
theorem extractLsb'_placed {n : Nat} (x : BitVec n) (at_ : Nat) (h : at_ + n ≤ 64) :
    (x.setWidth 64 <<< at_).extractLsb' at_ n = x := by
  ext k hk
  simp [show at_ + k < 64 by omega, hk]

/-- And leaves every other place zero. -/
theorem extractLsb'_placed_elsewhere {n : Nat} (x : BitVec n) {at_ start len : Nat}
    (h : start + len ≤ at_ ∨ at_ + n ≤ start) : (x.setWidth 64 <<< at_).extractLsb' start len = 0#len := by
  ext k hk
  simp only [BitVec.getElem_extractLsb', BitVec.getLsbD_shiftLeft, BitVec.getLsbD_setWidth, BitVec.getElem_zero]
  rcases h with h | h
  · simp [show start + k < at_ by omega]
  · simp [BitVec.getLsbD_of_ge x (start + k - at_) (by omega)]

/-- A field that a mask keeps whole, or clears. -/
theorem extractLsb'_kept {w : Nat} (x m : BitVec w) (start len : Nat) (h : m.extractLsb' start len = BitVec.allOnes len) :
    (x &&& m).extractLsb' start len = x.extractLsb' start len := by
  rw [BitVec.extractLsb'_and, h, BitVec.and_allOnes]

theorem extractLsb'_cleared {w : Nat} (x m : BitVec w) (start len : Nat) (h : m.extractLsb' start len = 0#len) :
    (x &&& m).extractLsb' start len = 0#len := by
  rw [BitVec.extractLsb'_and, h, BitVec.and_zero]

/-- Settles O36: each field is put at its place, and the masks keep the rest. -/
theorem tlbExceptionRegisters : Obligations.TlbExceptionRegisters := by
  intro s va store e he c
  have hc : c = { (recordTlbAddress { s.cp0 with badVAddr := va } s.seq va) with
      epc := c.epc, cause := c.cause, status := c.status } := by
    simp only [List.mem_cons, List.not_mem_nil, or_false] at he
    rcases he with rfl | rfl | rfl <;> rfl
  rw [hc]
  refine ⟨rfl, ?badVpn2, ?pteBase, ?xregion, ?xbadVpn2, ?xpteBase, ?region, ?vpn2, ?asid, rfl, rfl⟩
  case badVpn2 =>
    exact BitVec.extractLsb'_or.trans (by
      rw [extractLsb'_cleared _ _ 4 19 rfl, extractLsb'_placed _ 4 (by decide), BitVec.zero_or])
  case pteBase =>
    exact BitVec.extractLsb'_or.trans (by
      rw [extractLsb'_kept _ _ 23 41 rfl, extractLsb'_placed_elsewhere _ (by decide), BitVec.or_zero])
  case xregion =>
    exact BitVec.extractLsb'_or.trans (by
      rw [BitVec.extractLsb'_or, extractLsb'_cleared _ _ 31 2 rfl, extractLsb'_placed _ 31 (by decide),
        extractLsb'_placed_elsewhere _ (by decide), BitVec.zero_or, BitVec.or_zero])
  case xbadVpn2 =>
    exact BitVec.extractLsb'_or.trans (by
      rw [BitVec.extractLsb'_or, extractLsb'_cleared _ _ 4 27 rfl, extractLsb'_placed_elsewhere (at_ := 31) _ (by decide),
        extractLsb'_placed _ 4 (by decide), BitVec.zero_or, BitVec.zero_or])
  case xpteBase =>
    exact BitVec.extractLsb'_or.trans (by
      rw [BitVec.extractLsb'_or, extractLsb'_kept _ _ 33 31 rfl, extractLsb'_placed_elsewhere (at_ := 31) _ (by decide),
        extractLsb'_placed_elsewhere _ (by decide), BitVec.or_zero, BitVec.or_zero])
  case region =>
    exact BitVec.extractLsb'_or.trans (by
      rw [extractLsb'_kept _ _ 62 2 rfl, extractLsb'_cleared _ _ 62 2 rfl, BitVec.or_zero])
  case vpn2 =>
    exact BitVec.extractLsb'_or.trans (by
      rw [extractLsb'_kept _ _ 13 27 rfl, extractLsb'_cleared _ _ 13 27 rfl, BitVec.or_zero])
  case asid =>
    exact BitVec.extractLsb'_or.trans (by
      rw [extractLsb'_cleared _ _ 0 8 rfl, extractLsb'_kept _ _ 0 8 rfl, BitVec.zero_or])

end Sys2Proof.Machine
end

section
/-! Events between instructions: interrupts, the resets and NMI, and the timer (60_exceptions.md R545 to R569, 10_state.md
R38, R41, R51, 70_reset_and_hazards.md R660 to R662). -/

namespace Sys2Proof.Machine

/-! The pending bits, one by one. -/

section
variable (s : State) {k : Nat}

theorem State.requests_bit (hk : k < 6) :
    s.requests.getLsbD k = if k = 5 then s.cp0.perfOverflow else s.bus.extLines.getLsbD k := by
  rw [State.requests, BitVec.getLsbD_append]
  by_cases h5 : k = 5
  · subst h5; simp
  · simp [show k < 5 by omega, h5]

theorem State.interruptPending_bit7 :
    s.interruptPending.getLsbD 7 = (s.bus.extLines.getLsbD 5 || s.cp0.timerPending) := by
  rw [State.interruptPending, BitVec.getLsbD_append, BitVec.getLsbD_append, BitVec.getLsbD_append]
  simp

theorem State.interruptPending_bit6 : s.interruptPending.getLsbD 6 =
    ((s.requests.getLsbD 4 && !s.cp0.dropped.getLsbD 4) || (s.requests.getLsbD 5 && !s.cp0.dropped.getLsbD 5)) := by
  rw [State.interruptPending, BitVec.getLsbD_append, BitVec.getLsbD_append, BitVec.getLsbD_append]
  simp

theorem State.interruptPending_line (hk : k < 4) :
    s.interruptPending.getLsbD (2 + k) = (s.requests.getLsbD k && !s.cp0.dropped.getLsbD k) := by
  rw [State.interruptPending, BitVec.getLsbD_append, BitVec.getLsbD_append, BitVec.getLsbD_append]
  simp [hk, show k < 6 by omega, show ¬2 + k < 2 by omega]

theorem State.interruptPending_software (hk : k < 2) :
    s.interruptPending.getLsbD k = s.cp0.cause.getLsbD (8 + k) := by
  rw [State.interruptPending, BitVec.getLsbD_append, BitVec.getLsbD_append, BitVec.getLsbD_append]
  simp [hk]

/-- Cause.IP is what is pending. -/
theorem State.causeValue_ip (hk : k < 8) : s.causeValue.getLsbD (8 + k) = s.interruptPending.getLsbD k := by
  have hstored (hk2 : 2 ≤ k) : (0xB000037C#32).getLsbD (8 + k) = false := by interval_cases k <;> rfl
  have hshown (hk2 : 2 ≤ k) : (0xFC#8).getLsbD k = true := by interval_cases k <;> rfl
  have hlow (hk2 : k < 2) : (0xB000037C#32).getLsbD (8 + k) = true := by interval_cases k <;> rfl
  have hhidden (hk2 : k < 2) : (0xFC#8).getLsbD k = false := by interval_cases k <;> rfl
  rw [State.causeValue, BitVec.getLsbD_or, BitVec.getLsbD_and, BitVec.getLsbD_shiftLeft, BitVec.getLsbD_setWidth,
    Nat.add_sub_cancel_left, BitVec.getLsbD_and]
  by_cases h2 : k < 2
  · rw [State.interruptPending_software s h2, hlow h2, hhidden h2]
    simp
  · rw [hstored (by omega), hshown (by omega)]
    simp [show 8 + k < 32 by omega, show k < 32 by omega]

/-- An interrupt may be taken: enabled, outside exception and error level, one pending and unmasked. -/
theorem State.interruptReady_iff : s.interruptReady = true ↔ s.cp0.status.getLsbD 0 = true ∧
    s.cp0.status.getLsbD 1 = false ∧ s.cp0.status.getLsbD 2 = false ∧
      ∃ k < 8, s.causeValue.getLsbD (8 + k) = true ∧ s.cp0.status.getLsbD (8 + k) = true := by
  have hmask (k : Nat) (hk : k < 8) : (statusIm s.cp0.status).getLsbD k = s.cp0.status.getLsbD (8 + k) := by
    simp [statusIm, hk]
  have hany : s.interruptPending &&& statusIm s.cp0.status ≠ 0#8 ↔
      ∃ k < 8, s.causeValue.getLsbD (8 + k) = true ∧ s.cp0.status.getLsbD (8 + k) = true := by
    have hbit (k : Nat) (hk : k < 8) : (s.interruptPending &&& statusIm s.cp0.status).getLsbD k = true ↔
        s.causeValue.getLsbD (8 + k) = true ∧ s.cp0.status.getLsbD (8 + k) = true := by
      rw [BitVec.getLsbD_and, hmask k hk, ← s.causeValue_ip hk, Bool.and_eq_true]
    constructor
    · intro hne
      by_contra hno
      refine hne (BitVec.eq_of_getLsbD_eq fun k hk => ?_)
      rw [BitVec.getLsbD_zero, Bool.eq_false_iff]
      exact fun hb => hno ⟨k, hk, (hbit k hk).1 hb⟩
    · rintro ⟨k, hk, hb⟩ hz
      have hset := (hbit k hk).2 hb
      rw [hz, BitVec.getLsbD_zero] at hset
      exact Bool.false_ne_true hset
  simp only [State.interruptReady, statusIe, statusExl, statusErl, Bool.and_eq_true, Bool.not_eq_true', decide_eq_true_iff,
    hany, and_assoc]

end

/-! The mode that is undefined. -/

theorem modeOf_eq_none_iff (st : BitVec 32) :
    modeOf st = none ↔ st.extractLsb' 3 2 = 3#2 ∧ st.getLsbD 1 = false ∧ st.getLsbD 2 = false := by
  have hksu : ∀ v : BitVec 2, v ≠ 0#2 → v ≠ 1#2 → v ≠ 2#2 → v = 3#2 := by decide
  unfold modeOf
  by_cases hexl : (statusExl st || statusErl st) = true
  · rw [if_pos hexl]
    simp only [reduceCtorEq, false_iff]
    rintro ⟨-, h1, h2⟩
    rw [statusExl, statusErl, h1, h2] at hexl
    exact Bool.false_ne_true hexl
  · rw [if_neg hexl]
    rw [Bool.or_eq_true, not_or, Bool.not_eq_true, Bool.not_eq_true] at hexl
    show _ ↔ statusKsu st = 3#2 ∧ _
    by_cases h0 : statusKsu st = 0#2
    · simp [h0]
    by_cases h1 : statusKsu st = 1#2
    · simp [h1]
    by_cases h2 : statusKsu st = 2#2
    · simp [h2]
    rw [if_neg h0, if_neg h1, if_neg h2]
    exact ⟨fun _ => ⟨hksu _ h0 h1 h2, hexl⟩, fun _ => rfl⟩

/-! Interrupts. -/

theorem runInstr_of_boundary {s u : State} (h : s.tick.boundary = .run u) : step s = runInstr u := by
  simp only [step, h]

theorem step_of_event {s u : State} (h : s.tick.boundary = .event u) : step s = .next u := by
  simp only [step, h]

section
variable {s : State} (hcold : s.coldResetRequest = false) (hnmi : s.nmiRequest = false)
  (hsoft : s.softResetRequest = false)
include hcold hnmi hsoft

theorem boundary_undefined (hm : modeOf s.cp0.status = none) : s.boundary = .stop .ksuReserved := by
  simp only [State.boundary, hcold, hnmi, hsoft, hm, Bool.false_eq_true, if_false]

theorem boundary_defined (hm : modeOf s.cp0.status ≠ none) : s.boundary = s.sampleInterrupt := by
  obtain ⟨m, hm⟩ := Option.ne_none_iff_exists'.1 hm
  simp only [State.boundary, hcold, hnmi, hsoft, hm, Bool.false_eq_true, if_false]

end

section
variable {s : State}

theorem sampleInterrupt_idle (h : s.interruptReady = false) : s.sampleInterrupt = .run { s with irqWait := none } := by
  rw [State.sampleInterrupt, h]
  rfl

theorem sampleInterrupt_taken (h : s.interruptReady = true)
    (hw : s.irqWait.getD (Config.anyNat .interruptDelay s.seq) = 0) :
    s.sampleInterrupt = .event (enterException .interrupt { s with irqWait := none }) := by
  rw [State.sampleInterrupt, h, hw]
  rfl

theorem sampleInterrupt_waiting {n : Nat} (h : s.interruptReady = true)
    (hw : s.irqWait.getD (Config.anyNat .interruptDelay s.seq) = n + 1) :
    s.sampleInterrupt = .run { s with irqWait := some n } := by
  rw [State.sampleInterrupt, h, hw]
  rfl

end

/-- Settles O37: the mode, the condition and the wait decide, in this order. -/
theorem interruptSampling : Obligations.InterruptSampling := by
  intro s hcold hnmi hsoft u st pending undefined
  have hready : pending ↔ u.interruptReady = true := u.interruptReady_iff.symm
  have hundef : undefined ↔ modeOf u.cp0.status = none := (modeOf_eq_none_iff _).symm
  refine ⟨fun h => ?stops, fun hdef => ?runs⟩
  case stops => simp only [step, boundary_undefined (s := s.tick) hcold hnmi hsoft (hundef.1 h)]
  case runs =>
    have hb : s.tick.boundary = u.sampleInterrupt := boundary_defined hcold hnmi hsoft (mt hundef.2 hdef)
    have hseq (w : Option Nat) (h : s.irqWait = w) : u.irqWait = w := h
    refine ⟨fun hp => ?idle, fun hp hw => ?taken, fun n hp hw => ?waiting,
      fun hp hw => ⟨Config.anyNat .interruptDelay u.seq, fun h0 => ?free0, fun k hk => ?freeK⟩⟩
    case idle =>
      rw [runInstr_of_boundary (hb.trans (sampleInterrupt_idle (Bool.eq_false_iff.2 (mt hready.2 hp))))]
    case taken =>
      have h0 : u.irqWait.getD (Config.anyNat .interruptDelay u.seq) = 0 := by rw [hseq _ hw, Option.getD_some]
      rw [step_of_event (hb.trans (sampleInterrupt_taken (hready.1 hp) h0))]
    case waiting =>
      have h1 : u.irqWait.getD (Config.anyNat .interruptDelay u.seq) = n + 1 := by rw [hseq _ hw, Option.getD_some]
      rw [runInstr_of_boundary (hb.trans (sampleInterrupt_waiting (hready.1 hp) h1))]
    case free0 =>
      have h0' : u.irqWait.getD (Config.anyNat .interruptDelay u.seq) = 0 := by rw [hseq _ hw, Option.getD_none, h0]
      rw [step_of_event (hb.trans (sampleInterrupt_taken (hready.1 hp) h0'))]
    case freeK =>
      have h1 : u.irqWait.getD (Config.anyNat .interruptDelay u.seq) = k + 1 := by rw [hseq _ hw, Option.getD_none, hk]
      rw [runInstr_of_boundary (hb.trans (sampleInterrupt_waiting (hready.1 hp) h1))]

/-! Resets and NMI. -/

/-- ERL, SR and BEV are set and every other bit of Status is kept. -/
theorem status_errorEntry (st : BitVec 32) : (st ||| 0x00500004#32).getLsbD 2 = true ∧
    (st ||| 0x00500004#32).getLsbD 20 = true ∧ (st ||| 0x00500004#32).getLsbD 22 = true ∧
    ∀ k < 32, k ≠ 2 → k ≠ 20 → k ≠ 22 → (st ||| 0x00500004#32).getLsbD k = st.getLsbD k := by
  refine ⟨?_, ?_, ?_, fun k hk h2 h20 h22 => ?_⟩
  case refine_4 =>
    have hclear : (0x00500004#32).getLsbD k = false := by
      have hall : ∀ k : Fin 32, k.val ≠ 2 → k.val ≠ 20 → k.val ≠ 22 → (0x00500004#32).getLsbD k.val = false := by decide
      exact hall ⟨k, hk⟩ h2 h20 h22
    rw [BitVec.getLsbD_or, hclear, Bool.or_false]
  all_goals rw [BitVec.getLsbD_or]; exact Bool.or_true _

theorem errorEpc_eq (d : Option Word) (pc : Word) :
    (if d.isSome then pc - 4#64 else pc) = if d = none then pc else pc - 4#64 := by
  cases d <;> rfl

/-- After the requests of the moment are dropped Cause.IP[6:2] reads 0. -/
theorem causeValue_dropRequests (s : State) : s.dropRequests.causeValue.extractLsb' 10 5 = 0#5 := by
  rw [← s.dropRequests_pending]
  ext k hk
  simp only [BitVec.getElem_extractLsb']
  exact (show 10 + k = 8 + (2 + k) by omega) ▸ State.causeValue_ip _ (by omega)

theorem interruptReady_of_erl {s : State} (h : statusErl s.cp0.status = true) : s.interruptReady = false := by
  simp [State.interruptReady, h]

/-- Settles O38: the boundary serves the first request, and each entry is written out in the model. -/
theorem nonMaskableInterrupt : Obligations.NonMaskableInterrupt := by
  intro s entered cleared
  have entry (t : State) (hstatus : t.cp0.status = s.cp0.status ||| 0x00500004#32)
      (hepc : t.cp0.errorEpc = if s.delay.isSome then s.pc - 4#64 else s.pc) :
      t.cp0.errorEpc = (if s.delay = none then s.pc else s.pc - 4#64) ∧
        t.cp0.status.getLsbD 2 = true ∧ t.cp0.status.getLsbD 20 = true ∧ t.cp0.status.getLsbD 22 = true ∧
        ∀ k < 32, k ≠ 2 → k ≠ 20 → k ≠ 22 → t.cp0.status.getLsbD k = s.cp0.status.getLsbD k := by
    rw [hstatus, hepc, errorEpc_eq]
    exact ⟨rfl, status_errorEntry _⟩
  refine ⟨fun hcold hnmi => ?nmi, fun hcold hnmi hsoft => ?soft, fun hcold => ?cold⟩
  case nmi =>
    have hb : s.tick.boundary = .event s.tick.nmi := by simp [State.boundary, hcold, hnmi]
    obtain ⟨hepc, h2, h20, h22, hrest⟩ := entry s.tick.nmi rfl rfl
    exact ⟨_, step_of_event hb, ⟨rfl, rfl, hepc, h2, h20, h22, hrest, rfl, rfl, rfl, rfl, rfl, rfl, rfl, rfl, rfl, rfl,
      rfl, rfl, rfl, rfl⟩, rfl, rfl, rfl, rfl⟩
  case soft =>
    have hb : s.tick.boundary = .event s.tick.softReset := by simp [State.boundary, hcold, hnmi, hsoft]
    obtain ⟨hepc, h2, h20, h22, hrest⟩ := entry s.tick.softReset rfl rfl
    exact ⟨_, step_of_event hb, ⟨rfl, rfl, hepc, h2, h20, h22, hrest, rfl, rfl, rfl, rfl, rfl, rfl, rfl, rfl, rfl, rfl,
      rfl, rfl, rfl, rfl⟩, rfl, hnmi, rfl, causeValue_dropRequests _⟩
  case cold =>
    have hb : s.tick.boundary = .event s.tick.coldReset := by simp [State.boundary, hcold]
    have hstatus : s.tick.coldReset.cp0.status = 0x30400004#32 := rfl
    have hperf : s.tick.coldReset.cp0.perfCtrl = 0#64 := rfl
    have hmode : modeOf s.tick.coldReset.cp0.status = some .kernel := by rw [hstatus]; rfl
    have hevents : s.tick.coldReset.cp0.perfCtrl.extractLsb' 5 8 = 0#8 := by rw [hperf]; rfl
    have hidle : s.tick.coldReset.interruptReady = false := interruptReady_of_erl (by rw [hstatus]; rfl)
    have hconfig : s.tick.coldReset.readCp0 16#5 = sext32 (Config.configFixed ||| (2#3).setWidth 32) := rfl
    exact ⟨_, step_of_event hb, rfl, rfl, rfl, hstatus, hconfig, rfl, rfl, hevents, rfl, causeValue_dropRequests _, hmode,
      hidle, rfl, rfl⟩

/-! The timer and the counters. -/

/-- `t` has the pending timer interrupt, the dropped requests and the performance counters of `s`. -/
def State.SameCounters (s t : State) : Prop :=
  t.cp0.timerPending = s.cp0.timerPending ∧ t.cp0.dropped = s.cp0.dropped ∧ t.cp0.perfCnt = s.cp0.perfCnt

theorem State.SameCounters.of_cp0 {s t : State} (h : t.cp0 = s.cp0) : s.SameCounters t := by
  rw [State.SameCounters, h]
  exact ⟨rfl, rfl, rfl⟩

theorem enterException_sameCounters (e : Exc) {s u : State} (h : u.cp0 = s.cp0) : s.SameCounters (enterException e u) := by
  have hentry : u.SameCounters (enterException e u) := by cases e <;> exact ⟨rfl, rfl, rfl⟩
  rw [State.SameCounters, h] at hentry
  exact hentry

/-- A confined instruction leaves the counters to the tick. -/
theorem Confined.sameCounters {s t : State} {o : Outcome} (h : Confined s o) (ht : o = .next t) : s.SameCounters t := by
  rcases h t ht with ⟨hcp0, -, -⟩ | ⟨e, u, rfl, hcp0, -, -⟩
  · exact .of_cp0 hcp0
  · exact enterException_sameCounters e hcp0

/-- The outcomes that leave the counters alone. -/
def KeepsCounters (s : State) (o : Outcome) : Prop := ∀ t, o = .next t → s.SameCounters t

section
variable {s : State}

theorem keepsCounters_advance {u : State} (h : s.SameCounters u) : KeepsCounters s (advance u) := by
  intro t ht
  obtain ⟨-, rfl⟩ := (advance_eq_next u t).1 ht
  exact h

theorem keepsCounters_fault {f : Fault} : KeepsCounters s (.fault f) := fun _ h => nomatch h

theorem keepsCounters_raise (e : Exc) : KeepsCounters s (raise e s) := by
  rintro t ⟨⟩
  exact enterException_sameCounters e rfl

theorem keepsCounters_ite {c : Prop} [Decidable c] {a b : Outcome} (ha : KeepsCounters s a) (hb : KeepsCounters s b) :
    KeepsCounters s (if c then a else b) := by split <;> assumption

theorem keepsCounters_withCp0 {k : Outcome} (h : KeepsCounters s k) : KeepsCounters s (withCp0 s k) := by
  unfold withCp0
  split
  · exact keepsCounters_fault
  · exact keepsCounters_ite h (keepsCounters_raise _)

theorem keepsCounters_cacheOp {base : RegNum} {offset : BitVec 16} {relaxed : Bool} {k : Word → PhysAddr → Outcome}
    (hk : ∀ va pa, KeepsCounters s (k va pa)) : KeepsCounters s (cacheOp s base offset relaxed k) := by
  unfold cacheOp
  split
  · exact keepsCounters_fault
  · refine keepsCounters_ite ?_ (keepsCounters_raise _)
    dsimp only
    split
    · exact keepsCounters_raise _
    · exact keepsCounters_fault
    · exact keepsCounters_ite (hk _ _) keepsCounters_fault

theorem keepsCounters_writeTlbEntry (i : BitVec 6) : KeepsCounters s (s.writeTlbEntry i) := by
  unfold State.writeTlbEntry
  split
  · exact keepsCounters_fault
  · exact keepsCounters_advance (.of_cp0 rfl)

/-- A write of a CP0 register other than Compare and the performance counters. -/
theorem writeCp0_counters (n : RegNum) (v : Word) : (s.writeCp0 n v).cp0.dropped = s.cp0.dropped ∧
    (n ≠ 11#5 → (s.writeCp0 n v).cp0.timerPending = s.cp0.timerPending) ∧
    (n ≠ 25#5 → (s.writeCp0 n v).cp0.perfCnt = s.cp0.perfCnt) := by
  have hn (k : Nat) (hk : k < 32) : n ≠ BitVec.ofNat 5 k → n.toNat ≠ k := fun hne e =>
    hne (BitVec.eq_of_toNat_eq (by rw [e, BitVec.toNat_ofNat, Nat.mod_eq_of_lt hk]))
  refine ⟨?_, fun h11 => ?_, fun h25 => ?_⟩
  · unfold State.writeCp0; split <;> rfl
  · unfold State.writeCp0
    split
    all_goals first
      | exact absurd ‹n.toNat = 11› (hn 11 (by decide) h11)
      | rfl
  · unfold State.writeCp0
    split
    all_goals first
      | exact absurd ‹n.toNat = 25› (hn 25 (by decide) h25)
      | rfl

end

/-- An instruction that is no move to CP0 leaves the counters to the tick. -/
theorem exec_keepsCounters {s : State} {i : Instr} (hm : ∀ rt rd, i ≠ .mtc0 rt rd) (hd : ∀ rt rd, i ≠ .dmtc0 rt rd) :
    KeepsCounters s (exec i s) := by
  by_cases hw : writesSystem i = true
  · cases i
    case mtc0 rt rd => exact absurd rfl (hm rt rd)
    case dmtc0 rt rd => exact absurd rfl (hd rt rd)
    case tlbp =>
      refine keepsCounters_withCp0 ?_
      split
      · exact keepsCounters_advance ⟨rfl, rfl, rfl⟩
      · exact keepsCounters_advance ⟨rfl, rfl, rfl⟩
      · exact keepsCounters_fault
    case tlbr => exact keepsCounters_withCp0 (keepsCounters_advance ⟨rfl, rfl, rfl⟩)
    case tlbwi | tlbwr => exact keepsCounters_withCp0 (keepsCounters_writeTlbEntry _)
    case eret =>
      refine keepsCounters_withCp0 (keepsCounters_ite (fun _ h => nomatch h) ?_)
      rintro t ⟨⟩
      exact ⟨rfl, rfl, rfl⟩
    case cacheIndexLoadTagD =>
      show KeepsCounters s (execCacheIndexLoadTagD _ _ _)
      exact keepsCounters_cacheOp fun _ _ => keepsCounters_advance ⟨rfl, rfl, rfl⟩
    case cacheIndexLoadTagS =>
      show KeepsCounters s (execCacheIndexLoadTagS _ _ _)
      exact keepsCounters_cacheOp fun _ _ => keepsCounters_advance ⟨rfl, rfl, rfl⟩
    case cacheIndexLoadDataD =>
      show KeepsCounters s (execCacheIndexLoadDataD _ _ _)
      exact keepsCounters_cacheOp fun _ _ => keepsCounters_advance ⟨rfl, rfl, rfl⟩
    case cacheIndexLoadDataS =>
      show KeepsCounters s (execCacheIndexLoadDataS _ _ _)
      exact keepsCounters_cacheOp fun _ _ => keepsCounters_advance ⟨rfl, rfl, rfl⟩
    all_goals cases hw
  · intro t ht
    exact (exec_confined (Bool.eq_false_iff.2 hw)).sameCounters ht

/-- What a move to a CP0 register keeps of the counters. -/
theorem moveCp0_counters {s t : State} {rd : RegNum} {v : Word} (h : withCp0 s (advance (s.writeCp0 rd v)) = .next t) :
    t.cp0.dropped = s.cp0.dropped ∧ (rd ≠ 11#5 → t.cp0.timerPending = s.cp0.timerPending) ∧
      (rd ≠ 25#5 → t.cp0.perfCnt = s.cp0.perfCnt) := by
  unfold withCp0 at h
  split at h
  · cases h
  · split at h
    · obtain ⟨-, rfl⟩ := (advance_eq_next _ t).1 h
      exact writeCp0_counters rd v
    · obtain ⟨ht, hd, hp⟩ := keepsCounters_raise _ t h
      exact ⟨hd, fun _ => ht, fun _ => hp⟩

/-- Each field, by the one register that an instruction can write it through. -/
theorem exec_counters {s t : State} {i : Instr} (h : exec i s = .next t) : t.cp0.dropped = s.cp0.dropped ∧
    ((∀ rt, i ≠ .mtc0 rt 11#5) → (∀ rt, i ≠ .dmtc0 rt 11#5) → t.cp0.timerPending = s.cp0.timerPending) ∧
    ((∀ rt, i ≠ .mtc0 rt 25#5) → (∀ rt, i ≠ .dmtc0 rt 25#5) → t.cp0.perfCnt = s.cp0.perfCnt) := by
  by_cases hm : ∃ rt rd, i = .mtc0 rt rd
  · obtain ⟨rt, rd, rfl⟩ := hm
    obtain ⟨hdropped, htimer, hperf⟩ := moveCp0_counters h
    exact ⟨hdropped, fun hne _ => htimer fun e => hne rt (e ▸ rfl), fun hne _ => hperf fun e => hne rt (e ▸ rfl)⟩
  by_cases hd : ∃ rt rd, i = .dmtc0 rt rd
  · obtain ⟨rt, rd, rfl⟩ := hd
    obtain ⟨hdropped, htimer, hperf⟩ := moveCp0_counters h
    exact ⟨hdropped, fun _ hne => htimer fun e => hne rt (e ▸ rfl), fun _ hne => hperf fun e => hne rt (e ▸ rfl)⟩
  push Not at hm hd
  obtain ⟨ht, hdr, hp⟩ := exec_keepsCounters hm hd t h
  exact ⟨hdr, fun _ _ => ht, fun _ _ => hp⟩

/-- The count enables of PerfCtrl, as the statement of R51 lists them. -/
theorem perfQualified_iff (st : BitVec 32) (ctrl : BitVec 64) : perfQualified st ctrl = true ↔
    st.getLsbD 2 = false ∧ ((st.getLsbD 1 = true ∧ ctrl.getLsbD 0 = true) ∨ (st.getLsbD 1 = false ∧
      ((st.extractLsb' 3 2 = 0#2 ∧ ctrl.getLsbD 1 = true) ∨ (st.extractLsb' 3 2 = 1#2 ∧ ctrl.getLsbD 2 = true) ∨
        (st.extractLsb' 3 2 = 2#2 ∧ ctrl.getLsbD 3 = true)))) := by
  have hksu : statusKsu st = st.extractLsb' 3 2 := rfl
  rw [← hksu, perfQualified, statusErl, statusExl, Bool.and_eq_true, Bool.not_eq_true']
  refine and_congr_right fun _ => ?_
  generalize st.getLsbD 1 = exl
  cases exl
  case true => simp
  rw [if_neg Bool.false_ne_true]
  by_cases hk0 : statusKsu st = 0#2
  · simp [hk0]
  by_cases hk1 : statusKsu st = 1#2
  · simp [hk1]
  by_cases hk2 : statusKsu st = 2#2
  · simp [hk2]
  · simp [hk0, hk1, hk2]

/-- Settles O39: the tick alone moves the counters, and Cause shows what is pending. -/
theorem timerInterrupt : Obligations.TimerInterrupt := by
  intro s t i
  refine ⟨fun hc => ?matches_, fun hp => ⟨?stays, ?shows⟩, fun hu ha rt => ?cleared, fun h => (exec_counters h).2.1, ?ip,
    fun h => (exec_counters h).1, ⟨fun hno => ?still, fun h => (exec_counters h).2.2⟩, rfl⟩
  case matches_ =>
    have hm (n : Nat) : timerMatches s.cp0.count s.cp0.compare n = true := by simp [timerMatches, hc]
    exact (congrArg (s.cp0.timerPending || ·) (hm _)).trans (Bool.or_true _)
  case stays => exact (congrArg (· || _) hp).trans (Bool.true_or _)
  case shows => rw [s.causeValue_ip (k := 7) (by decide), s.interruptPending_bit7, hp, Bool.or_true]
  case cleared =>
    have moves (v : Word) : withCp0 s (advance (s.writeCp0 11#5 v)) = .next (s.writeCp0 11#5 v).after :=
      (withCp0_of_usable _ hu).trans (advance_of_canAdvance ((s.canAdvance_writeCp0 _ v).2 ha))
    exact ⟨⟨_, moves _, rfl⟩, ⟨_, moves _, rfl⟩⟩
  case ip =>
    intro ext ip overflow request shown
    have hrequest (k : Nat) (hk : k < 6) : s.requests.getLsbD k = request k := s.requests_bit hk
    refine ⟨?bit7, ?bit6, fun k hk => ?lines, fun k hk => ?software, fun k hk h => ?ended⟩
    case bit7 => exact (s.causeValue_ip (by decide)).trans s.interruptPending_bit7
    case bit6 =>
      refine (s.causeValue_ip (by decide)).trans (s.interruptPending_bit6.trans ?_)
      rw [hrequest 4 (by decide), hrequest 5 (by decide)]
    case lines =>
      refine (s.causeValue_ip (by omega)).trans ((s.interruptPending_line hk).trans ?_)
      rw [hrequest k (by omega)]
    case software => exact (s.causeValue_ip (by omega)).trans (s.interruptPending_software hk)
    case ended =>
      rw [← hrequest k hk] at h
      have htick : s.tick.cp0.dropped = s.tickDropped (s.seq + 1) := rfl
      rw [htick, State.tickDropped, BitVec.getLsbD_and, BitVec.getLsbD_and, h, Bool.false_and]
  case still => exact if_neg (mt (perfQualified_iff _ _).1 hno)

end Sys2Proof.Machine
end

section
/-! Bytes: the bits of the byte masks, of the bytes of words and lines, and of numbers read from memory. -/

namespace Sys2Proof.Machine

theorem getLsbD_byteMask (n i : Nat) : (byteMask n).getLsbD i = decide (i < 64 ∧ i < 8 * n) := by
  simp [byteMask, BitVec.getLsbD_ofNat, Nat.testBit_two_pow_sub_one]

theorem getLsbD_wordGet (d : Word) (off n i : Nat) :
    (wordGet d off n).getLsbD i = (decide (i < 64 ∧ i < 8 * n) && d.getLsbD (8 * off + i)) := by
  simp [wordGet, getLsbD_byteMask, Bool.and_comm]

theorem getLsbD_lineGet (d : Line) (off n i : Nat) :
    (lineGet d off n).getLsbD i = (decide (i < 64 ∧ i < 8 * n) && d.getLsbD (8 * off + i)) := by
  rw [lineGet, BitVec.getLsbD_and, BitVec.getLsbD_setWidth, BitVec.getLsbD_ushiftRight, getLsbD_byteMask]
  by_cases h : i < 64 <;> simp [h, Bool.and_comm]

theorem getLsbD_linePut (d : Line) {off n : Nat} (v : Word) {i : Nat} (hn : n ≤ 8) (hi : i < 256) :
    (linePut d off n v).getLsbD i =
      if 8 * off ≤ i ∧ i < 8 * (off + n) then v.getLsbD (i - 8 * off) else d.getLsbD i := by
  simp only [linePut, BitVec.getLsbD_or, BitVec.getLsbD_and, BitVec.getLsbD_not, BitVec.getLsbD_shiftLeft,
    BitVec.getLsbD_setWidth, getLsbD_byteMask, hi, decide_true, Bool.true_and]
  by_cases h1 : i < 8 * off
  · simp [h1, show ¬8 * off ≤ i by omega]
  · by_cases h2 : i < 8 * (off + n)
    · simp [h1, h2, show 8 * off ≤ i by omega, show i - 8 * off < 64 by omega, show i - 8 * off < 256 by omega,
        show i - 8 * off < 8 * n by omega]
    · simp [h1, h2, show ¬i - 8 * off < 8 * n by omega]

theorem getLsbD_word32Put (d : BitVec 32) {off n : Nat} (v : Word) {i : Nat} (hi : i < 32) :
    (word32Put d off n v).getLsbD i =
      if 8 * off ≤ i ∧ i < 8 * (off + n) then v.getLsbD (i - 8 * off) else d.getLsbD i := by
  simp only [word32Put, BitVec.getLsbD_or, BitVec.getLsbD_and, BitVec.getLsbD_not, BitVec.getLsbD_shiftLeft,
    BitVec.getLsbD_setWidth, getLsbD_byteMask, hi, decide_true, Bool.true_and]
  by_cases h1 : i < 8 * off
  · simp [h1, show ¬8 * off ≤ i by omega]
  · by_cases h2 : i < 8 * (off + n)
    · simp [h1, h2, show 8 * off ≤ i by omega, show i - 8 * off < 64 by omega, show i - 8 * off < 32 by omega,
        show i - 8 * off < 8 * n by omega]
    · simp [h1, h2, show ¬i - 8 * off < 8 * n by omega]

/-- A whole word put into a word. -/
theorem word32Put_all (d : BitVec 32) (v : Word) : word32Put d 0 4 v = low32 v := by
  refine BitVec.eq_of_getLsbD_eq fun i hi => ?_
  rw [getLsbD_word32Put d v hi, low32, BitVec.getLsbD_setWidth]
  simp [hi]

theorem wordGet_all (d : Word) : wordGet d 0 8 = d := by
  refine BitVec.eq_of_getLsbD_eq fun i hi => ?_
  rw [getLsbD_wordGet]
  simp [hi]

/-- The low word of a doubleword that holds a word. -/
theorem wordGet_setWidth (d : BitVec 32) : wordGet (d.setWidth 64) 0 4 = d.setWidth 64 := by
  refine BitVec.eq_of_getLsbD_eq fun i hi => ?_
  rw [getLsbD_wordGet, BitVec.getLsbD_setWidth, BitVec.getLsbD_setWidth]
  by_cases h : i < 32
  · simp [h, hi]
  · simp [BitVec.getLsbD_of_ge _ _ (not_lt.1 h)]

/-! Numbers in memory. -/

theorem memRead_lt (m : Memory) (a n : Nat) : memRead m a n < 256 ^ n := by
  induction n generalizing a with
  | zero => exact Nat.one_pos
  | succ n ih =>
    have hb := (memByte m a).isLt
    have ht := ih (a + 1)
    rw [memRead, pow_succ]
    omega

/-- The number of the statements is the one the model reads. -/
theorem bytesAt_eq_memRead (m : Memory) (a n : Nat) : bytesAt m a n = memRead m a n := by
  induction n generalizing a with
  | zero => rfl
  | succ n ih =>
    have hrest : (List.range n).map (fun i => (memByte m (a + (i + 1))).toNat) =
        (List.range n).map (fun i => (memByte m (a + 1 + i)).toNat) :=
      List.map_congr_left fun i _ => by rw [show a + (i + 1) = a + 1 + i by omega]
    have ih := ih (a + 1)
    rw [bytesAt] at ih
    rw [bytesAt, memRead, List.range_succ_eq_map, List.map_cons, Nat.ofDigits_cons, List.map_map]
    simp only [Function.comp_def, Nat.succ_eq_add_one, hrest, ih, Nat.add_zero]

/-- The bits of a number read from memory. -/
theorem testBit_memRead (m : Memory) (a n i : Nat) :
    (memRead m a n).testBit i = (decide (i < 8 * n) && (memByte m (a + i / 8)).getLsbD (i % 8)) := by
  induction n generalizing a i with
  | zero => simp [memRead]
  | succ n ih =>
    have hlow : (memByte m a).toNat < 2 ^ 8 := (memByte m a).isLt
    rw [memRead, show 256 = 2 ^ 8 from rfl, Nat.add_comm, Nat.testBit_two_pow_mul_add _ hlow]
    by_cases h : i < 8
    · rw [if_pos h, Nat.div_eq_of_lt h, Nat.mod_eq_of_lt h, BitVec.testBit_toNat]
      simp [show i < 8 * (n + 1) by omega]
    · rw [if_neg h, ih, show a + 1 + (i - 8) / 8 = a + i / 8 by omega, show (i - 8) % 8 = i % 8 by omega]
      congr 1
      exact decide_eq_decide.2 (by omega)

theorem getLsbD_ofNat_memRead {w : Nat} (m : Memory) (a n i : Nat) (hi : i < w) :
    (BitVec.ofNat w (memRead m a n)).getLsbD i =
      (decide (i < 8 * n) && (memByte m (a + i / 8)).getLsbD (i % 8)) := by
  rw [BitVec.getLsbD_ofNat, testBit_memRead]
  simp [hi]

end Sys2Proof.Machine
end

section
/-! Reset, reserved and closed words, the privilege of CACHE, the devices, and the step as a whole. -/

namespace Sys2Proof.Machine

/-! The reset state. -/

/-- Settles O40: the fields of the reset state, and what they compute to. -/
theorem resetValues : Obligations.ResetValues := by
  unfold Obligations.ResetValues
  intro s
  have hstatus : s.cp0.status = 0x30400004#32 := rfl
  have hmode : modeOf s.cp0.status = some .kernel := by rw [hstatus]; rfl
  have hpending : s.causeValue.extractLsb' 10 5 = 0#5 := by decide
  have hidle : s.interruptReady = false := interruptReady_of_erl (by rw [hstatus]; rfl)
  have hseg : segmentOf .kernel s.cp0.k0 s.pc = .unmapped 0x1FC00000#40 2#3 := by decide
  have hcp1 : s.Cp1Usable := by rw [State.Cp1Usable, hstatus]; rfl
  have hperf : s.cp0.perfCtrl = 0#64 := rfl
  have hevents : s.cp0.perfCtrl.extractLsb' 5 8 = 0#8 := by rw [hperf]; rfl
  have hbev : statusBev s.cp0.status = true := by rw [hstatus]; rfl
  have hconfig : s.readCp0 16#5 = sext32 (Config.configFixed ||| (2#3).setWidth 32) := rfl
  have hprid : s.readCp0 15#5 = sext32 Config.prid := rfl
  exact ⟨rfl, rfl, hstatus, hconfig, rfl, rfl, hprid, rfl, hpending, hevents, hmode, hidle, cp0Usable_of_kernel hmode, hcp1,
    hbev, State.translateFetch_of_unmapped hmode hseg⟩

/-! Words that are no instruction. -/

theorem execWord_of_ok {w : BitVec 32} {i : Instr} (s : State) (h : decode w = .ok i) : execWord w s = exec i s := by
  simp only [execWord, h]

theorem execWord_of_error {w : BitVec 32} {r : Rejection} (s : State) (h : decode w = .error r) :
    execWord w s = rejectWord r w s := by
  simp only [execWord, h]

section
variable {w : BitVec 32}

theorem decode_special (hop : opField w = 0#6) : decode w = decodeSpecial w := by simp [decode, hop]

theorem decode_regimm (hop : opField w = 1#6) : decode w = decodeRegimm w := by simp [decode, hop]

/-- The words of R175 are rejected as reserved. -/
theorem decode_of_reserved (h : isReservedWord w) : decode w = .error .reservedInstruction := by
  rcases h with hop | ⟨hop, hf⟩ | ⟨hop, hsel⟩
  · simp only [List.mem_cons, List.not_mem_nil, or_false] at hop
    rcases hop with h | h | h | h | h | h | h | h | h | h <;> simp [decode, h]
  · rw [decode_special hop]
    simp only [List.mem_cons, List.not_mem_nil, or_false] at hf
    rcases hf with h | h | h | h | h | h | h | h | h <;> simp [decodeSpecial, h]
  · rw [decode_regimm hop]
    simp only [List.mem_cons, List.not_mem_nil, or_false] at hsel
    rcases hsel with h | h | h | h | h | h | h | h | h | h | h | h | h | h | h | h | h | h <;> simp [decodeRegimm, h]

/-- No reserved word is a coprocessor's. -/
theorem opField_of_reserved (h : isReservedWord w) :
    opField w ≠ 16#6 ∧ opField w ≠ 47#6 ∧ opField w ≠ 17#6 ∧ opField w ≠ 28#6 ∧ opField w ≠ 18#6 := by
  rcases h with hop | ⟨hop, -⟩ | ⟨hop, -⟩
  · simp only [List.mem_cons, List.not_mem_nil, or_false] at hop
    rcases hop with h | h | h | h | h | h | h | h | h | h <;> simp [h]
  · simp [hop]
  · simp [hop]

/-! A rejected word of no coprocessor ends by its rejection. -/

section
variable (s : State) (h : opField w ≠ 16#6 ∧ opField w ≠ 47#6 ∧ opField w ≠ 17#6 ∧ opField w ≠ 28#6 ∧ opField w ≠ 18#6)
include h

theorem rejectWord_reserved : rejectWord .reservedInstruction w s = raise .reservedInstruction s := by
  obtain ⟨h16, h47, h17, h28, h18⟩ := h
  simp only [rejectWord, h16, h47, h17, h28, h18, or_self, false_and, if_false]

theorem rejectWord_outside : rejectWord .outsideSpec w s = .refused .outsideSpec := by
  obtain ⟨h16, h47, h17, h28, h18⟩ := h
  simp only [rejectWord, h16, h47, h17, h28, h18, or_self, false_and, if_false]

end

end

/-- Settles O41: the maps reject the words of R175 as reserved, and SPECIAL 1, 10 and 11 as outside the spec. -/
theorem reservedInstructions : Obligations.ReservedInstructions := by
  intro s w
  refine ⟨fun h => ⟨?raises, enterException_excCode .reservedInstruction s⟩, fun hop hf => ?refused⟩
  case raises =>
    exact (execWord_of_error s (decode_of_reserved h)).trans (rejectWord_reserved s (opField_of_reserved h))
  case refused =>
    have hd : decode w = .error .outsideSpec := by
      rw [decode_special hop]
      simp only [List.mem_cons, List.not_mem_nil, or_false] at hf
      rcases hf with h | h | h <;> simp [decodeSpecial, h]
    exact (execWord_of_error s hd).trans (rejectWord_outside s (by simp [hop]))

/-! The CACHE operations, by privilege and translation. -/

section
variable {s : State} {m : Mode} (base : RegNum) (offset : BitVec 16) {relaxed : Bool} (k : Word → PhysAddr → Outcome)
  (hm : modeOf s.cp0.status = some m)
include hm

theorem cacheOp_closed (hu : cacheUsableIn m s.cp0 relaxed = false) :
    cacheOp s base offset relaxed k = .next (enterException (.coprocessorUnusable 0#2) s) := by
  simp only [cacheOp, hm, hu, Bool.false_eq_true, if_false, raise]

section
variable (hu : cacheUsableIn m s.cp0 relaxed = true)
include hu

theorem cacheOp_exc {e : Exc} (h : s.translateData false (s.readGpr base + offset.signExtend 64) = .exc e) :
    cacheOp s base offset relaxed k = .next (enterException e s) := by
  have ht : s.translateData false (s.effectiveAddress base offset) = .exc e := h
  simp only [cacheOp, hm, hu, if_true, ht, raise]

theorem cacheOp_uncached {pa : PhysAddr} {c : BitVec 3}
    (h : s.translateData false (s.readGpr base + offset.signExtend 64) = .ok pa c) (hc : c ≠ 3#3) :
    cacheOp s base offset relaxed k = .fault .cacheOnUncached := by
  have ht : s.translateData false (s.effectiveAddress base offset) = .ok pa c := h
  simp only [cacheOp, hm, hu, if_true, ht, if_neg hc]

end
end

/-- The operations that U-Mode opens to user mode. -/
def relaxedCacheOps (base : RegNum) (offset : BitVec 16) : List Instr :=
  [.cacheIndexInvalidateI base offset, .cacheIndexWritebackInvalidateD base offset,
    .cacheIndexWritebackInvalidateS base offset, .cacheHitInvalidateD base offset, .cacheHitInvalidateS base offset,
    .cacheHitWritebackInvalidateD base offset, .cacheHitWritebackInvalidateS base offset]

/-- The operations of CP0 alone. -/
def privilegedCacheOps (base : RegNum) (offset : BitVec 16) : List Instr :=
  [.cacheIndexLoadTagD base offset, .cacheIndexLoadTagS base offset, .cacheIndexStoreTagD base offset,
    .cacheIndexStoreTagS base offset, .cacheIndexLoadDataD base offset, .cacheIndexLoadDataS base offset,
    .cacheIndexStoreDataD base offset, .cacheIndexStoreDataS base offset]

section
variable (s : State) (base : RegNum) (offset : BitVec 16)

theorem exec_relaxedCacheOp :
    ∀ i ∈ relaxedCacheOps base offset, ∃ k, exec i s = cacheOp s base offset true k := by
  simp only [relaxedCacheOps, List.forall_mem_cons, List.not_mem_nil, false_imp_iff, implies_true, and_true]
  exact ⟨⟨_, (rfl : execCacheIndexInvalidateI base offset s = _)⟩,
    ⟨_, (rfl : execCacheIndexWritebackInvalidateD base offset s = _)⟩,
    ⟨_, (rfl : execCacheIndexWritebackInvalidateS base offset s = _)⟩,
    ⟨_, (rfl : execCacheHitInvalidateD base offset s = _)⟩, ⟨_, (rfl : execCacheHitInvalidateS base offset s = _)⟩,
    ⟨_, (rfl : execCacheHitWritebackInvalidateD base offset s = _)⟩,
    ⟨_, (rfl : execCacheHitWritebackInvalidateS base offset s = _)⟩⟩

theorem exec_privilegedCacheOp :
    ∀ i ∈ privilegedCacheOps base offset, ∃ k, exec i s = cacheOp s base offset false k := by
  simp only [privilegedCacheOps, List.forall_mem_cons, List.not_mem_nil, false_imp_iff, implies_true, and_true]
  exact ⟨⟨_, (rfl : execCacheIndexLoadTagD base offset s = _)⟩, ⟨_, (rfl : execCacheIndexLoadTagS base offset s = _)⟩,
    ⟨_, (rfl : execCacheIndexStoreTagD base offset s = _)⟩, ⟨_, (rfl : execCacheIndexStoreTagS base offset s = _)⟩,
    ⟨_, (rfl : execCacheIndexLoadDataD base offset s = _)⟩, ⟨_, (rfl : execCacheIndexLoadDataS base offset s = _)⟩,
    ⟨_, (rfl : execCacheIndexStoreDataD base offset s = _)⟩, ⟨_, (rfl : execCacheIndexStoreDataS base offset s = _)⟩⟩

end

/-- Settles O46: usable or not by mode, CU0 and U-Mode; then the translation. -/
theorem cachePrivilege : Obligations.CachePrivilege := by
  intro s base offset va open_ closed
  have hopen := exec_relaxedCacheOp s base offset
  have hclosed := exec_privilegedCacheOp s base offset
  refine ⟨fun ⟨hm, hcu⟩ => ⟨fun i hi => ?userClosed, fun hum i hi => ?userOpen⟩, fun hm hcu i hi => ?supervisor,
    fun hu i hi => ?relaxed, fun ⟨m, hm, hu⟩ i hi => ?privileged⟩
  case userClosed =>
    obtain ⟨k, hk⟩ := hclosed i hi
    exact hk.trans (cacheOp_closed base offset k hm (by simp [cacheUsableIn, cp0UsableIn, hcu]))
  case userOpen =>
    obtain ⟨k, hk⟩ := hopen i hi
    exact hk.trans (cacheOp_closed base offset k hm (by simp only [cacheUsableIn, cp0UsableIn, hcu, Cp0.uMode, hum]; rfl))
  case supervisor =>
    have hcu0 : statusCu0 s.cp0.status = false := hcu
    rcases List.mem_append.1 hi with hi | hi
    · obtain ⟨k, hk⟩ := hopen i hi
      exact hk.trans (cacheOp_closed base offset k hm (by simp [cacheUsableIn, cp0UsableIn, hcu0]))
    · obtain ⟨k, hk⟩ := hclosed i hi
      exact hk.trans (cacheOp_closed base offset k hm (by simp [cacheUsableIn, cp0UsableIn, hcu0]))
  case relaxed =>
    obtain ⟨k, hk⟩ := hopen i hi
    have husable : ∃ m, modeOf s.cp0.status = some m ∧ cacheUsableIn m s.cp0 true = true := by
      rcases hu with ⟨m, hm, hu⟩ | ⟨⟨hm, -⟩, hum⟩
      · exact ⟨m, hm, by simp [cacheUsableIn, hu]⟩
      · exact ⟨.user, hm, by simp only [cacheUsableIn, Cp0.uMode, hum]; simp⟩
    obtain ⟨m, hm, hu⟩ := husable
    exact ⟨fun e he => hk.trans (cacheOp_exc base offset k hm hu he),
      fun p c hp hc => hk.trans (cacheOp_uncached base offset k hm hu hp hc)⟩
  case privileged =>
    obtain ⟨k, hk⟩ := hclosed i hi
    have hu' : cacheUsableIn m s.cp0 false = true := by simp [cacheUsableIn, hu]
    exact ⟨fun e he => hk.trans (cacheOp_exc base offset k hm hu' he),
      fun p c hp hc => hk.trans (cacheOp_uncached base offset k hm hu' hp hc)⟩

/-! Words of a closed coprocessor, defined or not. -/

/-- The exception with the unit in CE. -/
theorem unusable_cause (s : State) (n : BitVec 2) :
    let t := enterException (.coprocessorUnusable n) s
    t.cp0.cause.extractLsb' 28 2 = n ∧ t.cp0.cause.extractLsb' 2 5 = 11#5 :=
  ⟨enterException_ce _ s rfl, enterException_excCode _ s⟩

/-- A word ends as its instruction does, or as its rejection does. -/
theorem execWord_of_answers {w : BitVec 32} {s : State} {o : Outcome} (hi : Answers (fun i => exec i s = o) (decode w))
    (hr : ∀ r, rejectWord r w s = o) : execWord w s = o := by
  cases hd : decode w with
  | ok i => exact (execWord_of_ok s hd).trans (hi i hd)
  | error r => exact (execWord_of_error s hd).trans (hr r)

section
variable {w : BitVec 32} {s : State}

section
variable (h : ¬s.Cp1Usable)
include h

theorem rejectWord_cp1 (hop : opField w = 17#6 ∨ (opField w = 28#6 ∧ (functField w).extractLsb' 2 4 = 6#4))
    (r : Rejection) : rejectWord r w s = .next (enterException (.coprocessorUnusable 1#2) s) := by
  have hno : ¬(opField w = 16#6 ∨ opField w = 47#6) := by rcases hop with hop | ⟨hop, -⟩ <;> simp [hop]
  exact (if_neg hno).trans ((if_pos hop).trans (withCp1_of_unusable _ h))

theorem decodeCop1_closed :
    Answers (fun i => exec i s = .next (enterException (.coprocessorUnusable 1#2) s)) (decodeCop1 w) := by
  unfold decodeCop1 decodeBc1 decodeFpS decodeFpD decodeFpW decodeFpL decodeFpPs
  repeat' with_reducible refine Answers.ite (fun hf => ?_) ?_
  all_goals first
    | with_reducible exact .error
    | with_reducible refine .okWhen fun _ => ?_
      exact withCp1_of_unusable _ h
    | with_reducible refine .ok ?_
      exact withCp1_of_unusable _ h

theorem decodeMadd_closed :
    Answers (fun i => exec i s = .next (enterException (.coprocessorUnusable 1#2) s)) (decodeMadd w) := by
  unfold decodeMadd
  repeat' with_reducible refine Answers.ite (fun hf => ?_) ?_
  all_goals first
    | with_reducible exact .error
    | with_reducible refine .ok ?_
      exact withCp1_of_unusable _ h

/-- Every word of CP1 ends in coprocessor unusable while CP1 is closed. -/
theorem execWord_cp1_closed (hw : isCp1Word w) :
    execWord w s = .next (enterException (.coprocessorUnusable 1#2) s) := by
  have answers {i : Instr} (hd : decode w = .ok i)
      (hi : exec i s = .next (enterException (.coprocessorUnusable 1#2) s)) :
      execWord w s = .next (enterException (.coprocessorUnusable 1#2) s) := (execWord_of_ok s hd).trans hi
  rcases hw with hop | ⟨hop, hf⟩
  · simp only [List.mem_cons, List.not_mem_nil, or_false] at hop
    rcases hop with hop | hop | hop | hop | hop
    · have hd : decode w = decodeCop1 w := by simp [decode, hop]
      exact execWord_of_answers (hd ▸ decodeCop1_closed h) (rejectWord_cp1 h (.inl hop))
    · exact answers (i := .lwc1 (rsField w) (rtField w) (immField w)) (by simp [decode, hop]) (withCp1_of_unusable _ h)
    · exact answers (i := .ldc1 (rsField w) (rtField w) (immField w)) (by simp [decode, hop]) (withCp1_of_unusable _ h)
    · exact answers (i := .swc1 (rsField w) (rtField w) (immField w)) (by simp [decode, hop]) (withCp1_of_unusable _ h)
    · exact answers (i := .sdc1 (rsField w) (rtField w) (immField w)) (by simp [decode, hop]) (withCp1_of_unusable _ h)
  · simp only [List.mem_cons, List.not_mem_nil, or_false] at hf
    have hd : decode w = decodeMadd w := by rcases hf with hf | hf | hf | hf <;> simp [decode, hop, decodeSpecial2, hf]
    have hgroup : (functField w).extractLsb' 2 4 = 6#4 := by rcases hf with hf | hf | hf | hf <;> rw [hf] <;> rfl
    exact execWord_of_answers (hd ▸ decodeMadd_closed h) (rejectWord_cp1 h (.inr ⟨hop, hgroup⟩))

end

section
variable (h : s.Cp0Unusable)
include h

theorem decodeCop0_closed :
    Answers (fun i => (∀ rt rd, i = .mfc0 rt rd ∨ i = .dmfc0 rt rd → rd ≠ 24#5 ∧ rd ≠ 25#5) →
      exec i s = .next (enterException (.coprocessorUnusable 0#2) s)) (decodeCop0 w) := by
  have closed (k : Outcome) : withCp0 s k = .next (enterException (.coprocessorUnusable 0#2) s) :=
    withCp0_of_unusable k h
  have read {rd : RegNum} (k : Outcome) (hne : rd ≠ 24#5 ∧ rd ≠ 25#5) :
      counterOrCp0 s rd k = .next (enterException (.coprocessorUnusable 0#2) s) :=
    (if_neg (not_or.2 hne)).trans (closed k)
  unfold decodeCop0
  repeat' with_reducible refine Answers.ite (fun hf => ?_) ?_
  case refine_1 => exact .okWhen fun _ hne => read _ (hne _ _ (.inl rfl))
  case refine_2.refine_2.refine_1 => exact .okWhen fun _ hne => read _ (hne _ _ (.inr rfl))
  all_goals first
    | with_reducible exact .error
    | with_reducible refine .okWhen fun _ _ => ?_
      exact closed _

end

theorem decodeCache_mem : Answers (fun i => i ∈ relaxedCacheOps (rsField w) (immField w) ∨
    i ∈ privilegedCacheOps (rsField w) (immField w)) (decodeCache w) := by
  unfold decodeCache
  repeat' with_reducible refine Answers.ite (fun hf => ?_) ?_
  all_goals first
    | with_reducible exact .error
    | with_reducible refine .ok ?_
      simp [relaxedCacheOps, privilegedCacheOps]

end

/-- A word whose decoding and rejection both ask for CP0 first ends in coprocessor unusable while CP0 is closed. -/
theorem execWord_cp0_closed {w : BitVec 32} {s : State} (h : s.Cp0Unusable) (hop : opField w = 16#6 ∨ opField w = 47#6)
    (hi : Answers (fun i => exec i s = .next (enterException (.coprocessorUnusable 0#2) s)) (decode w)) :
    execWord w s = .next (enterException (.coprocessorUnusable 0#2) s) :=
  execWord_of_answers hi fun _ => (if_pos hop).trans (withCp0_of_unusable _ h)

/-- CP2 has no instructions: the words of a closed CP2 are rejected as its own. -/
theorem execWord_cp2_closed {w : BitVec 32} {s : State} (h : statusCu2 s.cp0.status = false) (hop : opField w = 18#6) :
    execWord w s = .next (enterException (.coprocessorUnusable 2#2) s) := by
  have hd : decode w = .error .outsideSpec := by simp [decode, hop]
  refine (execWord_of_error s hd).trans ?_
  simp [rejectWord, hop, h, raise]

theorem exec_cacheOp_closed {s : State} {base : RegNum} {offset : BitVec 16} {i : Instr}
    (hi : i ∈ relaxedCacheOps base offset ∨ i ∈ privilegedCacheOps base offset) (h : s.Cp0Unusable)
    (hum : s.cp0.diagnostic.getLsbD 8 = false) :
    exec i s = .next (enterException (.coprocessorUnusable 0#2) s) := by
  obtain ⟨m, hm, hu⟩ := h
  have hclosed (relaxed : Bool) : cacheUsableIn m s.cp0 relaxed = false := by
    rw [cacheUsableIn, hu, Cp0.uMode, hum, Bool.and_false, Bool.or_false]
  rcases hi with hi | hi
  · obtain ⟨k, hk⟩ := exec_relaxedCacheOp s base offset i hi
    exact hk.trans (cacheOp_closed base offset k hm (hclosed true))
  · obtain ⟨k, hk⟩ := exec_privilegedCacheOp s base offset i hi
    exact hk.trans (cacheOp_closed base offset k hm (hclosed false))

/-- Settles O25: usability is asked before the instruction, and before the rejection of a word. -/
theorem coprocessorsClosed : Obligations.CoprocessorsClosed := by
  intro s w unusable
  have closed (n : BitVec 2) (h : execWord w s = .next (enterException (.coprocessorUnusable n) s)) : unusable n :=
    ⟨h, unusable_cause s n⟩
  refine ⟨fun h hop hread hum => closed 0#2 (execWord_cp0_closed h hop ?_),
    fun h hw => closed 1#2 (execWord_cp1_closed (Bool.eq_false_iff.1 h) hw),
    fun h hop => closed 2#2 (execWord_cp2_closed h hop)⟩
  intro i hd
  rcases hop with hop | hop
  · have hd' : decodeCop0 w = .ok i := by simpa [decode, hop] using hd
    refine decodeCop0_closed h i hd' fun rt rd hi => hread rt rd ?_
    rcases hi with rfl | rfl
    exacts [.inl hd, .inr hd]
  · have hd' : decodeCache w = .ok i := by simpa [decode, hop] using hd
    exact exec_cacheOp_closed (decodeCache_mem i hd') h (hum hop)

/-! A step that runs an instruction. -/

theorem step_of_fetch {s u t : State} {w : BitVec 32} {i : Instr} (hb : s.tick.boundary = .run u)
    (hf : u.fetch = .word w t) (hd : decode w = .ok i) : step s = exec i t := by
  simp only [step, hb, runInstr, hf, execWord_of_ok t hd]

theorem Bus.physRead_memory {b : Bus} {pa : Nat} (q n : Nat) (h : b.regionOf pa = .ram ∨ b.regionOf pa = .rom) :
    b.physRead q pa n = .ok (BitVec.ofNat 64 (memRead b.mem pa n)) b := by
  rcases h with h | h <;> simp only [Bus.physRead, h]

/-- An uncached fetch with nothing gathered, no dirty copy and no earlier content delivers the word of memory. -/
theorem Bus.fetchUncached_memory {b : Bus} {pa : PhysAddr} (q : Nat)
    (hr : b.regionOf pa.toNat = .ram ∨ b.regionOf pa.toNat = .rom) (hu : b.uca = none) (hd : b.dirtyCopy pa = none)
    (ho : b.oldLinesUncached pa = []) :
    b.fetchUncached q pa = .ok (BitVec.ofNat 32 (memRead b.mem pa.toNat 4)) b := by
  simp only [Bus.fetchUncached, Bus.drainLine_none hu, BusResult.andThen, Bus.physRead_memory q 4 hr, hd, ho,
    List.getElem?_nil, Option.or_none, Option.map_none, Option.getD_none]
  rw [BitVec.setWidth_ofNat_of_le (by decide)]

/-- The kernel's uncached window. -/
theorem segmentOf_uncached_window {s : State} {pa : PhysAddr} (hpc : s.pc = 0xFFFFFFFFA0000000#64 + pa.setWidth 64)
    (hpa : pa.toNat < 2 ^ 29) : segmentOf .kernel s.cp0.k0 s.pc = .unmapped pa 2#3 := by
  have hn : s.pc.toNat = 2 ^ 64 - 3 * 2 ^ 29 + pa.toNat := by rw [hpc]; bv_omega
  have hseg := segmentOf_ckseg1 .kernel s.cp0.k0 s.pc (by omega) (by omega)
  rw [if_pos rfl, hn, show (2 ^ 64 - 3 * 2 ^ 29 + pa.toNat) % 2 ^ 29 = pa.toNat by omega, BitVec.ofNat_toNat] at hseg
  simpa using hseg

theorem State.fetch_of_ok {s : State} {pa : PhysAddr} {c : BitVec 3} {w : BitVec 32} (hal : s.pc.toNat % 4 = 0)
    (ht : s.translateFetch = .ok pa c s.itlb) (hw : s.bus.fetchWord s.seq c s.pc pa = .ok w s.bus) :
    s.fetch = .word w s := by
  simp only [State.fetch, hal, ht, hw, ne_eq, not_true_eq_false, if_false]

/-- The fetch of a word of memory through the kernel's uncached window. -/
theorem State.fetch_of_window {s : State} {pa : PhysAddr} (hm : modeOf s.cp0.status = some .kernel)
    (hpc : s.pc = 0xFFFFFFFFA0000000#64 + pa.setWidth 64) (hpa : pa.toNat < 2 ^ 29) (hal : s.pc.toNat % 4 = 0)
    (hr : s.bus.regionOf pa.toNat = .ram ∨ s.bus.regionOf pa.toNat = .rom) (hu : s.bus.uca = none)
    (hd : s.bus.dirtyCopy pa = none) (ho : s.bus.oldLinesUncached pa = []) :
    s.fetch = .word (BitVec.ofNat 32 (bytesAt s.bus.mem pa.toNat 4)) s := by
  rw [bytesAt_eq_memRead]
  exact State.fetch_of_ok hal (State.translateFetch_of_unmapped hm (segmentOf_uncached_window hpc hpa))
    (Bus.fetchUncached_memory s.seq hr hu hd ho)

theorem interruptReady_of_disabled {s : State} (h : s.cp0.status.getLsbD 0 = false) : s.interruptReady = false :=
  Bool.eq_false_iff.2 fun hready => by
    obtain ⟨hie, -⟩ := (State.interruptReady_iff (s := s)).1 hready
    exact Bool.false_ne_true (h.symm.trans hie)

/-- With interrupts off and no reset requested the boundary runs an instruction. -/
theorem boundary_of_disabled {s : State} (hcold : s.coldResetRequest = false) (hnmi : s.nmiRequest = false)
    (hsoft : s.softResetRequest = false) (hm : modeOf s.cp0.status ≠ none) (hie : s.cp0.status.getLsbD 0 = false) :
    s.boundary = .run { s with irqWait := none } :=
  (boundary_defined hcold hnmi hsoft hm).trans (sampleInterrupt_idle (interruptReady_of_disabled hie))

/-- Settles O54: the tick keeps what the fetch reads, and the fetch changes nothing. -/
theorem stepRunsDecoded : Obligations.StepRunsDecoded := by
  intro s u t w i
  refine ⟨step_of_fetch, fun pa hcold hnmi hsoft hie hm hpc hpa hal hr hu hd ho hw hdec => ?_⟩
  have hb : s.tick.boundary = .run { s.tick with irqWait := none } :=
    boundary_of_disabled (s := s.tick) hcold hnmi hsoft (hm ▸ Option.some_ne_none _) hie
  have hf : ({ s.tick with irqWait := none } : State).fetch = .word (BitVec.ofNat 32 (bytesAt s.bus.mem pa.toNat 4)) _ :=
    State.fetch_of_window (s := { s.tick with irqWait := none }) hm hpc hpa hal hr hu hd ho
  rw [← hw, BitVec.ofNat_toNat, BitVec.setWidth_eq] at hf
  exact step_of_fetch hb hf hdec

/-! The interrupt controller and the window registers. -/

theorem Bus.regionOf_io (b : Bus) {pa : Nat} (hl : 0x1FE00100 ≤ pa) (hu : pa < 0x1FE00200) : b.regionOf pa = .io := by
  rw [Bus.regionOf, if_neg (by omega), if_neg (by omega), if_pos ⟨hl, hu⟩]

theorem Bus.regionOf_window (b : Bus) {pa : Nat} (hl : 0x3FF00000 ≤ pa) (hu : pa < 0x3FF00180) :
    b.regionOf pa = .window := by
  rw [Bus.regionOf, if_neg (by omega), if_neg (by omega), if_neg (by omega), if_pos ⟨hl, hu⟩]

@[simp] theorem Bus.ioWord_setIoWord (b : Bus) (off : Nat) (v : BitVec 32) : (b.setIoWord off v).ioWord off = v := by
  simp [Bus.ioWord, Bus.setIoWord]

theorem Bus.windowReg_windowWrite (b : Bus) (off : Nat) (v : BitVec 64) : (b.windowWrite off v).windowReg off = v := by
  simp [Bus.windowReg, Bus.windowWrite]

/-- A read of Inten. -/
theorem Bus.physRead_inten (b : Bus) (q : Nat) : b.physRead q 0x1FE00138 4 = .ok ((b.ioWord 0x38).setWidth 64) b := by
  simp only [Bus.physRead, b.regionOf_io (pa := 0x1FE00138) (by decide) (by decide)]
  rw [if_pos (by decide)]
  simp only [Bus.ioRead, Nat.reduceMod, Nat.reduceDiv, Nat.reduceMul, Nat.reduceEqDiff, or_self, if_false, wordGet_setWidth]

theorem Bus.physWrite_intenset (b : Bus) (v : Word) : b.physWrite 0x1FE00130 4 v =
    .ok () (b.setIoWord 0x38 (b.ioWord 0x38 ||| (low32 v &&& 0x7FF#32))) := by
  simp only [Bus.physWrite, b.regionOf_io (pa := 0x1FE00130) (by decide) (by decide)]
  rw [if_pos (by decide)]
  simp only [Bus.ioWrite, Nat.reduceMod, Nat.reduceDiv, Nat.reduceMul, if_true, word32Put_all]

theorem Bus.physWrite_intenclr (b : Bus) (v : Word) : b.physWrite 0x1FE00134 4 v =
    .ok () { b.setIoWord 0x38 (b.ioWord 0x38 &&& ~~~(low32 v)) with
      pulses := b.pulses &&& ~~~((low32 v).setWidth 15) } := by
  simp only [Bus.physWrite, b.regionOf_io (pa := 0x1FE00134) (by decide) (by decide)]
  rw [if_pos (by decide)]
  simp only [Bus.ioWrite, Nat.reduceMod, Nat.reduceDiv, Nat.reduceMul, Nat.reduceEqDiff, if_false, if_true, word32Put_all]

/-- The mask of the eleven steered sources. -/
theorem getLsbD_sourceMask (w n : Nat) : (BitVec.ofNat w 0x7FF).getLsbD n = decide (n < w ∧ n < 11) := by
  rw [BitVec.getLsbD_ofNat, show 0x7FF = 2 ^ 11 - 1 from rfl, Nat.testBit_two_pow_sub_one, Bool.decide_and]

/-- What Intenset adds. -/
theorem setWidth_or_low32 (x : BitVec 32) (v : Word) :
    (x ||| (low32 v &&& 0x7FF#32)).setWidth 64 = x.setWidth 64 ||| (v &&& 0x7FF#64) := by
  refine BitVec.eq_of_getLsbD_eq fun i hi => ?_
  simp only [low32, BitVec.getLsbD_setWidth, BitVec.getLsbD_or, BitVec.getLsbD_and, getLsbD_sourceMask]
  by_cases h : i < 32
  · simp [hi, h]
  · simp [hi, h, show ¬i < 11 by omega]

/-- What Intenclr keeps. -/
theorem setWidth_and_not_low32 (x : BitVec 32) (v : Word) :
    (x &&& ~~~low32 v).setWidth 64 = x.setWidth 64 &&& ~~~v := by
  refine BitVec.eq_of_getLsbD_eq fun i hi => ?_
  simp only [low32, BitVec.getLsbD_setWidth, BitVec.getLsbD_and, BitVec.getLsbD_not]
  by_cases h : i < 32
  · simp [hi, h]
  · simp [h, BitVec.getLsbD_of_ge x i (not_lt.1 h)]

section
variable (b : Bus)

/-- A pin after polarity is active where its level is that of Intpol. -/
theorem getLsbD_activeLevels (lines pol : BitVec 15) {n : Nat} (hn : n < 15) :
    (activeLevels lines pol).getLsbD n = (lines.getLsbD n == pol.getLsbD n) := by
  simp only [activeLevels, BitVec.getLsbD_not, hn, decide_true, Bool.true_and, BitVec.getLsbD_xor]
  cases lines.getLsbD n <;> cases pol.getLsbD n <;> rfl

theorem Bus.extLines_pin {n : Nat} (hn : n < 4) :
    b.extLines.getLsbD (2 + n) = (b.lines.getLsbD (11 + n) == (b.ioWord 0x2C).getLsbD (11 + n)) := by
  have hpol : b.intpol.getLsbD (11 + n) = (b.ioWord 0x2C).getLsbD (11 + n) := by
    simp [Bus.intpol, show 11 + n < 15 by omega]
  rw [← hpol, ← getLsbD_activeLevels _ _ (by omega), Bus.extLines, BitVec.getLsbD_append, BitVec.getLsbD_append]
  simp [hn, show ¬2 + n < 1 by omega, show 2 + n - 1 = n + 1 by omega]

theorem ne_zero_iff_getLsbD {w : Nat} (x : BitVec w) : x ≠ 0#w ↔ ∃ n < w, x.getLsbD n = true := by
  refine ⟨fun h => ?_, fun ⟨n, _, hn⟩ h0 => by simp [h0] at hn⟩
  by_contra hnone
  push Not at hnone
  exact h (BitVec.eq_of_getLsbD_eq fun n hn => by simpa using hnone n hn)

/-- A source enabled by Inten is active. -/
theorem Bus.getLsbD_steered {n : Nat} : (b.activeSources &&& b.inten &&& 0x07FF#15).getLsbD n = true ↔
    n < 11 ∧ (b.ioWord 0x38).getLsbD n = true ∧ b.activeSources.getLsbD n = true := by
  simp only [Bus.inten, BitVec.getLsbD_and, BitVec.getLsbD_setWidth, getLsbD_sourceMask, Bool.and_eq_true,
    decide_eq_true_eq]
  refine ⟨fun ⟨⟨hact, _, hen⟩, _, h⟩ => ⟨h, hen, hact⟩, fun ⟨h, hen, hact⟩ => ⟨⟨hact, by omega, hen⟩, by omega, h⟩⟩

theorem Bus.extLines_steered (line : Bool) : b.extLines.getLsbD (if line then 1 else 0) = true ↔
    ∃ n < 11, (b.ioWord 0x38).getLsbD n = true ∧ (b.ioWord b.intsteerOffset).getLsbD n = line ∧
      b.activeSources.getLsbD n = true := by
  have hsteer {n : Nat} (h : n < 11) : b.intsteer.getLsbD n = (b.ioWord b.intsteerOffset).getLsbD n := by
    simp [Bus.intsteer, show n < 15 by omega]
  cases line with
  | true =>
    have hbit : b.extLines.getLsbD 1 = decide (b.activeSources &&& b.inten &&& 0x07FF#15 &&& b.intsteer ≠ 0#15) := by
      rw [Bus.extLines, BitVec.getLsbD_append, BitVec.getLsbD_append]
      simp
    simp only [if_true, hbit, decide_eq_true_eq, ne_zero_iff_getLsbD, BitVec.getLsbD_and (y := b.intsteer),
      Bool.and_eq_true, b.getLsbD_steered]
    refine exists_congr fun n => ⟨?_, ?_⟩
    · rintro ⟨-, ⟨h, hen, hact⟩, hs⟩
      exact ⟨h, hen, hsteer h ▸ hs, hact⟩
    · rintro ⟨h, hen, hs, hact⟩
      exact ⟨by omega, ⟨h, hen, hact⟩, (hsteer h).trans hs⟩
  | false =>
    have hbit : b.extLines.getLsbD 0 = decide (b.activeSources &&& b.inten &&& 0x07FF#15 &&& ~~~b.intsteer ≠ 0#15) := by
      rw [Bus.extLines, BitVec.getLsbD_append]
      simp
    simp only [Bool.false_eq_true, if_false, hbit, decide_eq_true_eq, ne_zero_iff_getLsbD,
      BitVec.getLsbD_and (y := ~~~b.intsteer), BitVec.getLsbD_not, Bool.and_eq_true, b.getLsbD_steered,
      Bool.not_eq_true', decide_eq_true_eq]
    refine exists_congr fun n => ⟨?_, ?_⟩
    · rintro ⟨-, ⟨h, hen, hact⟩, -, hs⟩
      exact ⟨h, hen, hsteer h ▸ hs, hact⟩
    · rintro ⟨h, hen, hs, hact⟩
      exact ⟨by omega, ⟨h, hen, hact⟩, by omega, (hsteer h).trans hs⟩

end

/-- Settles O60: writes of Intenset, Intenclr and the windows read back, and the six inputs bit by bit. -/
theorem deviceRegisters : Obligations.DeviceRegisters := by
  intro b q v k hk
  refine ⟨⟨_, b.physWrite_intenset v, rfl, rfl, ?set⟩, ⟨_, b.physWrite_intenclr v, rfl, ?pulses, ?clear⟩,
    ⟨b.windowWrite (8 * k) v, ?windowWrite, rfl, ?windowRead⟩, fun n hn => b.extLines_pin hn, b.extLines_steered⟩
  case set => rw [Bus.physRead_inten, Bus.ioWord_setIoWord, setWidth_or_low32]
  case pulses => rw [low32, BitVec.setWidth_setWidth_of_le _ (by decide)]
  case clear =>
    rw [Bus.physRead_inten, ← setWidth_and_not_low32]
    congr 2
    exact Bus.ioWord_setIoWord b 0x38 _
  case windowWrite =>
    simp only [Bus.physWrite, b.regionOf_window (pa := 0x3FF00000 + 8 * k) (by omega) (by omega), if_true]
    rw [Nat.add_sub_cancel_left]
  case windowRead =>
    simp only [Bus.physRead, (b.windowWrite (8 * k) v).regionOf_window (pa := 0x3FF00000 + 8 * k) (by omega) (by omega)]
    rw [Nat.add_sub_cancel_left, Bus.windowReg_windowWrite, show (0x3FF00000 + 8 * k) % 8 = 0 by omega, wordGet_all]

end Sys2Proof.Machine
end

section
/-! Loads and stores that complete, and the uncached ones of memory. -/

namespace Sys2Proof.Machine

/-! An access that succeeds. -/

section
variable {s : State} {base rt : RegNum} {offset : BitVec 16} {n : Nat} {v : Word} {b : Bus} (ha : s.CanAdvance)
include ha

theorem linkedLoad_done {ext : Word → Word} (hr : rt ≠ 0#5)
    (h : loadData s (s.effectiveAddress base offset) n = .ok v b) :
    linkedLoad s base rt offset n ext = .next (State.writeGpr { s with bus := b, llbit := true } rt (ext v)).after := by
  rw [linkedLoad, if_neg hr, h]
  exact finishGpr_of_canAdvance _ _ (ha.congr rfl rfl)

theorem finish_fpr_done {r : MemResult Word} (k : Word → State → State) (h : r = .ok v b)
    (hk : ∀ t : State, (k v t).pc = t.pc ∧ (k v t).delay = t.delay) :
    r.finish s (fun v s' => advance (k v s')) = .next (k v { s with bus := b }).after := by
  rw [h]
  obtain ⟨hpc, hdelay⟩ := hk { s with bus := b }
  exact advance_of_canAdvance (ha.congr hpc hdelay)

end

/-- Settles O15: each load and store is the access with what follows it. -/
theorem accessCompletes : Obligations.AccessCompletes := by
  intro s base rt offset n v b ha va w
  refine ⟨fun h => ⟨fun hr => ⟨?byte, ?half, ?word, ?double⟩, fun hu => ⟨?fpWord, ?fpDouble⟩⟩,
    fun h => ⟨?sb, ?sh, ?sw, ?sd⟩, fun hu => ⟨?swc1, ?sdc1⟩⟩
  case byte => rintro rfl; exact ⟨loadGpr_done hr ha h, loadGpr_done hr ha h⟩
  case half => rintro rfl; exact ⟨loadGpr_done hr ha h, loadGpr_done hr ha h⟩
  case word => rintro rfl; exact ⟨loadGpr_done hr ha h, loadGpr_done hr ha h, linkedLoad_done ha hr h⟩
  case double => rintro rfl; exact ⟨loadGpr_done hr ha h, linkedLoad_done ha hr h⟩
  case fpWord =>
    rintro rfl
    exact (withCp1_of_usable _ hu).trans
      (finish_fpr_done ha (fun v t => t.writeFpr32 rt (low32 v)) h fun t => by simp)
  case fpDouble =>
    rintro rfl hok
    exact (withCp1_of_usable _ hu).trans ((withFpr64_of_ok _ (by simp [hok])).trans
      (finish_fpr_done ha (fun v t => t.writeFpr rt v) h fun t => by simp))
  case sb => rintro rfl; exact storeWord_done ha h
  case sh => rintro rfl; exact storeWord_done ha h
  case sw => rintro rfl; exact storeWord_done ha h
  case sd => rintro rfl; exact storeWord_done ha h
  case swc1 => rintro rfl h; exact (withCp1_of_usable _ hu).trans (storeWord_done ha h)
  case sdc1 =>
    rintro rfl hok h
    exact (withCp1_of_usable _ hu).trans ((withFpr64_of_ok _ (by simp [hok])).trans (storeWord_done ha h))

/-! Uncached accesses of memory. -/

/-- What a store writes: memory with its bytes replaced. -/
theorem stored_memWrite (m : Memory) (a n v : Nat) : Stored m (memWrite m a n v) a n v := memByte_memWrite m a n v

theorem Bus.dataRead_uncached {c : BitVec 3} (h : attrOf c = .uncached) (b : Bus) (q : Nat) (va : Word) (pa : PhysAddr)
    (n : Nat) : b.dataRead q c va pa n = b.uncachedRead q pa n := by
  simp only [Bus.dataRead, h]

theorem Bus.dataWrite_uncached {c : BitVec 3} (h : attrOf c = .uncached) {b : Bus} (hu : b.uca = none) (q : Nat)
    (va : Word) (pa : PhysAddr) (n : Nat) (v : Word) : b.dataWrite q c va pa n v = b.uncachedWrite q pa n v := by
  simp only [Bus.dataWrite, h, Bus.drain, hu, BusResult.andThen]

section
variable {s : State} {va : Word} {pa : PhysAddr} {n : Nat}

theorem loadData_ram (h : s.ReachesRam false va pa) (hal : va.toNat % n = 0) :
    loadData s va n = .ok (BitVec.ofNat 64 (bytesAt s.bus.mem pa.toNat n)) (s.bus.usedUncached pa) := by
  obtain ⟨⟨c, ht, hc⟩, hw, hr, hu, hd, hh⟩ := h
  rw [bytesAt_eq_memRead, loadData, dataAccess_translated s false n va _ pa c hal ht hw, Bus.dataRead_uncached hc,
    Bus.uncachedRead_ram _ _ _ hu hr (Bus.dirtyCopy_uncached hd) hh, BusResult.toMem_ok]

theorem storeData_ram (h : s.ReachesRam true va pa) (hal : va.toNat % n = 0) (v : Word) :
    storeData s va n v = .ok ()
      ((s.storedUncached pa n v).withMem (memWrite s.bus.mem pa.toNat n v.toNat)).bus := by
  obtain ⟨⟨c, ht, hc⟩, hw, hr, hu, hd, -⟩ := h
  rw [storeData, dataAccess_translated s true n va _ pa c hal ht hw, Bus.dataWrite_uncached hc hu,
    Bus.uncachedWrite_ram _ _ _ _ hr hd, BusResult.toMem_ok]
  rfl

end

/-- The sign extension of the low bits of a number. -/
theorem signExtend_ofNat {w : Nat} (k : Nat) (hw : w ≤ 64) :
    ((BitVec.ofNat 64 k).setWidth w).signExtend 64 = BitVec.ofInt 64 (Int.bmod k (2 ^ w)) := by
  rw [BitVec.setWidth_ofNat_of_le hw, BitVec.signExtend, BitVec.toInt_eq_toNat_bmod, BitVec.toNat_ofNat,
    Int.natCast_emod, Int.emod_bmod]

/-- Settles O16: the access delivers the bytes of memory, and the load completes with them. -/
theorem uncachedLoads : Obligations.UncachedLoads := by
  intro s base rt offset pa ha va h u got signed unsigned
  have done (n : Nat) (hal : va.toNat % n = 0) :=
    (accessCompletes s base rt offset n _ _ ha).1 (loadData_ram (n := n) h hal)
  have gpr (n : Nat) (hr : rt ≠ 0#5) (hal : va.toNat % n = 0) := (done n hal).1 hr
  have fpr (n : Nat) (hu : s.Cp1Usable) (hal : va.toNat % n = 0) := (done n hal).2 hu
  have sext (n : Nat) (hn : 8 * n ≤ 64) : ((BitVec.ofNat 64 (got n)).setWidth (8 * n)).signExtend 64 =
      BitVec.ofInt 64 (Int.bmod (got n) (256 ^ n)) := by
    rw [signExtend_ofNat _ hn, pow_mul]
    rfl
  have low (k : Nat) : (BitVec.ofNat 64 k).setWidth 32 = BitVec.ofNat 32 k := BitVec.setWidth_ofNat_of_le (by decide) k
  refine ⟨fun hr hal => ?lb, fun hr hal => ?lbu, fun hr hal => ?lh, fun hr hal => ?lhu, fun hr hal => ?lw,
    fun hr hal => ?lwu, fun hr hal => ?ld, fun hr hal => ?ll, fun hr hal => ?lld,
    fun hu => ⟨fun hal => ?lwc1, fun hal hok => ?ldc1⟩⟩
  case lb =>
    obtain ⟨byte, -⟩ := gpr 1 hr hal
    exact sext 1 (by decide) ▸ (byte rfl).1
  case lbu =>
    obtain ⟨byte, -⟩ := gpr 1 hr hal
    exact (byte rfl).2
  case lh =>
    obtain ⟨-, half, -⟩ := gpr 2 hr hal
    exact sext 2 (by decide) ▸ (half rfl).1
  case lhu =>
    obtain ⟨-, half, -⟩ := gpr 2 hr hal
    exact (half rfl).2
  case lw =>
    obtain ⟨-, -, word, -⟩ := gpr 4 hr hal
    obtain ⟨lw, -⟩ := word rfl
    exact sext 4 (by decide) ▸ lw
  case lwu =>
    obtain ⟨-, -, word, -⟩ := gpr 4 hr hal
    obtain ⟨-, lwu, -⟩ := word rfl
    exact lwu
  case ld =>
    obtain ⟨-, -, -, double⟩ := gpr 8 hr hal
    exact (double rfl).1
  case ll =>
    obtain ⟨-, -, word, -⟩ := gpr 4 hr hal
    obtain ⟨-, -, ll⟩ := word rfl
    exact sext 4 (by decide) ▸ ll
  case lld =>
    obtain ⟨-, -, -, double⟩ := gpr 8 hr hal
    exact (double rfl).2
  case lwc1 => exact low (got 4) ▸ (fpr 4 hu hal).1 rfl
  case ldc1 => exact (fpr 8 hu hal).2 rfl hok

/-- Settles O21: the access puts the bytes in memory, and the store completes with it. -/
theorem uncachedStores : Obligations.UncachedStores := by
  intro s base rt offset pa ha va h stores v
  have done (n : Nat) (w : Word) {i : Instr} (hal : va.toNat % n = 0)
      (hi : exec i s =
        .next (s.withBus ((s.storedUncached pa n w).withMem (memWrite s.bus.mem pa.toNat n w.toNat)).bus).after) :
      ∃ m, Stored s.bus.mem m pa.toNat n w.toNat ∧
        exec i s = .next ((s.storedUncached pa n (BitVec.ofNat 64 w.toNat)).withMem m).after := by
    rw [BitVec.ofNat_toNat, BitVec.setWidth_eq]
    exact ⟨_, stored_memWrite _ _ _ _, hi⟩
  have gpr (n : Nat) (hal : va.toNat % n = 0) :=
    (accessCompletes s base rt offset n 0 _ ha).2.1 (storeData_ram h hal (s.readGpr rt))
  refine ⟨fun hal => ?sb, fun hal => ?sh, fun hal => ?sw, fun hal => ?sd, fun hu => ⟨fun hal => ?swc1, fun hok hal => ?sdc1⟩⟩
  case sb =>
    obtain ⟨byte, -⟩ := gpr 1 hal
    exact done 1 _ hal (byte rfl)
  case sh =>
    obtain ⟨-, half, -⟩ := gpr 2 hal
    exact done 2 _ hal (half rfl)
  case sw =>
    obtain ⟨-, -, word, -⟩ := gpr 4 hal
    exact done 4 _ hal (word rfl)
  case sd =>
    obtain ⟨-, -, -, double⟩ := gpr 8 hal
    exact done 8 _ hal (double rfl)
  case swc1 =>
    obtain ⟨word, -⟩ := (accessCompletes s base rt offset 4 0 _ ha).2.2 hu
    have hnat : ((s.readFpr32 rt).setWidth 64).toNat = (s.readFpr32 rt).toNat := BitVec.toNat_setWidth_of_le (by decide)
    exact hnat ▸ done 4 _ hal (word rfl (storeData_ram h hal _))
  case sdc1 =>
    obtain ⟨-, double⟩ := (accessCompletes s base rt offset 8 0 _ ha).2.2 hu
    exact done 8 _ hal (double rfl hok (storeData_ram h hal _))

/-! Conditional stores. -/

section
variable {s : State} {base rt : RegNum} {offset : BitVec 16} {n : Nat} {b : Bus} (ha : s.CanAdvance)
  (h : dataAccess s true n (s.effectiveAddress base offset) (fun pa c =>
    if s.llbit then s.bus.dataWrite s.seq c (s.effectiveAddress base offset) pa n (s.readGpr rt) else .ok () s.bus) =
      .ok () b)
include ha h

theorem conditionalStore_done : conditionalStore s base rt offset n =
    .next (State.writeGpr { s with bus := b, llbit := false } rt (if s.llbit then 1#64 else 0#64)).after := by
  unfold conditionalStore
  simp only [h, MemResult.finish_ok]
  exact finishGpr_of_canAdvance _ _ (ha.congr rfl rfl)

end

/-- Settles O22: the store happens only with LLbit set. -/
theorem conditionalStores : Obligations.ConditionalStores := by
  intro s base rt offset pa ha va h
  have done (n : Nat) (hal : va.toNat % n = 0) :
      (s.llbit = true → ∃ m, Stored s.bus.mem m pa.toNat n (s.readGpr rt).toNat ∧
        conditionalStore s base rt offset n = .next (State.writeGpr
          { (s.storedUncached pa n (s.readGpr rt)).withMem m with llbit := false } rt 1#64).after) ∧
        (s.llbit = false → conditionalStore s base rt offset n = .next (s.writeGpr rt 0#64).after) := by
    obtain ⟨⟨c, ht, hc⟩, hw, hr, hu, hd, -⟩ := h
    have haccess (k : PhysAddr → BitVec 3 → BusResult Unit) : dataAccess s true n va k = (k pa c).toMem :=
      dataAccess_translated s true n va k pa c hal ht hw
    refine ⟨fun hl => ⟨memWrite s.bus.mem pa.toNat n (s.readGpr rt).toNat, stored_memWrite _ _ _ _, ?set⟩, fun hl => ?clear⟩
    case set =>
      rw [conditionalStore_done ha ((haccess _).trans (by
        rw [if_pos hl, Bus.dataWrite_uncached hc hu, Bus.uncachedWrite_ram _ _ _ _ hr hd, BusResult.toMem_ok])), if_pos hl]
      rfl
    case clear =>
      have hs : ({ s with bus := s.bus, llbit := false } : State) = s := by rw [← hl]
      have hfail : ¬s.llbit = true := Bool.eq_false_iff.1 hl
      rw [conditionalStore_done ha ((haccess _).trans (by rw [if_neg hfail, BusResult.toMem_ok])), if_neg hfail, hs]
  simp only [List.forall_mem_cons, List.not_mem_nil, false_imp_iff, implies_true, and_true]
  exact ⟨done 4, done 8⟩

end Sys2Proof.Machine
end

section
/-! The caches: the slots an address names, what the flushes do to the lines, and the CACHE operations. -/

namespace Sys2Proof.Machine

/-! The fields of an address. -/

theorem toNat_primarySet (va : Word) : primarySet va = va.toNat / 32 % 512 := by
  simp [primarySet, BitVec.extractLsb'_toNat, Nat.shiftRight_eq_div_pow]

theorem toNat_secondarySet (pa : PhysAddr) : secondarySet pa = pa.toNat / 32 % 4096 := by
  simp [secondarySet, BitVec.extractLsb'_toNat, Nat.shiftRight_eq_div_pow]

theorem toNat_lineOffset (pa : PhysAddr) : lineOffset pa = pa.toNat % 32 := by
  simp [lineOffset, BitVec.extractLsb'_toNat]

theorem toNat_primaryIndex (va : Word) : primaryIndex va = va.toNat / 32 % 512 * 4 + va.toNat % 4 := by
  simp [primaryIndex, toNat_primarySet, BitVec.extractLsb'_toNat]

theorem toNat_secondaryIndex (pa : PhysAddr) : secondaryIndex pa = pa.toNat / 32 % 4096 * 4 + pa.toNat % 4 := by
  simp [secondaryIndex, toNat_secondarySet, BitVec.extractLsb'_toNat]

theorem toNat_doublewordOffset (a : Word) : doublewordOffset a = a.toNat / 8 % 4 * 8 := by
  simp [doublewordOffset, BitVec.extractLsb'_toNat, Nat.shiftRight_eq_div_pow]

/-! Doublewords of a line. -/

theorem lineGet_doubleword (d : Line) (w : Nat) : lineGet d (w * 8) 8 = d.extractLsb' (64 * w) 64 := by
  refine BitVec.eq_of_getLsbD_eq fun i hi => ?_
  rw [getLsbD_lineGet, BitVec.getLsbD_extractLsb', show 8 * (w * 8) = 64 * w by omega]
  simp [hi]

theorem extractLsb'_linePut_doubleword (d : Line) {w n : Nat} (v : Word) (hn : n < 4) :
    (linePut d (w * 8) 8 v).extractLsb' (64 * n) 64 = if n = w then v else d.extractLsb' (64 * n) 64 := by
  refine BitVec.eq_of_getLsbD_eq fun i hi => ?_
  rw [BitVec.getLsbD_extractLsb', getLsbD_linePut _ _ (by decide) (by omega)]
  by_cases h : n = w
  · rw [if_pos h, if_pos (by omega), show 64 * n + i - 8 * (w * 8) = i by omega]
    simp [hi]
  · rw [if_neg h, if_neg (by omega), BitVec.getLsbD_extractLsb']

/-! The tag and data operations. -/

section
variable {s : State} {base : RegNum} {offset : BitVec 16} {pa : PhysAddr}

theorem cacheOp_of_reaches {relaxed : Bool} (h : s.CacheReaches base offset relaxed pa) (k : Word → PhysAddr → Outcome) :
    cacheOp s base offset relaxed k = k (s.readGpr base + offset.signExtend 64) pa := by
  obtain ⟨⟨m, hm, hu⟩, ht⟩ := h
  exact cacheOp_done k hm hu ht

end

theorem finishBus_done {s : State} (ha : s.CanAdvance) (b : Bus) : finishBus s b = .next (s.withBus b).after :=
  advance_of_canAdvance (s := s.withBus b) (ha.congr rfl rfl)

/-- A completion that replaces one line of the data cache. -/
theorem finishBus_setDLine {s : State} {o : Outcome} {k : Nat} {l : DLine} (ha : s.CanAdvance)
    (h : o = finishBus s (s.bus.setDLine k l)) : (s.bus.setDLine k l).dLine k = l ∧
      (∀ n, n ≠ k → (s.bus.setDLine k l).dLine n = s.bus.dLine n) ∧
      { s.bus.setDLine k l with dcache := s.bus.dcache } = s.bus ∧ o = .next (s.withBus (s.bus.setDLine k l)).after :=
  ⟨by simp, fun n hn => by simp [hn], rfl, h.trans (finishBus_done ha _)⟩

/-- A completion that replaces one line of the secondary cache. -/
theorem finishBus_setSLine {s : State} {o : Outcome} {j : Nat} {l : SLine} (ha : s.CanAdvance)
    (h : o = finishBus s (s.bus.setSLine j l)) : (s.bus.setSLine j l).sLine j = l ∧
      (∀ n, n ≠ j → (s.bus.setSLine j l).sLine n = s.bus.sLine n) ∧
      { s.bus.setSLine j l with scache := s.bus.scache } = s.bus ∧ o = .next (s.withBus (s.bus.setSLine j l)).after :=
  ⟨by simp, fun n hn => by simp [hn], rfl, h.trans (finishBus_done ha _)⟩

theorem advance_setTags {s : State} (ha : s.CanAdvance) (v : Word) : advance (s.setTags v) =
    .next { s.after with cp0 := { s.cp0 with tagLo := low32 v, tagHi := v.extractLsb' 32 32 } } :=
  advance_of_canAdvance (s := s.setTags v) (ha.congr rfl rfl)

theorem low32_append (hi lo : BitVec 32) : low32 (hi ++ lo) = lo := BitVec.setWidth_append_eq_right

theorem high32_append (hi lo : BitVec 32) : (hi ++ lo : Word).extractLsb' 32 32 = hi := BitVec.extractLsb'_append_eq_left

theorem high32_append_low32 (v : Word) : v.extractLsb' 32 32 ++ low32 v = v := by
  rw [low32, BitVec.setWidth_eq_extractLsb' (by decide)]
  exact BitVec.extractLsb'_append_extractLsb' (w := 32) (len := 32)

section
open BitVec

/-- The fields Index Load Tag (D) delivers. -/
theorem tagD_fields (ptag : BitVec 28) (cs scway : BitVec 2) (m : BitVec 3) :
    let x : BitVec 32 := ptag.extractLsb' 0 24 ++ cs ++ scway ++ 0#4
    let y : BitVec 32 := m ++ 0#25 ++ ptag.extractLsb' 24 4
    x.extractLsb' 4 2 = scway ∧ x.extractLsb' 6 2 = cs ∧ y.extractLsb' 0 4 ++ x.extractLsb' 8 24 = ptag ∧
      x.extractLsb' 0 4 = 0#4 ∧ y.extractLsb' 4 25 = 0#25 := by
  refine ⟨?way, ?state, ?tag, ?zeroLo, ?zeroHi⟩
  case way =>
    rw [extractLsb'_append_eq_of_le (by decide), extractLsb'_append_eq_of_add_le (by decide), extractLsb'_eq_self]
  case state =>
    rw [extractLsb'_append_eq_of_le (by decide), extractLsb'_append_eq_of_le (by decide),
      extractLsb'_append_eq_of_add_le (by decide), extractLsb'_eq_self]
  case tag =>
    rw [extractLsb'_append_eq_of_add_le (by decide), extractLsb'_append_eq_of_le (by decide),
      extractLsb'_append_eq_of_le (by decide), extractLsb'_append_eq_of_le (by decide), extractLsb'_eq_self,
      extractLsb'_eq_self]
    exact extractLsb'_append_extractLsb' (w := 4) (len := 24)
  case zeroLo => rw [extractLsb'_append_eq_of_add_le (by decide), extractLsb'_eq_self]
  case zeroHi =>
    rw [extractLsb'_append_eq_of_le (by decide), extractLsb'_append_eq_of_add_le (by decide), extractLsb'_eq_self]

/-- The fields Index Load Tag (S) delivers. -/
theorem tagS_fields (tag : BitVec 23) (state : BitVec 2) :
    let x : BitVec 32 := tag.extractLsb' 0 19 ++ 0#1 ++ state ++ 0#10
    let y : BitVec 32 := 0#28 ++ tag.extractLsb' 19 4
    x.extractLsb' 10 2 = state ∧ y.extractLsb' 0 4 ++ x.extractLsb' 13 19 = tag ∧ x.extractLsb' 0 10 = 0#10 ∧
      x.getLsbD 12 = false ∧ y.extractLsb' 4 28 = 0#28 := by
  refine ⟨?state, ?tag, ?zeroLo, ?gap, ?zeroHi⟩
  case state =>
    rw [extractLsb'_append_eq_of_le (by decide), extractLsb'_append_eq_of_add_le (by decide), extractLsb'_eq_self]
  case tag =>
    rw [extractLsb'_append_eq_of_add_le (by decide), extractLsb'_append_eq_of_le (by decide),
      extractLsb'_append_eq_of_le (by decide), extractLsb'_append_eq_of_le (by decide), extractLsb'_eq_self,
      extractLsb'_eq_self]
    exact extractLsb'_append_extractLsb' (w := 4) (len := 19)
  case zeroLo => rw [extractLsb'_append_eq_of_add_le (by decide), extractLsb'_eq_self]
  case gap => rw [getLsbD_append, getLsbD_append, getLsbD_append]; rfl
  case zeroHi => rw [extractLsb'_append_eq_of_le (by decide), extractLsb'_eq_self]

end

/-- Settles O43: each operation reads or writes the fields of the one line its index names. -/
theorem cacheTagsAndData : Obligations.CacheTagsAndData := by
  intro s base offset pa h ha va k j dw sw d l lo hi loads storesD storesS put
  have hk : primaryIndex va = k := toNat_primaryIndex va
  have hj : secondaryIndex pa = j := toNat_secondaryIndex pa
  have hdw : doublewordOffset va = dw * 8 := toNat_doublewordOffset va
  have hsw : doublewordOffset (pa.setWidth 64) = sw * 8 := by
    rw [toNat_doublewordOffset, BitVec.toNat_setWidth_of_le (by decide)]
  have run (f : Word → PhysAddr → Outcome) : cacheOp s base offset false f = f va pa := cacheOp_of_reaches h f
  have loadsWord {i : Instr} {p : BitVec 32 → BitVec 32 → Prop} (v : Word) (hexec : exec i s = advance (s.setTags v))
      (hp : p (low32 v) (v.extractLsb' 32 32)) : loads i p := ⟨_, _, hp, hexec.trans (advance_setTags ha v)⟩
  have putDoubleword (old : Line) (w : Nat) : put old (linePut old (w * 8) 8 (hi ++ lo)) w :=
    fun n hn => extractLsb'_linePut_doubleword old (hi ++ lo) hn
  refine ⟨?loadTagD, ?loadTagS, ?loadDataD, ?loadDataS, ?storeTagD, ?storeTagS, ?storeDataD, ?storeDataS⟩
  case loadTagD =>
    refine loadsWord _ (show execCacheIndexLoadTagD base offset s = _ from run _) ?_
    rw [hk, low32_append, high32_append]
    exact tagD_fields _ _ _ _
  case loadTagS =>
    refine loadsWord _ (show execCacheIndexLoadTagS base offset s = _ from run _) ?_
    rw [hj, low32_append, high32_append]
    exact tagS_fields _ _
  case loadDataD =>
    refine loadsWord _ (show execCacheIndexLoadDataD base offset s = _ from run _) ?_
    rw [hk, hdw, lineGet_doubleword]
    exact high32_append_low32 _
  case loadDataS =>
    refine loadsWord _ (show execCacheIndexLoadDataS base offset s = _ from run _) ?_
    rw [hj, hsw, lineGet_doubleword]
    exact high32_append_low32 _
  case storeTagD =>
    have hexec : execCacheIndexStoreTagD base offset s = _ := run _
    rw [hk] at hexec
    obtain ⟨hn, hrest⟩ := finishBus_setDLine ha hexec
    exact ⟨_, hn, hrest⟩
  case storeTagS =>
    have hexec : execCacheIndexStoreTagS base offset s = _ := run _
    rw [hj] at hexec
    obtain ⟨hn, hrest⟩ := finishBus_setSLine ha hexec
    exact ⟨_, hn, hrest⟩
  case storeDataD =>
    have hexec : execCacheIndexStoreDataD base offset s = _ := run _
    rw [hk, hdw] at hexec
    obtain ⟨hn, hrest⟩ := finishBus_setDLine ha hexec
    refine ⟨_, ?_, hrest⟩
    rw [hn]
    exact ⟨putDoubleword _ _, rfl⟩
  case storeDataS =>
    have hexec : execCacheIndexStoreDataS base offset s = _ := run _
    rw [hj, hsw] at hexec
    obtain ⟨hn, hrest⟩ := finishBus_setSLine ha hexec
    refine ⟨_, ?_, hrest⟩
    rw [hn]
    exact ⟨putDoubleword _ _, rfl⟩

end Sys2Proof.Machine
end

section
/-! What the invalidations and the flushes do to the lines, and the CACHE operations that use them. -/

namespace Sys2Proof.Machine

/-! The slots of a line and of a set. -/

theorem mem_primarySlots {pa : PhysAddr} {k : Nat} :
    k ∈ primarySlots pa ↔ k < 2048 ∧ k / 4 % 128 = pa.toNat / 32 % 128 := by
  have hlow : (pa.extractLsb' 5 7).toNat = pa.toNat / 32 % 128 := by
    simp [BitVec.extractLsb'_toNat, Nat.shiftRight_eq_div_pow]
  simp only [primarySlots, coloursOf, hlow, List.flatMap_cons, List.flatMap_nil, List.mem_append, List.mem_cons,
    List.not_mem_nil, or_false]
  omega

theorem primarySlots_nodup (pa : PhysAddr) : (primarySlots pa).Nodup := by
  simp [primarySlots, coloursOf]
  omega

section
variable {b : Bus}

theorem Bus.dHolds_iff {tag : BitVec 28} {k : Nat} :
    b.dHolds tag k = true ↔ (b.dLine k).cs ≠ 0#2 ∧ (b.dLine k).ptag = tag := by simp [Bus.dHolds]

theorem Bus.iHolds_iff {tag : BitVec 28} {k : Nat} :
    b.iHolds tag k = true ↔ (b.iLine k).v = true ∧ (b.iLine k).ptag = tag := by simp [Bus.iHolds]

theorem Bus.sHolds_iff {tag : BitVec 23} {k : Nat} :
    b.sHolds tag k = true ↔ (b.sLine k).state ≠ 0#2 ∧ (b.sLine k).tag = tag := by simp [Bus.sHolds]

theorem Bus.mem_dCopies {pa : PhysAddr} {k : Nat} : k ∈ b.dCopies pa ↔ k ∈ primarySlots pa ∧
    (b.dLine k).cs ≠ 0#2 ∧ (b.dLine k).ptag = primaryTag pa := by
  rw [Bus.dCopies, List.mem_filter, Bus.dHolds_iff]

end

/-- The ways of a set that hold something. -/
theorem mem_filter_ways {set k : Nat} {holds : Nat → Bool} :
    k ∈ [set * 4, set * 4 + 1, set * 4 + 2, set * 4 + 3].filter holds ↔ k / 4 = set ∧ holds k = true := by
  rw [List.mem_filter]
  refine and_congr_left fun _ => ?_
  simp only [List.mem_cons, List.not_mem_nil, or_false]
  omega

theorem eq_singleton_of_nodup {l : List Nat} {n : Nat} (hnodup : l.Nodup) (h : ∀ k, k ∈ l ↔ k = n) : l = [n] := by
  refine List.perm_singleton.1 ((List.perm_ext_iff_of_nodup hnodup (List.nodup_singleton n)).2 fun k => ?_)
  rw [h, List.mem_singleton]

theorem lookupSet_eq_miss {set : Nat} {holds : Nat → Bool} :
    lookupSet set holds = .miss ↔ [set * 4, set * 4 + 1, set * 4 + 2, set * 4 + 3].filter holds = [] := by
  unfold lookupSet
  split
  case h_1 h => simp only [h]
  case h_2 h => simp only [h, reduceCtorEq]
  case h_3 h _ => exact iff_of_false nofun h

theorem lookupSet_eq_hit {set n : Nat} {holds : Nat → Bool} :
    lookupSet set holds = .hit n ↔ [set * 4, set * 4 + 1, set * 4 + 2, set * 4 + 3].filter holds = [n] := by
  unfold lookupSet
  split
  case h_1 h => simp only [h, reduceCtorEq, List.nil_eq, List.cons_ne_nil]
  case h_2 k h => rw [h, List.singleton_inj, Lookup.hit.injEq]
  case h_3 h => exact iff_of_false nofun (h n)

theorem lookupSet_miss_iff {set : Nat} {holds : Nat → Bool} :
    lookupSet set holds = .miss ↔ ∀ k, k / 4 = set → holds k = false := by
  rw [lookupSet_eq_miss, List.eq_nil_iff_forall_not_mem]
  refine forall_congr' fun k => ?_
  rw [mem_filter_ways, not_and, Bool.not_eq_true]

theorem lookupSet_hit_iff {set n : Nat} {holds : Nat → Bool} : lookupSet set holds = .hit n ↔
    n / 4 = set ∧ holds n = true ∧ ∀ k, k / 4 = set → holds k = true → k = n := by
  have hnodup : ([set * 4, set * 4 + 1, set * 4 + 2, set * 4 + 3].filter holds).Nodup :=
    List.Nodup.filter _ (by simp)
  rw [lookupSet_eq_hit]
  refine ⟨fun h => ?_, fun ⟨hset, hn, honly⟩ => ?_⟩
  · have hmem (k : Nat) : k / 4 = set ∧ holds k = true ↔ k = n := by rw [← mem_filter_ways, h, List.mem_singleton]
    obtain ⟨hset, hn⟩ := (hmem n).2 rfl
    exact ⟨hset, hn, fun k hk hh => (hmem k).1 ⟨hk, hh⟩⟩
  · refine eq_singleton_of_nodup hnodup fun k => ?_
    rw [mem_filter_ways]
    exact ⟨fun ⟨hk, hh⟩ => honly k hk hh, fun hk => hk ▸ ⟨hset, hn⟩⟩

/-! Invalidating a list of data-cache slots. -/

section
variable (b : Bus) (ks : List Nat)

@[simp] theorem Bus.invalidateD_dLine (k n : Nat) :
    (b.invalidateD k).dLine n = if n = k then { b.dLine n with cs := 0#2 } else b.dLine n := by
  by_cases h : n = k <;> simp [Bus.invalidateD, h]

theorem Bus.invalidateAllD_dLine (n : Nat) : (ks.foldl Bus.invalidateD b).dLine n =
    if n ∈ ks then { b.dLine n with cs := 0#2 } else b.dLine n := by
  induction ks generalizing b with
  | nil => simp
  | cons k ks ih =>
    rw [List.foldl_cons, ih]
    by_cases h : n = k <;> simp [h]

theorem Bus.invalidateAllD_frame : ∃ d, ks.foldl Bus.invalidateD b = { b with dcache := d } := by
  induction ks generalizing b with
  | nil => exact ⟨b.dcache, rfl⟩
  | cons k ks ih => exact ih (b.invalidateD k)

theorem Bus.invalidateAllD_sLine (n : Nat) : (ks.foldl Bus.invalidateD b).sLine n = b.sLine n := by
  obtain ⟨d, h⟩ := b.invalidateAllD_frame ks
  rw [h]
  rfl

theorem Bus.invalidateAllD_iLine (n : Nat) : (ks.foldl Bus.invalidateD b).iLine n = b.iLine n := by
  obtain ⟨d, h⟩ := b.invalidateAllD_frame ks
  rw [h]
  rfl

end

theorem Bus.invalidateI_frame (b : Bus) (pa : PhysAddr) : ∃ i, b.invalidateI pa = { b with icache := i } := ⟨_, rfl⟩

/-! Dropping the secondary lines of an address with their primary copies. -/

section
variable (b : Bus) (pa : PhysAddr)

/-- Nothing but the caches changes. -/
theorem Bus.dropS_frame (j : Nat) : ∃ i d c, b.dropS pa j = { b with icache := i, dcache := d, scache := c } := by
  obtain ⟨i, hi⟩ := b.invalidateI_frame pa
  obtain ⟨d, hd⟩ := (b.invalidateI pa).invalidateAllD_frame (b.dCopies pa)
  have hfold : (b.dCopies pa).foldl Bus.invalidateD (b.invalidateI pa) = { b with icache := i, dcache := d } := by
    rw [hd, hi]
  exact ⟨i, d, _, congrArg (fun c : Bus => c.setSLine j { c.sLine j with state := 0#2 }) hfold⟩

theorem Bus.dropS_dLine (j n : Nat) : (b.dropS pa j).dLine n =
    if n ∈ b.dCopies pa then { b.dLine n with cs := 0#2 } else b.dLine n := by
  have h := (b.invalidateI pa).invalidateAllD_dLine (b.dCopies pa) n
  rwa [Bus.invalidateI_dLine] at h

theorem Bus.dropS_sLine (j n : Nat) :
    (b.dropS pa j).sLine n = if n = j then { b.sLine n with state := 0#2 } else b.sLine n := by
  refine (Bus.setSLine_sLine _ j n _).trans ?_
  rw [show (fun (b : Bus) k => b.invalidateD k) = Bus.invalidateD from rfl, Bus.invalidateAllD_sLine,
    Bus.invalidateAllD_sLine, Bus.invalidateI_sLine, Bus.invalidateI_sLine]
  by_cases h : n = j <;> simp [h]

theorem Bus.dropS_iLine (j n : Nat) : (b.dropS pa j).iLine n =
    if n ∈ primarySlots pa ∧ b.iHolds (primaryTag pa) n = true then { b.iLine n with v := false } else b.iLine n := by
  refine (Bus.setSLine_iLine _ j n _).trans ?_
  rw [show (fun (b : Bus) k => b.invalidateD k) = Bus.invalidateD from rfl, Bus.invalidateAllD_iLine,
    Bus.invalidateI_iLine]

/-- A dropped line has no primary copies. -/
theorem Bus.dropS_dCopies (j : Nat) : (b.dropS pa j).dCopies pa = [] := by
  refine List.eq_nil_iff_forall_not_mem.2 fun n hn => ?_
  rw [Bus.mem_dCopies, Bus.dropS_dLine] at hn
  obtain ⟨hslot, hcs, htag⟩ := hn
  by_cases h : n ∈ b.dCopies pa
  · simp [h] at hcs
  · rw [if_neg h] at hcs htag
    exact h (Bus.mem_dCopies.2 ⟨hslot, hcs, htag⟩)

theorem Bus.dropS_iHolds (j n : Nat) (hn : n ∈ primarySlots pa) : (b.dropS pa j).iHolds (primaryTag pa) n = false := by
  rw [← Bool.not_eq_true, Bus.iHolds_iff, Bus.dropS_iLine]
  by_cases h : b.iHolds (primaryTag pa) n = true
  · simp [hn, h]
  · rw [if_neg (fun hh => h hh.2), ← Bus.iHolds_iff]
    exact h

end

section
variable (b : Bus) (pa : PhysAddr) (js : List Nat)

/-- Drop each of a list of secondary slots. -/
def Bus.dropAllS : Bus := js.foldl (fun b j => b.dropS pa j) b

theorem Bus.dropAllS_cons (j : Nat) : b.dropAllS pa (j :: js) = (b.dropS pa j).dropAllS pa js := rfl

theorem Bus.dropAllS_frame : ∃ i d c, b.dropAllS pa js = { b with icache := i, dcache := d, scache := c } := by
  induction js generalizing b with
  | nil => exact ⟨b.icache, b.dcache, b.scache, rfl⟩
  | cons j js ih =>
    obtain ⟨i, d, c, hrest⟩ := ih (b.dropS pa j)
    obtain ⟨i', d', c', hj⟩ := b.dropS_frame pa j
    refine ⟨i, d, c, ?_⟩
    rw [Bus.dropAllS_cons, hrest, hj]

theorem Bus.dropAllS_sLine (n : Nat) :
    (b.dropAllS pa js).sLine n = if n ∈ js then { b.sLine n with state := 0#2 } else b.sLine n := by
  induction js generalizing b with
  | nil => simp [Bus.dropAllS]
  | cons j js ih =>
    rw [Bus.dropAllS_cons, ih, Bus.dropS_sLine]
    by_cases h : n = j <;> simp [h]

theorem Bus.dropAllS_dLine (n : Nat) : (b.dropAllS pa js).dLine n =
    if js ≠ [] ∧ n ∈ b.dCopies pa then { b.dLine n with cs := 0#2 } else b.dLine n := by
  induction js generalizing b with
  | nil => simp [Bus.dropAllS]
  | cons j js ih =>
    rw [Bus.dropAllS_cons, ih, Bus.dropS_dCopies, Bus.dropS_dLine]
    simp

theorem Bus.dropAllS_iLine (n : Nat) : (b.dropAllS pa js).iLine n =
    if js ≠ [] ∧ n ∈ primarySlots pa ∧ b.iHolds (primaryTag pa) n = true then { b.iLine n with v := false }
    else b.iLine n := by
  induction js generalizing b with
  | nil => simp [Bus.dropAllS]
  | cons j js ih =>
    have hnone : ¬(js ≠ [] ∧ n ∈ primarySlots pa ∧ (b.dropS pa j).iHolds (primaryTag pa) n = true) :=
      fun ⟨_, hn, hh⟩ => by simp [b.dropS_iHolds pa j n hn] at hh
    rw [Bus.dropAllS_cons, ih, if_neg hnone, Bus.dropS_iLine]
    simp

end

/-! Index Invalidate (I). -/

theorem LineHistory.none_invalidatedI (c : BitVec 4) : LineHistory.none.invalidatedI c = LineHistory.none := rfl

/-- Invalidate the four ways of a set of the instruction cache. -/
def Bus.dropSetI (b : Bus) (set : Nat) : Bus := [0, 1, 2, 3].foldl (fun b k => b.dropI (set * 4 + k)) b

theorem Bus.dropSetI_frame (b : Bus) (set : Nat) : ∃ i, b.dropSetI set = { b with icache := i } := by
  unfold Bus.dropSetI
  induction [0, 1, 2, 3] generalizing b with
  | nil => exact ⟨b.icache, rfl⟩
  | cons k ks ih => exact ih (b.dropI (set * 4 + k))

theorem Bus.dropI_iLine (b : Bus) (k n : Nat) :
    (b.dropI k).iLine n = if n = k then { b.iLine n with v := false } else b.iLine n := by
  by_cases h : n = k <;> simp [Bus.dropI, h]

theorem Bus.dropSetI_iLine (b : Bus) (set n : Nat) :
    (b.dropSetI set).iLine n = if n / 4 = set then { b.iLine n with v := false } else b.iLine n := by
  simp only [Bus.dropSetI, List.foldl_cons, List.foldl_nil, Bus.dropI_iLine]
  by_cases h : n / 4 = set
  · have hcases : n = set * 4 ∨ n = set * 4 + 1 ∨ n = set * 4 + 2 ∨ n = set * 4 + 3 := by omega
    rcases hcases with rfl | rfl | rfl | rfl <;> simp [h]
  · rw [if_neg h, if_neg (by omega), if_neg (by omega), if_neg (by omega), if_neg (by omega)]

theorem Bus.indexInvalidatedI_frame (b : Bus) (set : Nat) : ∃ h, b.indexInvalidatedI set = { b with history := h } :=
  ⟨_, rfl⟩

theorem Bus.indexInvalidatedI_iLine (b : Bus) (set n : Nat) : (b.indexInvalidatedI set).iLine n = b.iLine n := rfl

theorem Bus.indexInvalidatedI_historyOf (b : Bus) (set n : Nat) : (b.indexInvalidatedI set).historyOf n =
    if n % 128 = set % 128 then (b.historyOf n).invalidatedI (1#4 <<< (set / 128)) else b.historyOf n := by
  refine (b.recordAll_historyOf _ _ (fun h => h.invalidatedI_twice _) (LineHistory.none_invalidatedI _) n).trans ?_
  simp only [decide_eq_true_eq]

/-- Settles O44: the fold over the ways that hit, line by line. -/
theorem cacheInvalidations : Obligations.CacheInvalidations := by
  intro s base offset pa h ha va set tag
  have run (f : Word → PhysAddr → Outcome) : cacheOp s base offset true f = f va pa := cacheOp_of_reaches h f
  have hset : primarySet va = set := toNat_primarySet va
  refine ⟨?indexI, ?hitD, ?hitS⟩
  case indexI =>
    have hexec : execCacheIndexInvalidateI base offset s = _ := run _
    rw [hset] at hexec
    obtain ⟨i, hi⟩ := s.bus.dropSetI_frame set
    obtain ⟨r, hr⟩ := (s.bus.dropSetI set).indexInvalidatedI_frame set
    have hhist (n : Nat) : (s.bus.dropSetI set).historyOf n = s.bus.historyOf n := by rw [hi]; rfl
    refine ⟨(s.bus.dropSetI set).indexInvalidatedI set, hexec.trans (finishBus_done ha _), fun k => ?_, ?_, fun n => ?_⟩
    · rw [Bus.indexInvalidatedI_iLine, Bus.dropSetI_iLine]
    · rw [hr, hi]
    · rw [Bus.indexInvalidatedI_historyOf, hhist]
  case hitD =>
    have hexec : execCacheHitInvalidateD base offset s = _ := run _
    obtain ⟨d, hd⟩ := s.bus.invalidateAllD_frame (s.bus.hitWaysD va pa)
    have hways (k : Nat) : k ∈ s.bus.hitWaysD va pa ↔ k / 4 = set ∧ (s.bus.dLine k).cs ≠ 0#2 ∧ (s.bus.dLine k).ptag = tag := by
      rw [Bus.hitWaysD, hset, mem_filter_ways, Bus.dHolds_iff]
      rfl
    refine ⟨(s.bus.hitWaysD va pa).foldl Bus.invalidateD s.bus, hexec.trans (finishBus_done ha _), fun k => ?_, by rw [hd]⟩
    simp only [Bus.invalidateAllD_dLine, hways]
  case hitS =>
    have hexec : execCacheHitInvalidateS base offset s = _ := run _
    obtain ⟨i, d, c, hframe⟩ := s.bus.dropAllS_frame pa (s.bus.hitWaysS pa)
    have hways (k : Nat) : k ∈ s.bus.hitWaysS pa ↔ k / 4 = pa.toNat / 32 % 4096 ∧ (s.bus.sLine k).state ≠ 0#2 ∧
        (s.bus.sLine k).tag = pa.extractLsb' 17 23 := by
      rw [Bus.hitWaysS, toNat_secondarySet, mem_filter_ways, Bus.sHolds_iff]
      rfl
    have hnil : s.bus.hitWaysS pa = [] ↔ s.bus.lookupS pa = .miss := lookupSet_eq_miss.symm
    have hany : (s.bus.hitWaysS pa ≠ []) ↔ ∃ j, j / 4 = pa.toNat / 32 % 4096 ∧ (s.bus.sLine j).state ≠ 0#2 ∧
        (s.bus.sLine j).tag = pa.extractLsb' 17 23 := by
      rw [ne_eq, List.eq_nil_iff_forall_not_mem, not_forall_not]
      exact exists_congr hways
    have hslot (n : Nat) : n ∈ primarySlots pa ↔ n < 2048 ∧ n / 4 % 128 = pa.toNat / 32 % 128 := mem_primarySlots
    have hinD (n : Nat) : n ∈ s.bus.dCopies pa ↔ (n < 2048 ∧ n / 4 % 128 = pa.toNat / 32 % 128) ∧
        (s.bus.dLine n).cs ≠ 0#2 ∧ (s.bus.dLine n).ptag = tag := by
      rw [Bus.mem_dCopies, hslot]
      rfl
    have hinI (n : Nat) : (n ∈ primarySlots pa ∧ s.bus.iHolds (primaryTag pa) n = true) ↔
        (n < 2048 ∧ n / 4 % 128 = pa.toNat / 32 % 128) ∧ (s.bus.iLine n).v = true ∧ (s.bus.iLine n).ptag = tag := by
      rw [hslot, Bus.iHolds_iff]
      rfl
    refine ⟨s.bus.dropAllS pa (s.bus.hitWaysS pa), hexec.trans (finishBus_done ha _), ?miss, fun hm => ?none,
      fun hm => ?copies, fun n => ⟨fun h => ?sIn, fun h => ?sOut, fun hj => ⟨fun h => ?dIn, fun h => ?iIn⟩,
        fun h => ?dOut, fun h => ?iOut⟩, by rw [hframe]⟩
    case miss =>
      refine lookupSet_miss_iff.2 fun k hk => ?_
      rw [← Bool.not_eq_true, Bus.sHolds_iff, Bus.dropAllS_sLine]
      by_cases h : k ∈ s.bus.hitWaysS pa
      · simp [h]
      · rw [if_neg h]
        exact fun hh => h ((hways k).2 ⟨hk.trans (toNat_secondarySet pa), hh⟩)
    case none => rw [hnil.2 hm]; rfl
    case copies =>
      refine List.eq_nil_iff_forall_not_mem.2 fun k hk => ?_
      rw [Bus.mem_dCopies, Bus.dropAllS_dLine] at hk
      obtain ⟨hs, hcs, ht⟩ := hk
      by_cases h : k ∈ s.bus.dCopies pa
      · simp [h, mt hnil.1 hm] at hcs
      · rw [if_neg (fun hh => h hh.2)] at hcs ht
        exact h (Bus.mem_dCopies.2 ⟨hs, hcs, ht⟩)
    case sIn => rw [Bus.dropAllS_sLine, if_pos ((hways n).2 h)]
    case sOut => rw [Bus.dropAllS_sLine, if_neg (mt (hways n).1 h)]
    case dIn => rw [Bus.dropAllS_dLine, if_pos ⟨hany.2 hj, (hinD n).2 h⟩]
    case iIn => rw [Bus.dropAllS_iLine, if_pos ⟨hany.2 hj, (hinI n).2 h⟩]
    case dOut => rw [Bus.dropAllS_dLine, if_neg fun hh => h.elim (· (hany.1 hh.1)) (· ((hinD n).1 hh.2))]
    case iOut => rw [Bus.dropAllS_iLine, if_neg fun hh => h.elim (· (hany.1 hh.1)) (· ((hinI n).1 hh.2))]

end Sys2Proof.Machine
end

section
/-! Blocks of memory, the flushes of cache lines, and the CACHE write-back operations. -/

namespace Sys2Proof.Machine

/-! Reads and writes of adjacent bytes. -/

theorem memRead_add (m : Memory) (a n k : Nat) : memRead m a (n + k) = memRead m a n + 256 ^ n * memRead m (a + n) k := by
  induction n generalizing a with
  | zero => simp [memRead]
  | succ n ih =>
    rw [Nat.succ_add, memRead, memRead, ih, pow_succ, show a + 1 + n = a + (n + 1) by omega]
    ring

theorem memWrite_add (m : Memory) (a n k v : Nat) :
    memWrite m a (n + k) v = memWrite (memWrite m a n v) (a + n) k (v / 256 ^ n) := by
  induction n generalizing m a v with
  | zero => simp [memWrite]
  | succ n ih =>
    rw [Nat.succ_add, memWrite, memWrite, ih, Nat.div_div_eq_div_mul, pow_succ', show a + 1 + n = a + (n + 1) by omega]

theorem memWrite_mod (m : Memory) (a n v : Nat) : memWrite m a n (v % 256 ^ n) = memWrite m a n v := by
  induction n generalizing m a v with
  | zero => rfl
  | succ n ih =>
    have hbyte : BitVec.ofNat 8 (v % 256 ^ (n + 1)) = BitVec.ofNat 8 v := by
      refine BitVec.eq_of_toNat_eq ?_
      rw [BitVec.toNat_ofNat, BitVec.toNat_ofNat, pow_succ', Nat.mod_mul_right_mod]
    rw [memWrite, memWrite, hbyte, pow_succ', Nat.mod_mul_right_div_self, ih]

/-! A line lies in one region, and is read and written as one block. -/

theorem Bus.regionOf_line (b : Bus) {a a' : Nat} (h : a / 32 = a' / 32) : b.regionOf a = b.regionOf a' := by
  have hl (c : Nat) (hc : c % 32 = 0) : c ≤ a ↔ c ≤ a' := by omega
  have hu (c : Nat) (hc : c % 32 = 0) : a < c ↔ a' < c := by omega
  have hpage : a / 256 = a' / 256 := by omega
  simp only [Bus.regionOf, mappedRegion, hpage, hl 0x0FFFFE00 (by decide), hu 0x10000000 (by decide),
    hl 0x1FE00000 (by decide), hu 0x1FE00100 (by decide), hl 0x1FE00100 (by decide), hu 0x1FE00200 (by decide),
    hl 0x3FF00000 (by decide), hu 0x3FF00180 (by decide)]

theorem pow_256 (n : Nat) : 256 ^ n = 2 ^ (8 * n) := by norm_num [pow_mul]

theorem toNat_lineGet (d : Line) (off n : Nat) (hn : n ≤ 8) : (lineGet d off n).toNat = d.toNat / 256 ^ off % 256 ^ n := by
  refine Nat.eq_of_testBit_eq fun i => ?_
  rw [pow_256, pow_256, Nat.testBit_mod_two_pow,
    Nat.testBit_div_two_pow, BitVec.testBit_toNat, BitVec.testBit_toNat, getLsbD_lineGet, Nat.add_comm]
  congr 1
  exact decide_eq_decide.2 (by omega)

section
variable {b : Bus} {pa : Nat} (h : b.regionOf pa = .ram) (hal : pa % 32 = 0)
include h hal

theorem Bus.blockWrite_ram (d : Line) : b.blockWrite pa d = .ok () { b with mem := memWrite b.mem pa 32 d.toNat } := by
  have hr (k : Nat) (hk : k < 32) : b.regionOf (pa + k) = .ram := by rw [← h]; exact b.regionOf_line (by omega)
  have hw (m : Memory) (k : Nat) (hk : k < 32) (v : Word) : Bus.physWrite { b with mem := m } (pa + k) 8 v =
      .ok () { b with mem := memWrite m (pa + k) 8 v.toNat } := by
    have hr' : Bus.regionOf { b with mem := m } (pa + k) = .ram := hr k hk
    simp only [Bus.physWrite, hr']
  have hw0 : b.physWrite pa 8 (lineGet d 0 8) = .ok () { b with mem := memWrite b.mem pa 8 (lineGet d 0 8).toNat } :=
    hw b.mem 0 (by decide) _
  have split : memWrite b.mem pa 32 d.toNat = memWrite (memWrite (memWrite (memWrite b.mem pa 8 (lineGet d 0 8).toNat)
      (pa + 8) 8 (lineGet d 8 8).toNat) (pa + 16) 8 (lineGet d 16 8).toNat) (pa + 24) 8 (lineGet d 24 8).toNat := by
    simp only [toNat_lineGet, le_refl, memWrite_mod]
    rw [show 32 = 8 + (8 + (8 + 8)) from rfl, memWrite_add, memWrite_add, memWrite_add, Nat.div_div_eq_div_mul,
      Nat.div_div_eq_div_mul, ← pow_add, ← pow_add, pow_zero, Nat.div_one]
  rw [split, Bus.blockWrite, hw0]
  simp only [BusResult.andThen]
  rw [hw _ 8 (by decide)]
  simp only
  rw [hw _ 16 (by decide)]
  simp only
  rw [hw _ 24 (by decide)]

theorem Bus.blockRead_ram (q : Nat) : b.blockRead q pa = .ok (memLine b.mem pa) b := by
  have hr (k : Nat) (hk : k < 32) : b.physRead q (pa + k) 8 = .ok (BitVec.ofNat 64 (memRead b.mem (pa + k) 8)) b :=
    Bus.physRead_memory q 8 (.inl (by rw [← h]; exact b.regionOf_line (by omega)))
  have hr0 : b.physRead q pa 8 = .ok (BitVec.ofNat 64 (memRead b.mem pa 8)) b := hr 0 (by decide)
  have hline : lineOfWords (BitVec.ofNat 64 (memRead b.mem pa 8)) (BitVec.ofNat 64 (memRead b.mem (pa + 8) 8))
      (BitVec.ofNat 64 (memRead b.mem (pa + 16) 8)) (BitVec.ofNat 64 (memRead b.mem (pa + 24) 8)) = memLine b.mem pa := by
    have byte (k i : Nat) (hi : i < 64) : (BitVec.ofNat 64 (memRead b.mem (pa + 8 * k) 8)).getLsbD i =
        (memByte b.mem (pa + (64 * k + i) / 8)).getLsbD ((64 * k + i) % 8) := by
      rw [getLsbD_ofNat_memRead _ _ _ _ hi, show (64 * k + i) / 8 = 8 * k + i / 8 by omega,
        show (64 * k + i) % 8 = i % 8 by omega, Nat.add_assoc]
      simp [hi]
    refine BitVec.eq_of_getLsbD_eq fun i hi => ?_
    rw [lineOfWords, BitVec.getLsbD_append, BitVec.getLsbD_append, BitVec.getLsbD_append, memLine,
      getLsbD_ofNat_memRead _ _ _ _ hi, decide_eq_true hi, Bool.true_and]
    by_cases h0 : i < 64
    · have byte0 := byte 0 i h0
      simp only [Nat.mul_zero, Nat.zero_add, Nat.add_zero] at byte0
      rw [if_pos h0, byte0]
    by_cases h1 : i - 64 < 64
    · rw [if_neg h0, if_pos h1, byte 1 (i - 64) h1, show 64 * 1 + (i - 64) = i by omega]
    by_cases h2 : i - 64 - 64 < 64
    · rw [if_neg h0, if_neg h1, if_pos h2, byte 2 (i - 64 - 64) h2, show 64 * 2 + (i - 64 - 64) = i by omega]
    · rw [if_neg h0, if_neg h1, if_neg h2, byte 3 (i - 64 - 64 - 64) (by omega),
        show 64 * 3 + (i - 64 - 64 - 64) = i by omega]
  rw [Bus.blockRead, hr0]
  simp only [BusResult.andThen, hr 8 (by decide), hr 16 (by decide), hr 24 (by decide), hline]

end

/-! The flush of a data-cache line. -/

section
variable {b : Bus} {k j : Nat}

theorem Bus.flushD_clean (h : (b.dLine k).cs ≠ 3#2) : b.flushD k = .ok () (b.invalidateD k) := if_neg h

/-- What the flush of a dirty line leaves: the data in the secondary line, which is dirty then. -/
def Bus.mergedD (b : Bus) (k j : Nat) : Bus :=
  ((b.setSLine j { b.sLine j with state := 3#2, data := (b.dLine k).data }).setDLine k
    { b.dLine k with cs := 2#2, w := true }).invalidateD k

theorem Bus.flushD_dirty (h : (b.dLine k).cs = 3#2) (hj : b.lookupS (primaryLineAddr (b.dLine k).ptag (k / 4)) = .hit j) :
    b.flushD k = .ok () (b.mergedD k j) := by
  simp only [Bus.flushD, h, if_true, Bus.writebackD, hj, BusResult.andThen, Bus.mergedD]

theorem Bus.mergedD_frame : ∃ d c, b.mergedD k j = { b with dcache := d, scache := c } := ⟨_, _, rfl⟩

theorem Bus.mergedD_dLine (n : Nat) : (b.mergedD k j).dLine n =
    if n = k then { b.dLine k with cs := 0#2, w := true } else b.dLine n := by
  by_cases h : n = k <;> simp [Bus.mergedD, h]

theorem Bus.mergedD_sLine (n : Nat) : (b.mergedD k j).sLine n =
    if n = j then { b.sLine j with state := 3#2, data := (b.dLine k).data } else b.sLine n := by
  refine (show (b.mergedD k j).sLine n = (b.setSLine j _).sLine n from rfl).trans ?_
  rw [Bus.setSLine_sLine]

theorem Bus.mergedD_iLine (n : Nat) : (b.mergedD k j).iLine n = b.iLine n := rfl

/-- Clean lines only become invalid. -/
theorem Bus.flushAllD_clean {ks : List Nat} (h : ∀ k ∈ ks, (b.dLine k).cs ≠ 3#2) :
    b.flushAllD ks = .ok () (ks.foldl Bus.invalidateD b) := by
  induction ks generalizing b with
  | nil => rfl
  | cons k ks ih =>
    rw [List.forall_mem_cons] at h
    obtain ⟨hk, hks⟩ := h
    have hrest : ∀ n ∈ ks, ((b.invalidateD k).dLine n).cs ≠ 3#2 := fun n hn => by
      rw [Bus.invalidateD_dLine]
      split
      · exact (by decide : (0#2 : BitVec 2) ≠ 3#2)
      · exact hks n hn
    simp only [Bus.flushAllD, Bus.flushD_clean hk, BusResult.andThen, ih hrest, List.foldl_cons]

end

/-! The flush of a secondary line. -/

section
variable {b c : Bus} {j : Nat}

theorem Bus.flushS_invalid (h : (b.sLine j).state = 0#2) : b.flushS j = .ok () b := if_pos h

/-- The secondary line in slot `j` and the instruction-cache copies of its line invalid. -/
def Bus.droppedS (c : Bus) (home : PhysAddr) (j : Nat) : Bus :=
  (c.invalidateI home).setSLine j { c.sLine j with state := 0#2 }

theorem Bus.flushS_valid (h : (b.sLine j).state ≠ 0#2)
    (hc : b.flushAllD (b.dCopies (secondaryLineAddr (b.sLine j).tag (j / 4))) = .ok () c) :
    b.flushS j = if (c.sLine j).state = 3#2 then
      (c.droppedS (secondaryLineAddr (b.sLine j).tag (j / 4)) j).blockWrite
        (secondaryLineAddr (b.sLine j).tag (j / 4)).toNat (c.sLine j).data
      else .ok () (c.droppedS (secondaryLineAddr (b.sLine j).tag (j / 4)) j) := by
  refine (if_neg h).trans ?_
  simp only [hc, BusResult.andThen]
  rfl

theorem Bus.droppedS_frame (home : PhysAddr) : ∃ i s, c.droppedS home j = { c with icache := i, scache := s } := by
  obtain ⟨i, hi⟩ := c.invalidateI_frame home
  rw [Bus.droppedS, hi]
  exact ⟨i, _, rfl⟩

theorem Bus.droppedS_dLine (home : PhysAddr) (n : Nat) : (c.droppedS home j).dLine n = c.dLine n := by
  rw [Bus.droppedS, Bus.setSLine_dLine, Bus.invalidateI_dLine]

theorem Bus.droppedS_sLine (home : PhysAddr) (n : Nat) : (c.droppedS home j).sLine n =
    if n = j then { c.sLine j with state := 0#2 } else c.sLine n := by
  rw [Bus.droppedS, Bus.setSLine_sLine, Bus.invalidateI_sLine]

theorem Bus.droppedS_iLine (home : PhysAddr) (n : Nat) : (c.droppedS home j).iLine n =
    if n ∈ primarySlots home ∧ c.iHolds (primaryTag home) n = true then { c.iLine n with v := false } else c.iLine n := by
  rw [Bus.droppedS, Bus.setSLine_iLine, Bus.invalidateI_iLine]

end

/-! The home of a secondary line, and of its primary copies. -/

theorem toNat_secondaryLineAddr (tag : BitVec 23) (set : Nat) :
    (secondaryLineAddr tag set).toNat = tag.toNat * 2 ^ 17 + set % 4096 * 32 := by
  have h5 : (0#5).toNat = 0 := rfl
  rw [secondaryLineAddr, BitVec.toNat_append, BitVec.toNat_append, BitVec.toNat_ofNat, h5, Nat.or_zero,
    ← Nat.shiftLeft_add_eq_or_of_lt (Nat.mod_lt _ (by decide)), Nat.shiftLeft_eq, Nat.shiftLeft_eq]
  omega

theorem toNat_primaryLineAddr (tag : BitVec 28) (set : Nat) :
    (primaryLineAddr tag set).toNat = tag.toNat * 2 ^ 12 + set % 128 * 32 := by
  have h5 : (0#5).toNat = 0 := rfl
  rw [primaryLineAddr, BitVec.toNat_append, BitVec.toNat_append, BitVec.toNat_ofNat, h5, Nat.or_zero,
    ← Nat.shiftLeft_add_eq_or_of_lt (Nat.mod_lt _ (by decide)), Nat.shiftLeft_eq, Nat.shiftLeft_eq]
  omega

theorem secondaryLineAddr_aligned (tag : BitVec 23) (set : Nat) : (secondaryLineAddr tag set).toNat % 32 = 0 := by
  rw [toNat_secondaryLineAddr]
  omega

/-- The address of a line is that of its tag and a set of its colours. -/
theorem primaryLineAddr_of_slot {pa : PhysAddr} {set : Nat} (hal : pa.toNat % 32 = 0)
    (hset : set % 128 = pa.toNat / 32 % 128) : primaryLineAddr (primaryTag pa) set = pa := by
  refine BitVec.eq_of_toNat_eq ?_
  rw [toNat_primaryLineAddr, hset, primaryTag, BitVec.extractLsb'_toNat, Nat.shiftRight_eq_div_pow]
  have := pa.isLt
  omega

/-! What a flush of a valid secondary line leaves, where its primary copies are clean, and where one is dirty. -/

/-- `e` is `c` with the secondary line in slot `j` and the instruction-cache copies of its line gone, and the line in memory
if it is dirty. -/
structure Bus.FlushedS (c e : Bus) (home : PhysAddr) (j : Nat) : Prop where
  frame : ∃ i x m, e = { c with icache := i, scache := x, mem := m }
  dLine : ∀ n, e.dLine n = c.dLine n
  sLine : ∀ n, e.sLine n = if n = j then { c.sLine j with state := 0#2 } else c.sLine n
  iLine : ∀ n, e.iLine n =
    if n ∈ primarySlots home ∧ c.iHolds (primaryTag home) n = true then { c.iLine n with v := false } else c.iLine n
  kept : (c.sLine j).state ≠ 3#2 → e.mem = c.mem
  stored : (c.sLine j).state = 3#2 → e.mem = memWrite c.mem home.toNat 32 (c.sLine j).data.toNat

section
variable {b c : Bus} {j : Nat}

/-- The flush of a valid secondary line whose data-cache copies are gone in `c`. -/
theorem Bus.flushS_ends {home : PhysAddr} (hhome : home = secondaryLineAddr (b.sLine j).tag (j / 4))
    (h : (b.sLine j).state ≠ 0#2) (hc : b.flushAllD (b.dCopies home) = .ok () c)
    (hram : (c.sLine j).state ≠ 3#2 ∨ c.regionOf home.toNat = .ram) :
    ∃ e, b.flushS j = .ok () e ∧ c.FlushedS e home j := by
  subst hhome
  generalize hhome : secondaryLineAddr (b.sLine j).tag (j / 4) = home at hc hram ⊢
  have hal : home.toNat % 32 = 0 := hhome ▸ secondaryLineAddr_aligned _ _
  obtain ⟨i, sc, hframe⟩ := c.droppedS_frame (j := j) home
  have hvalid := Bus.flushS_valid h (hhome.symm ▸ hc)
  rw [hhome] at hvalid
  have hdl := c.droppedS_dLine (j := j) home
  have hsl := c.droppedS_sLine (j := j) home
  have hil := c.droppedS_iLine (j := j) home
  generalize c.droppedS home j = x at hframe hvalid hdl hsl hil
  have ends (m : Memory) (hkept : (c.sLine j).state ≠ 3#2 → m = c.mem)
      (hstored : (c.sLine j).state = 3#2 → m = memWrite c.mem home.toNat 32 (c.sLine j).data.toNat) :
      c.FlushedS { x with mem := m } home j :=
    { frame := ⟨i, sc, m, by rw [hframe]⟩, dLine := hdl, sLine := hsl, iLine := hil, kept := hkept, stored := hstored }
  have hmem : x.mem = c.mem := by rw [hframe]
  by_cases hd : (c.sLine j).state = 3#2
  · have hr : x.regionOf home.toNat = .ram := by
      rw [hframe]
      exact hram.resolve_left (not_not.2 hd)
    rw [if_pos hd, Bus.blockWrite_ram hr hal] at hvalid
    exact ⟨_, hvalid, ends _ (absurd hd) fun _ => by rw [hmem]⟩
  · rw [if_neg hd] at hvalid
    exact ⟨x, hvalid, ends x.mem (fun _ => hmem) fun h => absurd h hd⟩

end

/-! The model's record of a writeback-invalidate. -/

/-- `r` is `c` with a writeback-invalidate of the lines of `p` in the record, and nothing else changed. -/
def Bus.Marks (c r : Bus) (p : Nat → Prop) : Prop := (∃ h, r = { c with history := h }) ∧
  ∀ n, (p n → r.historyOf n = (c.historyOf n).writtenBack) ∧ (¬p n → r.historyOf n = c.historyOf n)

theorem Bus.Marks.congr {c r : Bus} {p q : Nat → Prop} (h : c.Marks r p) (hpq : ∀ n, p n ↔ q n) : c.Marks r q := by
  rwa [← funext fun n => propext (hpq n)]

section
variable {c r : Bus} {p : Nat → Prop} (h : c.Marks r p)
include h

theorem Bus.Marks.dLine (n : Nat) : r.dLine n = c.dLine n := by
  obtain ⟨⟨_, rfl⟩, -⟩ := h
  rfl

theorem Bus.Marks.sLine (n : Nat) : r.sLine n = c.sLine n := by
  obtain ⟨⟨_, rfl⟩, -⟩ := h
  rfl

theorem Bus.Marks.iLine (n : Nat) : r.iLine n = c.iLine n := by
  obtain ⟨⟨_, rfl⟩, -⟩ := h
  rfl

theorem Bus.Marks.mem : r.mem = c.mem := by
  obtain ⟨⟨_, rfl⟩, -⟩ := h
  rfl

/-- The record of a bus whose own was that of `b`. -/
theorem Bus.Marks.counts {b : Bus} (hb : c.history = b.history) (n : Nat) :
    (p n → r.historyOf n = (b.historyOf n).writtenBack) ∧ (¬p n → r.historyOf n = b.historyOf n) := by
  have hn : c.historyOf n = b.historyOf n := by rw [Bus.historyOf, hb]; rfl
  exact hn ▸ h.2 n

end

section
variable (c : Bus)

theorem Bus.marks_hit (pa : PhysAddr) : c.Marks (c.hitWrittenBack pa) (· = pa.toNat / 32) := by
  refine ⟨⟨_, rfl⟩, fun n => ?_⟩
  rw [Bus.hitWrittenBack, Bus.record_historyOf]
  refine ⟨fun h => ?_, fun h => if_neg h⟩
  subst h
  exact if_pos rfl

theorem Bus.recordAll_frame (p : Nat → Bool) (f : LineHistory → LineHistory) :
    ∃ h, c.recordAll p f = { c with history := h } := ⟨_, rfl⟩

theorem Bus.marks_all (p : Nat → Bool) : c.Marks (c.recordAll p LineHistory.writtenBack) (p · = true) := by
  refine ⟨c.recordAll_frame _ _, fun n => ?_⟩
  rw [c.recordAll_historyOf p _ (fun h => h.writtenBack_twice) rfl n]
  exact ⟨fun h => if_pos h, fun h => if_neg h⟩

theorem Bus.marks_indexD (set : Nat) : c.Marks (c.indexWrittenBackD set) fun n => n % 128 = set % 128 ∧
    ∀ k ∈ (c.indexWrittenBackD set).dCopies (BitVec.ofNat 40 (n * 32)), (c.historyOf n).colours.getLsbD (k / 512) = false := by
  have hcopies (pa : PhysAddr) : (c.indexWrittenBackD set).dCopies pa = c.dCopies pa := rfl
  simp only [hcopies]
  refine (c.marks_all fun n => n % 128 = set % 128 && !c.heldD n).congr fun n => ?_
  simp [Bus.heldD]

theorem Bus.marks_indexS (set : Nat) : c.Marks (c.indexWrittenBackS set) fun n => n % 4096 = set ∧
    (c.indexWrittenBackS set).dataCached (BitVec.ofNat 40 (n * 32)) = false := by
  have hcached (pa : PhysAddr) : (c.indexWrittenBackS set).dataCached pa = c.dataCached pa := rfl
  simp only [hcached]
  refine (c.marks_all fun n => n % 4096 = set && !c.dataCached (BitVec.ofNat 40 (n * 32))).congr fun n => ?_
  simp

end

/-! The write-back operations. -/

theorem Bus.flushAllD_singleton (b : Bus) (k : Nat) : b.flushAllD [k] = b.flushD k := by
  simp only [Bus.flushAllD]
  cases b.flushD k <;> rfl

theorem Bus.flushAllS_singleton (b : Bus) (j : Nat) : b.flushAllS [j] = b.flushS j := by
  simp only [Bus.flushAllS]
  cases b.flushS j <;> rfl

/-- A flush that succeeds, and the record after it. -/
theorem finish_recorded {s : State} {r : BusResult Unit} {c : Bus} (ha : s.CanAdvance) (record : Bus → Bus)
    (hr : r = .ok () c) :
    r.toMem.finish s (fun _ s' => finishBus s' (record s'.bus)) = .next (s.withBus (record c)).after := by
  subst hr
  exact finishBus_done (s := s.withBus c) (ha.congr rfl rfl) _

/-- Settles O45: what each flush leaves, then the record. -/
theorem cacheWritebacks : Obligations.CacheWritebacks := by
  intro s base offset pa h ha va bus ends onlyCaches counts atAddress atIndexD atIndexS flushesD flushesS missed
  have run (f : Word → PhysAddr → Outcome) : cacheOp s base offset true f = f va pa := cacheOp_of_reaches h f
  have flushD_of {i : Instr} {k : Nat} {p : Bus → Nat → Prop} (record : Bus → Bus)
      (hexec : exec i s = (bus.flushD k).toMem.finish s fun _ s' => finishBus s' (record s'.bus))
      (hp : ∀ c : Bus, c.history = bus.history → c.Marks (record c) (p (record c))) : flushesD i k p := by
    have hends {c : Bus} (hc : bus.flushD k = .ok () c) : ends i (record c) :=
      hexec.trans (finish_recorded ha record hc)
    refine ⟨fun hclean => ?clean, fun j hd hj => ?dirty⟩
    case clean =>
      have hm := hp (bus.invalidateD k) rfl
      obtain ⟨⟨r, hr⟩, -⟩ := id hm
      refine ⟨_, hends (Bus.flushD_clean hclean), ?_, hm.counts rfl⟩
      rw [hr]
      rfl
    case dirty =>
      obtain ⟨d, x, hframe⟩ := bus.mergedD_frame (k := k) (j := j)
      have hhist : (bus.mergedD k j).history = bus.history := by rw [hframe]
      have hm := hp (bus.mergedD k j) hhist
      obtain ⟨⟨r, hr⟩, -⟩ := id hm
      refine ⟨_, hends (Bus.flushD_dirty hd hj), ?_, fun n hn => ?_, ?_, fun n hn => ?_, fun n => ?_, ?_, hm.counts hhist⟩
      · rw [hm.dLine, Bus.mergedD_dLine, if_pos rfl]
      · rw [hm.dLine, Bus.mergedD_dLine, if_neg hn]
      · rw [hm.sLine, Bus.mergedD_sLine, if_pos rfl]
      · rw [hm.sLine, Bus.mergedD_sLine, if_neg hn]
      · rw [hm.iLine, Bus.mergedD_iLine]
      · show onlyCaches _
        rw [hr, hframe]
  have flushS_of {i : Instr} {j : Nat} {p : Bus → Nat → Prop} (record : Bus → Bus)
      (hexec : exec i s = (bus.flushS j).toMem.finish s fun _ s' => finishBus s' (record s'.bus))
      (hp : ∀ c : Bus, c.history = bus.history → c.Marks (record c) (p (record c))) : flushesS i j p := by
    have hends {c : Bus} (hc : bus.flushS j = .ok () c) : ends i (record c) :=
      hexec.trans (finish_recorded ha record hc)
    let home := secondaryLineAddr (bus.sLine j).tag (j / 4)
    let slot (n : Nat) : Prop := n < 2048 ∧ n / 4 % 128 = home.toNat / 32 % 128
    let inD (n : Nat) : Prop := slot n ∧ (bus.dLine n).cs ≠ 0#2 ∧ (bus.dLine n).ptag = home.extractLsb' 12 28
    let inI (n : Nat) : Prop := slot n ∧ (bus.iLine n).v = true ∧ (bus.iLine n).ptag = home.extractLsb' 12 28
    have hcopies (n : Nat) : n ∈ bus.dCopies home ↔ inD n := by
      rw [Bus.mem_dCopies, mem_primarySlots]
      rfl
    have hicopies (n : Nat) : (n ∈ primarySlots home ∧ bus.iHolds (primaryTag home) n = true) ↔ inI n := by
      rw [mem_primarySlots, Bus.iHolds_iff]
      rfl
    refine ⟨fun hinv => ?invalid, fun hval hclean hram => ?clean, fun k hval hk hd honly hj hram => ?dirty⟩
    case invalid =>
      have hm := hp bus rfl
      obtain ⟨⟨r, hr⟩, -⟩ := id hm
      refine ⟨_, hends (Bus.flushS_invalid hinv), ?_, hm.counts rfl⟩
      rw [hr]
    case clean =>
      have hflush : bus.flushAllD (bus.dCopies home) = .ok () ((bus.dCopies home).foldl Bus.invalidateD bus) :=
        Bus.flushAllD_clean fun n hn => hclean n ((hcopies n).1 hn)
      obtain ⟨d, hframe⟩ := bus.invalidateAllD_frame (bus.dCopies home)
      generalize hc : (bus.dCopies home).foldl Bus.invalidateD bus = c at hflush hframe
      have hsc (n : Nat) : c.sLine n = bus.sLine n := hc ▸ bus.invalidateAllD_sLine _ n
      have hic (n : Nat) : c.iLine n = bus.iLine n := hc ▸ bus.invalidateAllD_iLine _ n
      have hdc (n : Nat) : c.dLine n = if n ∈ bus.dCopies home then { bus.dLine n with cs := 0#2 } else bus.dLine n :=
        hc ▸ bus.invalidateAllD_dLine _ n
      have hstate : ((c.sLine j).state ≠ 3#2 ∨ c.regionOf home.toNat = .ram) := by
        rw [hsc, hframe]
        exact hram
      obtain ⟨e, he, hfl⟩ := Bus.flushS_ends rfl hval hflush hstate
      obtain ⟨i', x, m, heframe⟩ := hfl.frame
      have hhist : e.history = bus.history := by rw [heframe, hframe]
      have hm := hp e hhist
      obtain ⟨⟨r, hr⟩, -⟩ := id hm
      have hi (n : Nat) : c.iHolds (primaryTag home) n = bus.iHolds (primaryTag home) n := by
        rw [Bus.iHolds, Bus.iHolds, hic]
      refine ⟨_, hends he, ?_, fun n hn => ?_, fun n => ⟨fun h => ?_, fun h => ?_, fun h => ?_, fun h => ?_⟩, fun h => ?_,
        fun h => ?_, ?_, hm.counts hhist⟩
      · rw [hm.sLine, hfl.sLine, if_pos rfl, hsc]
      · rw [hm.sLine, hfl.sLine, if_neg hn, hsc]
      · rw [hm.dLine, hfl.dLine, hdc, if_pos ((hcopies n).2 h)]
      · rw [hm.dLine, hfl.dLine, hdc, if_neg (mt (hcopies n).1 h)]
      · rw [hm.iLine, hfl.iLine, hi, if_pos ((hicopies n).2 h), hic]
      · rw [hm.iLine, hfl.iLine, hi, if_neg (mt (hicopies n).1 h), hic]
      · rw [hm.mem, hfl.kept (by rwa [hsc]), hframe]
      · rw [hm.mem, hfl.stored (by rwa [hsc]), hsc, hframe]
        exact stored_memWrite _ _ _ _
      · show onlyCaches _
        rw [hr, heframe, hframe]
    case dirty =>
      have hsingle : bus.dCopies home = [k] := by
        refine eq_singleton_of_nodup (List.Nodup.filter _ (primarySlots_nodup home)) fun n => ?_
        rw [hcopies]
        exact ⟨honly n, fun h => h ▸ hk⟩
      obtain ⟨⟨hklt, hkset⟩, -, hktag⟩ := hk
      have haddr : primaryLineAddr (bus.dLine k).ptag (k / 4) = home := by
        rw [hktag]
        exact primaryLineAddr_of_slot (secondaryLineAddr_aligned _ _) hkset
      have hflush : bus.flushAllD (bus.dCopies home) = .ok () (bus.mergedD k j) := by
        rw [hsingle, Bus.flushAllD_singleton]
        exact Bus.flushD_dirty hd (haddr.symm ▸ hj)
      obtain ⟨d, x, hframe⟩ := bus.mergedD_frame (k := k) (j := j)
      have hsc (n : Nat) := bus.mergedD_sLine (k := k) (j := j) n
      have hdc (n : Nat) := bus.mergedD_dLine (k := k) (j := j) n
      have hic (n : Nat) := bus.mergedD_iLine (k := k) (j := j) n
      generalize bus.mergedD k j = c at hflush hframe hsc hdc hic
      have hscj := (hsc j).trans (if_pos rfl)
      obtain ⟨e, he, hfl⟩ := Bus.flushS_ends rfl hval hflush (.inr (by rw [hframe]; exact hram))
      obtain ⟨i', x', m, heframe⟩ := hfl.frame
      have hhist : e.history = bus.history := by rw [heframe, hframe]
      have hm := hp e hhist
      obtain ⟨⟨r, hr⟩, -⟩ := id hm
      have hi (n : Nat) : c.iHolds (primaryTag home) n = bus.iHolds (primaryTag home) n := by
        rw [Bus.iHolds, Bus.iHolds, hic]
      refine ⟨_, hends he, ?_, fun n hn => ?_, ?_, fun n hn => ?_, fun n => ⟨fun h => ?_, fun h => ?_⟩, ?_, ?_,
        hm.counts hhist⟩
      · rw [hm.sLine, hfl.sLine, if_pos rfl, hscj]
      · rw [hm.sLine, hfl.sLine, if_neg hn, hsc, if_neg hn]
      · rw [hm.dLine, hfl.dLine, hdc, if_pos rfl]
      · rw [hm.dLine, hfl.dLine, hdc, if_neg hn]
      · rw [hm.iLine, hfl.iLine, hi, if_pos ((hicopies n).2 h), hic]
      · rw [hm.iLine, hfl.iLine, hi, if_neg (mt (hicopies n).1 h), hic]
      · rw [hm.mem, hfl.stored (by rw [hscj]), hscj, hframe]
        exact stored_memWrite _ _ _ _
      · show onlyCaches _
        rw [hr, heframe, hframe]
  have hhit (c : Bus) : c.Marks (c.hitWrittenBack pa) (atAddress (c.hitWrittenBack pa)) := c.marks_hit pa
  have missed_of {i : Instr} (hexec : exec i s = (BusResult.ok () bus).toMem.finish s fun _ s' =>
      finishBus s' (s'.bus.hitWrittenBack pa)) : missed i := by
    have hm := hhit bus
    exact ⟨_, hexec.trans (finish_recorded ha (Bus.hitWrittenBack · pa) rfl), rfl, hm.counts rfl⟩
  have hhistory {c : Bus} (hc : c.history = bus.history) (n : Nat) : c.historyOf n = bus.historyOf n := by
    rw [Bus.historyOf, hc]; rfl
  refine ⟨?indexD, ?indexS, fun n hn => ?hitD, fun hm => ?missD, fun n hn => ?hitS, fun hm => ?missS⟩
  case indexD =>
    have hexec : execCacheIndexWritebackInvalidateD base offset s = _ := run _
    rw [toNat_primaryIndex, toNat_primarySet] at hexec
    refine flushD_of (Bus.indexWrittenBackD · (va.toNat / 32 % 512)) hexec fun c hc => (c.marks_indexD _).congr fun n => ?_
    rw [hhistory hc, Nat.mod_mod_of_dvd _ (by decide : 128 ∣ 512)]
  case indexS =>
    have hexec : execCacheIndexWritebackInvalidateS base offset s = _ := run _
    rw [toNat_secondaryIndex, toNat_secondarySet] at hexec
    exact flushS_of (Bus.indexWrittenBackS · (pa.toNat / 32 % 4096)) hexec fun c hc => c.marks_indexS _
  case hitD =>
    have hexec : execCacheHitWritebackInvalidateD base offset s = _ := run _
    rw [show s.bus.hitWaysD va pa = [n] from lookupSet_eq_hit.1 hn, Bus.flushAllD_singleton] at hexec
    exact flushD_of (Bus.hitWrittenBack · pa) hexec fun c _ => hhit c
  case missD =>
    have hexec : execCacheHitWritebackInvalidateD base offset s = _ := run _
    rw [show s.bus.hitWaysD va pa = [] from lookupSet_eq_miss.1 hm] at hexec
    exact missed_of hexec
  case hitS =>
    have hexec : execCacheHitWritebackInvalidateS base offset s = _ := run _
    rw [show s.bus.hitWaysS pa = [n] from lookupSet_eq_hit.1 hn, Bus.flushAllS_singleton] at hexec
    exact flushS_of (Bus.hitWrittenBack · pa) hexec fun c _ => hhit c
  case missS =>
    have hexec : execCacheHitWritebackInvalidateS base offset s = _ := run _
    rw [show s.bus.hitWaysS pa = [] from lookupSet_eq_miss.1 hm] at hexec
    exact missed_of hexec

end Sys2Proof.Machine
end

section
/-! Every load and store as an access with what follows it: the exceptions of misaligned, failing and watched accesses. -/

namespace Sys2Proof.Machine

/-! The forms of the loads and stores. -/

/-- `o` is how a load at `va` of alignment `n` ends: a read in the doubleword of the address, and what follows it. -/
def LoadsAt (s : State) (va : Word) (n : Nat) (o : Outcome) : Prop :=
  ∃ (pos : PhysAddr → PhysAddr) (len : Nat) (k : Word → State → Outcome), (∀ pa, (pos pa).toNat / 8 = pa.toNat / 8) ∧
    o = (dataAccess s false n va fun pa c => s.bus.dataRead s.seq c va (pos pa) len).finish s k

/-- `o` is how a store at `va` of alignment `n` ends. -/
def StoresAt (s : State) (va : Word) (n : Nat) (o : Outcome) : Prop :=
  ∃ (f : PhysAddr → BitVec 3 → BusResult Unit) (k : Unit → State → Outcome), o = (dataAccess s true n va f).finish s k

/-- The loads of a general register, with their alignment. -/
def loadOps (base rt : RegNum) (offset : BitVec 16) : List (Instr × Nat) :=
  [(.lb base rt offset, 1), (.lbu base rt offset, 1), (.lh base rt offset, 2), (.lhu base rt offset, 2),
    (.lw base rt offset, 4), (.lwu base rt offset, 4), (.ll base rt offset, 4), (.ld base rt offset, 8),
    (.lld base rt offset, 8), (.lwl base rt offset, 1), (.lwr base rt offset, 1), (.ldl base rt offset, 1),
    (.ldr base rt offset, 1)]

/-- The stores of a general register, with their alignment. -/
def storeOps (base rt : RegNum) (offset : BitVec 16) : List (Instr × Nat) :=
  [(.sb base rt offset, 1), (.sh base rt offset, 2), (.sw base rt offset, 4), (.sc base rt offset, 4),
    (.sd base rt offset, 8), (.scd base rt offset, 8), (.swl base rt offset, 1), (.swr base rt offset, 1),
    (.sdl base rt offset, 1), (.sdr base rt offset, 1)]

theorem toNat_alignedTo (pa : PhysAddr) (size : Nat) : (alignedTo pa size 0).toNat = pa.toNat / size * size := by
  have hle : pa.toNat / size * size ≤ pa.toNat := Nat.div_mul_le_self _ _
  have hlt := pa.isLt
  rw [alignedTo, BitVec.toNat_ofNat, Nat.add_zero, Nat.mod_eq_of_lt (by omega)]

section
variable (s : State) (base rt : RegNum) (offset : BitVec 16)

section
variable {rt} (hr : rt ≠ 0#5)
include hr

theorem loadsAt_loadGpr (n : Nat) (ext : Word → Word) :
    LoadsAt s (s.effectiveAddress base offset) n (loadGpr s base rt offset n ext) :=
  ⟨id, n, _, fun _ => rfl, if_neg hr⟩

theorem loadsAt_linkedLoad (n : Nat) (ext : Word → Word) :
    LoadsAt s (s.effectiveAddress base offset) n (linkedLoad s base rt offset n ext) :=
  ⟨id, n, _, fun _ => rfl, if_neg hr⟩

theorem loadsAt_loadLeft {size : Nat} (hsize : size = 4 ∨ size = 8) (place : Nat → Word → Word → Word) :
    LoadsAt s (s.effectiveAddress base offset) 1 (loadLeft s base rt offset size place) := by
  refine ⟨(alignedTo · size 0), _, _, fun pa => ?_, if_neg hr⟩
  rw [toNat_alignedTo]
  rcases hsize with rfl | rfl <;> omega

theorem loadsAt_loadRight (size : Nat) (place : Nat → Word → Word → Word) :
    LoadsAt s (s.effectiveAddress base offset) 1 (loadRight s base rt offset size place) :=
  ⟨id, _, _, fun _ => rfl, if_neg hr⟩

theorem loadsAt_of_mem : ∀ p ∈ loadOps base rt offset, LoadsAt s (s.effectiveAddress base offset) p.2 (exec p.1 s) := by
  simp only [loadOps, List.forall_mem_cons, List.not_mem_nil, false_imp_iff, implies_true, and_true]
  have plain := loadsAt_loadGpr s base offset hr
  have linked := loadsAt_linkedLoad s base offset hr
  exact ⟨plain 1 _, plain 1 _, plain 2 _, plain 2 _, plain 4 _, plain 4 _, linked 4 _, plain 8 _, linked 8 _,
    loadsAt_loadLeft s base offset hr (.inl rfl) _, loadsAt_loadRight s base offset hr 4 _,
    loadsAt_loadLeft s base offset hr (.inr rfl) _, loadsAt_loadRight s base offset hr 8 _⟩

end

theorem storesAt_storeWord (n : Nat) (v : Word) :
    StoresAt s (s.effectiveAddress base offset) n (storeWord s base offset n v) := ⟨_, _, rfl⟩

theorem storesAt_conditionalStore (n : Nat) :
    StoresAt s (s.effectiveAddress base offset) n (conditionalStore s base rt offset n) := by
  unfold conditionalStore
  exact ⟨_, _, rfl⟩

theorem storesAt_storeLeft (size : Nat) :
    StoresAt s (s.effectiveAddress base offset) 1 (storeLeft s base rt offset size) := by
  unfold storeLeft
  exact ⟨_, _, rfl⟩

theorem storesAt_storeRight (size : Nat) :
    StoresAt s (s.effectiveAddress base offset) 1 (storeRight s base rt offset size) := by
  unfold storeRight
  exact ⟨_, _, rfl⟩

theorem storesAt_of_mem : ∀ p ∈ storeOps base rt offset, StoresAt s (s.effectiveAddress base offset) p.2 (exec p.1 s) := by
  simp only [storeOps, List.forall_mem_cons, List.not_mem_nil, false_imp_iff, implies_true, and_true]
  have plain := storesAt_storeWord s base offset
  exact ⟨plain 1 _, plain 2 _, plain 4 _, storesAt_conditionalStore s base rt offset 4, plain 8 _,
    storesAt_conditionalStore s base rt offset 8, storesAt_storeLeft s base rt offset 4,
    storesAt_storeRight s base rt offset 4, storesAt_storeLeft s base rt offset 8, storesAt_storeRight s base rt offset 8⟩

section
variable {s} (hu : s.Cp1Usable)
include hu

theorem loadsAt_lwc1 : LoadsAt s (s.effectiveAddress base offset) 4 (exec (.lwc1 base rt offset) s) :=
  ⟨id, 4, _, fun _ => rfl, withCp1_of_usable _ hu⟩

theorem storesAt_swc1 : StoresAt s (s.effectiveAddress base offset) 4 (exec (.swc1 base rt offset) s) :=
  ⟨_, _, withCp1_of_usable _ hu⟩

variable {rt} (hok : fpr64Ok s.cp0.status rt = true)
include hok

theorem loadsAt_ldc1 : LoadsAt s (s.effectiveAddress base offset) 8 (exec (.ldc1 base rt offset) s) :=
  ⟨id, 8, _, fun _ => rfl, (withCp1_of_usable _ hu).trans (withFpr64_of_ok _ (by simp [hok]))⟩

theorem storesAt_sdc1 : StoresAt s (s.effectiveAddress base offset) 8 (exec (.sdc1 base rt offset) s) :=
  ⟨_, _, (withCp1_of_usable _ hu).trans (withFpr64_of_ok _ (by simp [hok]))⟩

end

end

/-! How an access that does not succeed ends. -/

section
variable {s : State} {va : Word} {n : Nat} {o : Outcome}

theorem LoadsAt.misaligned (h : LoadsAt s va n o) (hal : va.toNat % n ≠ 0) :
    o = .next (enterException (.addressError false va) s) := by
  obtain ⟨pos, len, k, -, rfl⟩ := h
  rw [dataAccess_misaligned s false n va _ hal, MemResult.finish_exc]

theorem StoresAt.misaligned (h : StoresAt s va n o) (hal : va.toNat % n ≠ 0) :
    o = .next (enterException (.addressError true va) s) := by
  obtain ⟨f, k, rfl⟩ := h
  rw [dataAccess_misaligned s true n va _ hal, MemResult.finish_exc]

theorem LoadsAt.exc (h : LoadsAt s va n o) (hal : va.toNat % n = 0) {e : Exc} (ht : s.translateData false va = .exc e) :
    o = .next (enterException e s) := by
  obtain ⟨pos, len, k, -, rfl⟩ := h
  rw [dataAccess_exc s false n va _ e hal ht, MemResult.finish_exc]

theorem StoresAt.exc (h : StoresAt s va n o) (hal : va.toNat % n = 0) {e : Exc} (ht : s.translateData true va = .exc e) :
    o = .next (enterException e s) := by
  obtain ⟨f, k, rfl⟩ := h
  rw [dataAccess_exc s true n va _ e hal ht, MemResult.finish_exc]

theorem dataAccess_watched {α : Type} {store : Bool} (k : PhysAddr → BitVec 3 → BusResult α) {pa : PhysAddr} {c : BitVec 3}
    (hal : va.toNat % n = 0) (ht : s.translateData store va = .ok pa c) (hw : s.watchHit store va = true) :
    dataAccess s store n va k =
      if statusExl s.cp0.status || statusErl s.cp0.status then .stop .watchDeferred else .exc .watch := by
  simp only [dataAccess, hal, ht, hw, ne_eq, not_true_eq_false, if_false, if_true]

/-- A watched access raises the Watch exception, or stops while EXL or ERL is set. -/
def Watched (s : State) (o : Outcome) : Prop :=
  (s.cp0.status.getLsbD 1 = false → s.cp0.status.getLsbD 2 = false → o = .next (enterException .watch s)) ∧
    (s.cp0.status.getLsbD 1 = true ∨ s.cp0.status.getLsbD 2 = true → o = .fault .watchDeferred)

theorem watched_finish {α : Type} {r : MemResult α} (k : α → State → Outcome)
    (h : r = if statusExl s.cp0.status || statusErl s.cp0.status then .stop .watchDeferred else .exc .watch) :
    Watched s (r.finish s k) := by
  subst h
  refine ⟨fun h1 h2 => ?_, fun h => ?_⟩
  · have hoff : ¬(statusExl s.cp0.status || statusErl s.cp0.status) = true := by
      rw [statusExl, statusErl, h1, h2]
      exact Bool.false_ne_true
    rw [if_neg hoff, MemResult.finish_exc]
  · have hon : (statusExl s.cp0.status || statusErl s.cp0.status) = true := Bool.or_eq_true_iff.2 h
    rw [if_pos hon, MemResult.finish_stop]

theorem LoadsAt.watched (h : LoadsAt s va n o) (hal : va.toNat % n = 0) {pa : PhysAddr} {c : BitVec 3}
    (ht : s.translateData false va = .ok pa c) (hw : s.watchHit false va = true) : Watched s o := by
  obtain ⟨pos, len, k, -, rfl⟩ := h
  exact watched_finish k (dataAccess_watched _ hal ht hw)

theorem StoresAt.watched (h : StoresAt s va n o) (hal : va.toNat % n = 0) {pa : PhysAddr} {c : BitVec 3}
    (ht : s.translateData true va = .ok pa c) (hw : s.watchHit true va = true) : Watched s o := by
  obtain ⟨f, k, rfl⟩ := h
  exact watched_finish k (dataAccess_watched _ hal ht hw)

end

/-! Physical reads that no unit answers. -/

/-- No unit answers a read at `pa`, the machine signals it, and nothing is gathered. -/
def Bus.NoAnswer (b : Bus) (pa : PhysAddr) : Prop :=
  b.regionOf pa.toNat = .unclaimed ∧ b.busErrorOnUnclaimed = true ∧ b.uca = none

/-- The parts of an address that select a line. -/
theorem lineFields_of_line {pa pa' : PhysAddr} (h : pa'.toNat / 32 = pa.toNat / 32) :
    primaryTag pa' = primaryTag pa ∧ secondaryTag pa' = secondaryTag pa ∧ secondarySet pa' = secondarySet pa := by
  refine ⟨BitVec.eq_of_toNat_eq ?_, BitVec.eq_of_toNat_eq ?_, ?_⟩
  · rw [primaryTag, primaryTag, BitVec.extractLsb'_toNat, BitVec.extractLsb'_toNat, Nat.shiftRight_eq_div_pow,
      Nat.shiftRight_eq_div_pow]
    omega
  · rw [secondaryTag, secondaryTag, BitVec.extractLsb'_toNat, BitVec.extractLsb'_toNat, Nat.shiftRight_eq_div_pow,
      Nat.shiftRight_eq_div_pow]
    omega
  · rw [toNat_secondarySet, toNat_secondarySet, h]

section
variable {b : Bus} {va : Word} {pa pa' : PhysAddr} (hline : pa'.toNat / 32 = pa.toNat / 32)
include hline

theorem Bus.lookupD_line : b.lookupD va pa' = b.lookupD va pa := by
  rw [Bus.lookupD, Bus.lookupD, (lineFields_of_line hline).1]

theorem Bus.lookupS_line : b.lookupS pa' = b.lookupS pa := by
  obtain ⟨-, htag, hset⟩ := lineFields_of_line hline
  rw [Bus.lookupS, Bus.lookupS, htag, hset]

theorem Bus.NoAnswer.line (h : b.NoAnswer pa) : b.NoAnswer pa' := by
  obtain ⟨hr, hb, hu⟩ := h
  exact ⟨(b.regionOf_line hline).trans hr, hb, hu⟩

end

section
variable {b : Bus} {pa : PhysAddr} (h : b.NoAnswer pa) (q : Nat)
include h

theorem Bus.NoAnswer.physRead (n : Nat) : b.physRead q pa.toNat n = .busError := by
  obtain ⟨hr, hb, -⟩ := h
  simp only [Bus.physRead, hr, hb, if_true]

theorem Bus.NoAnswer.uncachedRead (n : Nat) : b.uncachedRead q pa n = .busError := by
  obtain ⟨-, -, hu⟩ := id h
  simp only [Bus.uncachedRead, Bus.drain, hu, BusResult.andThen, h.physRead]

theorem Bus.NoAnswer.fetchUncached : b.fetchUncached q pa = .busError := by
  obtain ⟨-, -, hu⟩ := id h
  simp only [Bus.fetchUncached, Bus.drainLine_none hu, BusResult.andThen, h.physRead]

theorem Bus.NoAnswer.cachedRead {va : Word} (hd : b.lookupD va pa = .miss) (hs : b.lookupS pa = .miss) (n : Nat) :
    b.cachedRead q va pa n = .busError := by
  obtain ⟨hr, hb, hu⟩ := h
  have hfirst : b.physRead q (pa.toNat / 32 * 32) 8 = .busError := by
    have hr' : b.regionOf (pa.toNat / 32 * 32) = .unclaimed := (b.regionOf_line (by omega)).trans hr
    simp only [Bus.physRead, hr', hb, if_true]
  simp only [Bus.cachedRead, Bus.drainLine_none hu, BusResult.andThen, Bus.fillD, hd, Bus.fillS, hs, Bus.blockRead, hfirst]

/-- A data read that no unit answers ends in a bus error, uncached or with the line in no cache. -/
theorem Bus.NoAnswer.dataRead {va : Word} {c : BitVec 3}
    (hc : attrOf c ≠ .cached ∨ (b.lookupD va pa = .miss ∧ b.lookupS pa = .miss)) (n : Nat) :
    b.dataRead q c va pa n = .busError := by
  unfold Bus.dataRead
  split
  · next hcached =>
    obtain ⟨hd, hs⟩ := hc.resolve_left (not_not.2 hcached)
    exact h.cachedRead q hd hs n
  · exact h.uncachedRead q n

theorem Bus.NoAnswer.fetchWord {va : Word} {c : BitVec 3} (hc : attrOf c ≠ .cached) : b.fetchWord q c va pa = .busError := by
  unfold Bus.fetchWord
  split
  · next hcached => exact absurd hcached hc
  · exact h.fetchUncached q

end

theorem LoadsAt.busError {s : State} {va : Word} {n : Nat} {o : Outcome} (h : LoadsAt s va n o) (hal : va.toNat % n = 0)
    {pa : PhysAddr} {c : BitVec 3} (ht : s.translateData false va = .ok pa c) (hw : s.watchHit false va = false)
    (hno : s.bus.NoAnswer pa)
    (hc : attrOf c ≠ .cached ∨ (s.bus.lookupD va pa = .miss ∧ s.bus.lookupS pa = .miss)) :
    o = .next (enterException .busErrorData s) := by
  obtain ⟨pos, len, k, hpos, rfl⟩ := h
  have hline : (pos pa).toNat / 32 = pa.toNat / 32 := by
    have := hpos pa
    omega
  rw [← Bus.lookupD_line hline, ← Bus.lookupS_line hline] at hc
  rw [dataAccess_translated s false n va _ pa c hal ht hw, (hno.line hline).dataRead _ hc]
  rfl

/-! The fetch. -/

theorem step_of_fetch_exc {s u t : State} {e : Exc} (hb : s.tick.boundary = .run u) (hf : u.fetch = .exc e t) :
    step s = .next (enterException e t) := by
  simp only [step, hb, runInstr, hf, raise]

theorem State.fetch_misaligned {s : State} (h : s.pc.toNat % 4 ≠ 0) : s.fetch = .exc (.addressError false s.pc) s := if_pos h

theorem State.fetch_busError {s : State} {pa : PhysAddr} {c : BitVec 3} {l : List ItlbEntry} (hal : s.pc.toNat % 4 = 0)
    (ht : s.translateFetch = .ok pa c l) (hno : s.bus.NoAnswer pa) (hc : attrOf c ≠ .cached) :
    s.fetch = .exc .busErrorFetch { s with itlb := l } := by
  simp only [State.fetch, hal, ht, hno.fetchWord _ hc, ne_eq, not_true_eq_false, if_false]

/-- Settles O20: every load and store is an access, and the access ends in its exception. -/
theorem misalignedAccess : Obligations.MisalignedAccess := by
  intro s base rt offset va bad loadError storeError
  have loads (hr : rt ≠ 0#5) := loadsAt_of_mem s base offset hr
  have stores := storesAt_of_mem s base rt offset
  have lwc1 (hu : s.Cp1Usable) := loadsAt_lwc1 base rt offset hu
  have swc1 (hu : s.Cp1Usable) := storesAt_swc1 base rt offset hu
  have ldc1 (hu : s.Cp1Usable) (hok : fpr64Ok s.cp0.status rt = true) := loadsAt_ldc1 base offset hu hok
  have sdc1 (hu : s.Cp1Usable) (hok : fpr64Ok s.cp0.status rt = true) := storesAt_sdc1 base offset hu hok
  have allLoads (p : Instr → Prop) (hp : ∀ i n, LoadsAt s va n (exec i s) → va.toNat % n = 0 → p i) :
      (rt ≠ 0#5 → ∀ i ∈ loadOps base rt offset, va.toNat % i.2 = 0 → p i.1) ∧
        (s.Cp1Usable → (va.toNat % 4 = 0 → p (.lwc1 base rt offset)) ∧
          (va.toNat % 8 = 0 → fpr64Ok s.cp0.status rt = true → p (.ldc1 base rt offset))) :=
    ⟨fun hr i hi hal => hp _ _ (loads hr i hi) hal,
      fun hu => ⟨fun hal => hp _ _ (lwc1 hu) hal, fun hal hok => hp _ _ (ldc1 hu hok) hal⟩⟩
  have allStores (p : Instr → Prop) (hp : ∀ i n, StoresAt s va n (exec i s) → va.toNat % n = 0 → p i) :
      (∀ i ∈ storeOps base rt offset, va.toNat % i.2 = 0 → p i.1) ∧
        (s.Cp1Usable → (va.toNat % 4 = 0 → p (.swc1 base rt offset)) ∧
          (va.toNat % 8 = 0 → fpr64Ok s.cp0.status rt = true → p (.sdc1 base rt offset))) :=
    ⟨fun i hi hal => hp _ _ (stores i hi) hal,
      fun hu => ⟨fun hal => hp _ _ (swc1 hu) hal, fun hal hok => hp _ _ (sdc1 hu hok) hal⟩⟩
  refine ⟨fun hr p hp hbad => ?loads, fun p hp hbad => ?stores,
    fun hu => ⟨fun hbad => ⟨(lwc1 hu).misaligned hbad, (swc1 hu).misaligned hbad⟩,
      fun hbad hok => ⟨(ldc1 hu hok).misaligned hbad, (sdc1 hu hok).misaligned hbad⟩⟩,
    rfl, enterException_excCode _ s, rfl, enterException_excCode _ s, rfl,
    fun u hb hal => ⟨step_of_fetch_exc hb (State.fetch_misaligned hal), rfl⟩,
    fun e he => allLoads _ fun i n h hal => h.exc hal he, fun e he => allStores _ fun i n h hal => h.exc hal he,
    fun pa c ht hw hno hc => allLoads _ fun i n h hal => h.busError hal ht hw hno hc,
    fun u pa c l hb hal ht hno hc => step_of_fetch_exc hb (State.fetch_busError hal ht hno hc),
    fun hwatch => ⟨?watchLoads, ?watchStores⟩⟩
  case loads =>
    have hsub : ∀ p ∈ [(Instr.lh base rt offset, 2), (.lhu base rt offset, 2), (.lw base rt offset, 4),
        (.lwu base rt offset, 4), (.ll base rt offset, 4), (.ld base rt offset, 8), (.lld base rt offset, 8)],
        p ∈ loadOps base rt offset := by simp [loadOps]
    exact (loads hr p (hsub p hp)).misaligned hbad
  case stores =>
    have hsub : ∀ p ∈ [(Instr.sh base rt offset, 2), (.sw base rt offset, 4), (.sc base rt offset, 4),
        (.sd base rt offset, 8), (.scd base rt offset, 8)], p ∈ storeOps base rt offset := by simp [storeOps]
    exact (stores p (hsub p hp)).misaligned hbad
  case watchLoads =>
    rintro hread ⟨pa, c, ht⟩
    have hhit : s.watchHit false va = true := by
      simp only [State.watchHit, hwatch, hread, decide_true, Bool.true_and, Bool.false_eq_true, if_false]
    exact allLoads _ fun i n h hal => h.watched hal ht hhit
  case watchStores =>
    rintro hwrite ⟨pa, c, ht⟩
    have hhit : s.watchHit true va = true := by
      simp only [State.watchHit, hwatch, hwrite, decide_true, Bool.true_and, if_true]
    exact allStores _ fun i n h hal => h.watched hal ht hhit

end Sys2Proof.Machine
end

section
/-! The left and right loads and stores, uncached to memory. -/

namespace Sys2Proof.Machine

/-! Accesses elsewhere in the line of the address. -/

theorem primarySlots_line {pa pa' : PhysAddr} (h : pa'.toNat / 32 = pa.toNat / 32) : primarySlots pa' = primarySlots pa := by
  have hset : (pa'.extractLsb' 5 7).toNat = (pa.extractLsb' 5 7).toNat := by
    rw [BitVec.extractLsb'_toNat, BitVec.extractLsb'_toNat, Nat.shiftRight_eq_div_pow, Nat.shiftRight_eq_div_pow]
    omega
  rw [primarySlots, primarySlots, coloursOf, coloursOf, hset]

section
variable {b : Bus} {pa pa' : PhysAddr} (hline : pa'.toNat / 32 = pa.toNat / 32)
include hline

theorem Bus.dCopies_line : b.dCopies pa' = b.dCopies pa := by
  obtain ⟨htag, -, -⟩ := lineFields_of_line hline
  rw [Bus.dCopies, Bus.dCopies, htag, primarySlots_line hline]

theorem Bus.dataCached_line : b.dataCached pa' = b.dataCached pa := by
  rw [Bus.dataCached, Bus.dataCached, Bus.dCopies_line hline, Bus.lookupS_line hline]

theorem lineNumber_line : lineNumber pa' = lineNumber pa := hline

theorem Bus.usedUncached_line : b.usedUncached pa' = b.usedUncached pa := by
  rw [Bus.usedUncached, Bus.usedUncached, lineNumber_line hline]

variable {s : State} {va : Word}

theorem dataAccess_read_line (h : s.ReachesRam false va pa) (n : Nat) :
    ∃ c, s.translateData false va = .ok pa c ∧ s.watchHit false va = false ∧
      s.bus.dataRead s.seq c va pa' n = .ok (BitVec.ofNat 64 (bytesAt s.bus.mem pa'.toNat n)) (s.bus.usedUncached pa) := by
  obtain ⟨⟨c, ht, hc⟩, hw, hr, hu, hd, hh⟩ := h
  refine ⟨c, ht, hw, ?_⟩
  rw [← Bus.dataCached_line hline] at hd
  rw [← lineNumber_line hline] at hh
  rw [bytesAt_eq_memRead, Bus.dataRead_uncached hc, Bus.uncachedRead_ram _ _ _ hu ((s.bus.regionOf_line hline).trans hr)
    (Bus.dirtyCopy_uncached hd) hh, Bus.usedUncached_line hline]

theorem dataAccess_write_line (h : s.ReachesRam true va pa) (n : Nat) (v : Word) :
    ∃ c, s.translateData true va = .ok pa c ∧ s.watchHit true va = false ∧
      s.bus.dataWrite s.seq c va pa' n v =
        .ok () ((s.storedUncached pa' n v).withMem (memWrite s.bus.mem pa'.toNat n v.toNat)).bus := by
  obtain ⟨⟨c, ht, hc⟩, hw, hr, hu, hd, -⟩ := h
  refine ⟨c, ht, hw, ?_⟩
  rw [← Bus.dataCached_line hline] at hd
  rw [Bus.dataWrite_uncached hc hu, Bus.uncachedWrite_ram _ _ _ _ ((s.bus.regionOf_line hline).trans hr) hd]
  rfl

end

theorem alignedTo_line (pa : PhysAddr) {size : Nat} (hsize : size = 4 ∨ size = 8) :
    (alignedTo pa size 0).toNat / 32 = pa.toNat / 32 := by
  rw [toNat_alignedTo]
  rcases hsize with rfl | rfl <;> omega

section
variable {s : State} {base rt : RegNum} {offset : BitVec 16} {pa : PhysAddr} {size : Nat}
  {place : Nat → Word → Word → Word}

theorem loadLeft_ram (hsize : size = 4 ∨ size = 8) (h : s.ReachesRam false (s.effectiveAddress base offset) pa)
    (hr : rt ≠ 0#5) : loadLeft s base rt offset size place =
      finishGpr (s.usedUncached pa) rt (place ((s.effectiveAddress base offset).toNat % size) (s.readGpr rt)
        (BitVec.ofNat 64 (bytesAt s.bus.mem (pa.toNat / size * size)
          ((s.effectiveAddress base offset).toNat % size + 1)))) := by
  obtain ⟨c, ht, hw, hread⟩ := dataAccess_read_line (alignedTo_line pa hsize) h
    ((s.effectiveAddress base offset).toNat % size + 1)
  rw [toNat_alignedTo] at hread
  refine (if_neg hr).trans ?_
  dsimp only
  rw [dataAccess_translated s false 1 _ _ pa c (Nat.mod_one _) ht hw, hread, BusResult.toMem_ok, MemResult.finish_ok]
  rfl

theorem loadRight_ram (h : s.ReachesRam false (s.effectiveAddress base offset) pa) (hr : rt ≠ 0#5) :
    loadRight s base rt offset size place =
      finishGpr (s.usedUncached pa) rt (place ((s.effectiveAddress base offset).toNat % size) (s.readGpr rt)
        (BitVec.ofNat 64 (bytesAt s.bus.mem pa.toNat (size - (s.effectiveAddress base offset).toNat % size)))) := by
  obtain ⟨c, ht, hw, hread⟩ := dataAccess_read_line (pa' := pa) rfl h
    (size - (s.effectiveAddress base offset).toNat % size)
  refine (if_neg hr).trans ?_
  dsimp only
  rw [dataAccess_translated s false 1 _ _ pa c (Nat.mod_one _) ht hw, hread, BusResult.toMem_ok, MemResult.finish_ok]
  rfl

variable (ha : s.CanAdvance)
include ha

theorem storeLeft_ram (hsize : size = 4 ∨ size = 8) (h : s.ReachesRam true (s.effectiveAddress base offset) pa) {v : Word}
    (hv : v = wordGet (s.readGpr rt) (size - 1 - (s.effectiveAddress base offset).toNat % size)
      ((s.effectiveAddress base offset).toNat % size + 1)) :
    storeLeft s base rt offset size = .next ((s.storedUncached (alignedTo pa size 0)
      ((s.effectiveAddress base offset).toNat % size + 1) v).withMem (memWrite s.bus.mem (alignedTo pa size 0).toNat
        ((s.effectiveAddress base offset).toNat % size + 1) v.toNat)).after := by
  subst hv
  obtain ⟨c, ht, hw, hwrite⟩ := dataAccess_write_line (alignedTo_line pa hsize) h
    ((s.effectiveAddress base offset).toNat % size + 1) (wordGet (s.readGpr rt)
      (size - 1 - (s.effectiveAddress base offset).toNat % size) ((s.effectiveAddress base offset).toNat % size + 1))
  unfold storeLeft
  dsimp only
  rw [dataAccess_translated s true 1 _ _ pa c (Nat.mod_one _) ht hw, hwrite, BusResult.toMem_ok, MemResult.finish_ok]
  exact advance_of_canAdvance (ha.congr rfl rfl)

theorem storeRight_ram (h : s.ReachesRam true (s.effectiveAddress base offset) pa) :
    storeRight s base rt offset size = .next ((s.storedUncached pa
      (size - (s.effectiveAddress base offset).toNat % size) (s.readGpr rt)).withMem (memWrite s.bus.mem pa.toNat
        (size - (s.effectiveAddress base offset).toNat % size) (s.readGpr rt).toNat)).after := by
  obtain ⟨c, ht, hw, hwrite⟩ := dataAccess_write_line (pa' := pa) rfl h
    (size - (s.effectiveAddress base offset).toNat % size) (s.readGpr rt)
  unfold storeRight
  dsimp only
  rw [dataAccess_translated s true 1 _ _ pa c (Nat.mod_one _) ht hw, hwrite, BusResult.toMem_ok, MemResult.finish_ok]
  exact advance_of_canAdvance (ha.congr rfl rfl)

end

/-! Merging as numbers. -/

section
variable {w : Nat} (x y : BitVec w) {k : Nat}

theorem toNat_and_low (hk : k ≤ w) : (x &&& BitVec.ofNat w (2 ^ k - 1)).toNat = x.toNat % 2 ^ k := by
  have hlt : 2 ^ k - 1 < 2 ^ w := lt_of_lt_of_le (Nat.sub_lt (Nat.two_pow_pos k) one_pos) (Nat.pow_le_pow_right two_pos hk)
  rw [BitVec.toNat_and, BitVec.toNat_ofNat, Nat.mod_eq_of_lt hlt, Nat.and_two_pow_sub_one_eq_mod]

theorem toNat_and_high : (x &&& ~~~BitVec.ofNat w (2 ^ k - 1)).toNat = x.toNat / 2 ^ k * 2 ^ k := by
  refine Nat.eq_of_testBit_eq fun i => ?_
  rw [BitVec.testBit_toNat, BitVec.getLsbD_and, BitVec.getLsbD_not, BitVec.getLsbD_ofNat, Nat.testBit_two_pow_sub_one,
    Nat.testBit_mul_two_pow, Nat.testBit_div_two_pow, BitVec.testBit_toNat]
  by_cases h : i < k
  · simp [h, show ¬k ≤ i by omega]
  · by_cases hw : i < w
    · simp [h, hw, show k ≤ i by omega]
    · simp [BitVec.getLsbD_of_ge x i (not_lt.1 hw), hw, show i - k + k = i by omega]

variable {x y} in
theorem toNat_or_of_low (hx : x.toNat % 2 ^ k = 0) (hy : y.toNat < 2 ^ k) : (x ||| y).toNat = x.toNat + y.toNat := by
  obtain ⟨q, hq⟩ := Nat.dvd_of_mod_eq_zero hx
  rw [BitVec.toNat_or, hq, Nat.mul_comm, ← Nat.shiftLeft_eq, Nat.shiftLeft_add_eq_or_of_lt hy]

end

section
variable {b n : Nat} (old : Word)

/-- LWL: the bytes at the upper end of the word. -/
theorem placeWordLeft_eq (hb : b < 4) (hn : n < 256 ^ (b + 1)) : placeWordLeft b old (BitVec.ofNat 64 n) =
    BitVec.ofInt 64 (Int.bmod (n * 256 ^ (3 - b) + old.toNat % 256 ^ (3 - b) : Nat) (2 ^ 32)) := by
  have hk : 8 * (3 - b) ≤ 32 := by omega
  have hle : 256 ^ (b + 1) * 2 ^ (8 * (3 - b)) = 2 ^ 32 := by
    rw [pow_256, ← pow_add]
    congr 1
    omega
  have hlt : n * 2 ^ (8 * (3 - b)) < 2 ^ 32 := hle ▸ Nat.mul_lt_mul_of_pos_right hn (Nat.two_pow_pos _)
  have hn32 : n < 2 ^ 32 := lt_of_le_of_lt (Nat.le_mul_of_pos_right n (Nat.two_pow_pos _)) hlt
  have hhigh : (low32 (BitVec.ofNat 64 n) <<< (8 * (3 - b))).toNat = n * 2 ^ (8 * (3 - b)) := by
    rw [low32, BitVec.setWidth_ofNat_of_le (by decide), BitVec.toNat_shiftLeft, BitVec.toNat_ofNat, Nat.mod_eq_of_lt hn32,
      Nat.shiftLeft_eq, Nat.mod_eq_of_lt hlt]
  have hlow : (low32 old &&& BitVec.ofNat 32 (2 ^ (8 * (3 - b)) - 1)).toNat = old.toNat % 2 ^ (8 * (3 - b)) := by
    rw [toNat_and_low _ hk, low32, BitVec.toNat_setWidth, Nat.mod_mod_of_dvd _ (Nat.pow_dvd_pow 2 hk)]
  rw [placeWordLeft, sext32_eq_bmod_toNat, toNat_or_of_low (by rw [hhigh]; exact Nat.mul_mod_left _ _)
    (by rw [hlow]; exact Nat.mod_lt _ (Nat.two_pow_pos _)), hhigh, hlow, pow_256]

/-- LWR: the bytes at the lower end of the word. -/
theorem placeWordRight_eq (hb : b < 4) (hn : n < 256 ^ (4 - b)) : placeWordRight b old (BitVec.ofNat 64 n) =
    BitVec.ofInt 64 (Int.bmod (old.toNat % 2 ^ 32 / 256 ^ (4 - b) * 256 ^ (4 - b) + n : Nat) (2 ^ 32)) := by
  have hk : 32 - 8 * b = 8 * (4 - b) := by omega
  rw [pow_256] at hn
  have hn32 : n < 2 ^ 32 := lt_of_lt_of_le hn (Nat.pow_le_pow_right two_pos (by omega))
  have hlow : (low32 (BitVec.ofNat 64 n)).toNat = n := by
    rw [low32, BitVec.setWidth_ofNat_of_le (by decide), BitVec.toNat_ofNat, Nat.mod_eq_of_lt hn32]
  rw [placeWordRight, sext32_eq_bmod_toNat, hk, toNat_or_of_low (k := 8 * (4 - b))
    (by rw [toNat_and_high]; exact Nat.mul_mod_left _ _) (by rw [hlow]; exact hn), toNat_and_high, hlow, pow_256, low32,
    BitVec.toNat_setWidth]

/-- LDL: the bytes at the upper end of the doubleword. -/
theorem placeDoubleLeft_eq (hb : b < 8) (hn : n < 256 ^ (b + 1)) : placeDoubleLeft b old (BitVec.ofNat 64 n) =
    BitVec.ofNat 64 (n * 256 ^ (7 - b) + old.toNat % 256 ^ (7 - b)) := by
  have hk : 8 * (7 - b) ≤ 64 := by omega
  have hle : 256 ^ (b + 1) * 2 ^ (8 * (7 - b)) = 2 ^ 64 := by
    rw [pow_256, ← pow_add]
    congr 1
    omega
  have hlt : n * 2 ^ (8 * (7 - b)) < 2 ^ 64 := hle ▸ Nat.mul_lt_mul_of_pos_right hn (Nat.two_pow_pos _)
  have hn64 : n < 2 ^ 64 := lt_of_le_of_lt (Nat.le_mul_of_pos_right n (Nat.two_pow_pos _)) hlt
  have hhigh : (BitVec.ofNat 64 n <<< (8 * (7 - b))).toNat = n * 2 ^ (8 * (7 - b)) := by
    rw [BitVec.toNat_shiftLeft, BitVec.toNat_ofNat, Nat.mod_eq_of_lt hn64, Nat.shiftLeft_eq, Nat.mod_eq_of_lt hlt]
  refine BitVec.eq_of_toNat_eq ?_
  have hor := toNat_or_of_low (x := BitVec.ofNat 64 n <<< (8 * (7 - b)))
    (y := old &&& BitVec.ofNat 64 (2 ^ (8 * (7 - b)) - 1)) (by rw [hhigh]; exact Nat.mul_mod_left _ _)
    (by rw [toNat_and_low _ hk]; exact Nat.mod_lt _ (Nat.two_pow_pos _))
  rw [placeDoubleLeft, BitVec.toNat_ofNat, pow_256, Nat.mod_eq_of_lt, hor, hhigh, toNat_and_low _ hk]
  rw [← hhigh, ← toNat_and_low old hk, ← hor]
  exact BitVec.isLt _

/-- LDR: the bytes at the lower end of the doubleword. -/
theorem placeDoubleRight_eq (hb : b < 8) (hn : n < 256 ^ (8 - b)) : placeDoubleRight b old (BitVec.ofNat 64 n) =
    BitVec.ofNat 64 (old.toNat / 256 ^ (8 - b) * 256 ^ (8 - b) + n) := by
  have hk : 64 - 8 * b = 8 * (8 - b) := by omega
  rw [pow_256] at hn
  have hn64 : n < 2 ^ 64 := lt_of_lt_of_le hn (Nat.pow_le_pow_right two_pos (by omega))
  have hlow : (BitVec.ofNat 64 n).toNat = n := by rw [BitVec.toNat_ofNat, Nat.mod_eq_of_lt hn64]
  have hor := toNat_or_of_low (x := old &&& ~~~BitVec.ofNat 64 (2 ^ (8 * (8 - b)) - 1)) (y := BitVec.ofNat 64 n)
    (k := 8 * (8 - b)) (by rw [toNat_and_high]; exact Nat.mul_mod_left _ _) (by rw [hlow]; exact hn)
  refine BitVec.eq_of_toNat_eq ?_
  rw [placeDoubleRight, hk, BitVec.toNat_ofNat, pow_256, Nat.mod_eq_of_lt, hor, toNat_and_high, hlow]
  rw [← toNat_and_high, ← hlow, ← hor]
  exact BitVec.isLt _

end

theorem bytesAt_lt (m : Memory) (a n : Nat) : bytesAt m a n < 256 ^ n := bytesAt_eq_memRead m a n ▸ memRead_lt m a n

/-- The bytes a left store takes from the register, as a number. -/
theorem wordGet_eq_ofNat (v : Word) {k : Nat} (n : Nat) :
    wordGet v k n = BitVec.ofNat 64 (v.toNat % 256 ^ (k + n) / 256 ^ k) := by
  refine BitVec.eq_of_getLsbD_eq fun i hi => ?_
  rw [getLsbD_wordGet, BitVec.getLsbD_ofNat, pow_256, pow_256, Nat.testBit_div_two_pow, Nat.testBit_mod_two_pow,
    BitVec.testBit_toNat, show i + 8 * k = 8 * k + i by omega]
  have hiff : (i < 64 ∧ i < 8 * n) ↔ 8 * k + i < 8 * (k + n) := by omega
  rw [decide_eq_decide.2 hiff, decide_eq_true hi, Bool.true_and]

/-- The bytes of the word below an address in memory. -/
theorem sub_mod_eq {a b : Nat} (n : Nat) (h : a % n = b % n) : a - b % n = a / n * n := by
  have := Nat.div_add_mod a n
  rw [← h, Nat.mul_comm (a / n)]
  omega

/-- Settles O18: each access touches its bytes, and merging them is arithmetic. -/
theorem leftAndRight : Obligations.LeftAndRight := by
  intro s base rt offset pa ha va hal mem old u b4 b8
  have hb4 : b4 < 4 := Nat.mod_lt _ (by decide)
  have hb8 : b8 < 8 := Nat.mod_lt _ (by decide)
  have hbelow4 : pa.toNat - b4 = pa.toNat / 4 * 4 := sub_mod_eq 4 (by omega)
  have hbelow8 : pa.toNat - b8 = pa.toNat / 8 * 8 := sub_mod_eq 8 hal
  refine ⟨fun h hr => ⟨?lwl, ?lwr, ?ldl, ?ldr⟩, fun h => ⟨?swl, ?swr, ?sdl, ?sdr⟩⟩
  case lwl =>
    rw [← placeWordLeft_eq old hb4 (bytesAt_lt _ _ _), hbelow4]
    exact (loadLeft_ram (.inl rfl) h hr).trans (finishGpr_of_canAdvance _ _ (ha.congr rfl rfl))
  case lwr =>
    rw [← placeWordRight_eq old hb4 (bytesAt_lt _ _ _)]
    exact (loadRight_ram h hr).trans (finishGpr_of_canAdvance _ _ (ha.congr rfl rfl))
  case ldl =>
    rw [← placeDoubleLeft_eq old hb8 (bytesAt_lt _ _ _), hbelow8]
    exact (loadLeft_ram (.inr rfl) h hr).trans (finishGpr_of_canAdvance _ _ (ha.congr rfl rfl))
  case ldr =>
    rw [← placeDoubleRight_eq old hb8 (bytesAt_lt _ _ _)]
    exact (loadRight_ram h hr).trans (finishGpr_of_canAdvance _ _ (ha.congr rfl rfl))
  case swl =>
    have hv := wordGet_eq_ofNat old (k := 3 - b4) (b4 + 1)
    rw [show 3 - b4 + (b4 + 1) = 4 by omega] at hv
    have hword : (BitVec.ofNat 64 (old.toNat % 256 ^ 4 / 256 ^ (3 - b4))).toNat = old.toNat % 256 ^ 4 / 256 ^ (3 - b4) :=
      Nat.mod_eq_of_lt (lt_of_le_of_lt (Nat.div_le_self _ _) (lt_trans (Nat.mod_lt _ (by decide)) (by decide)))
    refine ⟨_, stored_memWrite _ _ _ _, ?_⟩
    have hexec := storeLeft_ram (rt := rt) ha (.inl rfl) h hv.symm
    rw [toNat_alignedTo, ← hbelow4, alignedTo, Nat.add_zero, ← hbelow4, hword] at hexec
    exact hexec
  case swr =>
    refine ⟨_, stored_memWrite _ _ _ _, ?_⟩
    rw [BitVec.ofNat_toNat, BitVec.ofNat_toNat, BitVec.setWidth_eq, BitVec.setWidth_eq]
    exact storeRight_ram ha h
  case sdl =>
    have hv := wordGet_eq_ofNat old (k := 7 - b8) (b8 + 1)
    have hold : old.toNat % 256 ^ 8 = old.toNat := Nat.mod_eq_of_lt old.isLt
    rw [show 7 - b8 + (b8 + 1) = 8 by omega, hold] at hv
    have hword : (BitVec.ofNat 64 (old.toNat / 256 ^ (7 - b8))).toNat = old.toNat / 256 ^ (7 - b8) :=
      Nat.mod_eq_of_lt (lt_of_le_of_lt (Nat.div_le_self _ _) old.isLt)
    refine ⟨_, stored_memWrite _ _ _ _, ?_⟩
    have hexec := storeLeft_ram (rt := rt) ha (.inr rfl) h hv.symm
    rw [toNat_alignedTo, ← hbelow8, alignedTo, Nat.add_zero, ← hbelow8, hword] at hexec
    exact hexec
  case sdr =>
    refine ⟨_, stored_memWrite _ _ _ _, ?_⟩
    rw [BitVec.ofNat_toNat, BitVec.ofNat_toNat, BitVec.setWidth_eq, BitVec.setWidth_eq]
    exact storeRight_ram ha h

/-! A right load and a left load together. -/

theorem State.translateData_congr {s t : State} (hc : t.cp0 = s.cp0) (ht : t.tlb = s.tlb) (store : Bool) (va : Word) :
    t.translateData store va = s.translateData store va := by
  unfold State.translateData State.asid
  rw [hc, ht]

/-- An uncached access leaves the next one of memory as it was. -/
theorem State.ReachesRam.after_use {s t : State} {va : Word} {pa used : PhysAddr} (h : s.ReachesRam false va pa)
    (hc : t.cp0 = s.cp0) (ht : t.tlb = s.tlb) (hb : t.bus = s.bus.usedUncached used) : t.ReachesRam false va pa := by
  obtain ⟨⟨c, htrans, hattr⟩, hw, hr, hu, hd, hh⟩ := h
  refine ⟨⟨c, ?_, hattr⟩, ?_, ?_, ?_, ?_, ?_⟩
  · rw [State.translateData_congr hc ht, htrans]
  · rw [State.watchHit, hc]
    exact hw
  · rw [hb]; exact hr
  · rw [hb]; exact hu
  · rw [hb]; exact hd
  · rw [hb, Bus.usedUncached, Bus.record_historyOf]
    split
    · next hline => rw [← hline]; exact hh
    · exact hh

/-- The bytes of a value from two reads that meet. -/
theorem bytesAt_pair (m : Memory) (a : Nat) {k n : Nat} (hk : k ≤ n) :
    bytesAt m (a + k) (n - k) * 256 ^ k + bytesAt m a k = bytesAt m a n := by
  have hadd := memRead_add m a k (n - k)
  rw [Nat.add_sub_cancel' hk] at hadd
  rw [bytesAt_eq_memRead, bytesAt_eq_memRead, bytesAt_eq_memRead, hadd, Nat.mul_comm, Nat.add_comm]

section
variable {s t u : State} {base rt : RegNum} {lo hi : BitVec 16} {p q : PhysAddr} {size : Nat}
  {right left : Nat → Word → Word → Word} (hr : rt ≠ 0#5) (hbase : base ≠ rt) (hsize : size = 4 ∨ size = 8)
  (hp : s.ReachesRam false (s.effectiveAddress base lo) p) (hq : s.ReachesRam false (s.effectiveAddress base hi) q)
  (hright : loadRight s base rt lo size right = .next t) (hleft : loadLeft t base rt hi size left = .next u)
include hr hbase hsize hp hq hright hleft

/-- What the pair leaves in the register, and the bus after it. -/
theorem pair_done :
    u.readGpr rt = left ((s.effectiveAddress base hi).toNat % size)
      (right ((s.effectiveAddress base lo).toNat % size) (s.readGpr rt)
        (BitVec.ofNat 64 (bytesAt s.bus.mem p.toNat (size - (s.effectiveAddress base lo).toNat % size))))
      (BitVec.ofNat 64 (bytesAt s.bus.mem (q.toNat / size * size) ((s.effectiveAddress base hi).toNat % size + 1))) ∧
      u.bus = (s.bus.usedUncached p).usedUncached q := by
  rw [loadRight_ram hp hr, finishGpr_eq_next] at hright
  obtain ⟨-, rfl⟩ := hright
  generalize hv : right _ _ _ = v at hleft ⊢
  generalize ht : ((s.usedUncached p).writeGpr rt v).after = t at hleft
  have hbus : t.bus = s.bus.usedUncached p := by rw [← ht, State.after_bus, State.writeGpr_bus]; rfl
  have haddr : t.effectiveAddress base hi = s.effectiveAddress base hi := by
    rw [State.effectiveAddress, ← ht, State.readGpr_congr (State.after_gpr _), State.readGpr_writeGpr_other _ _ _ _ hbase]
    rfl
  have hold : t.readGpr rt = v := by
    rw [← ht, State.readGpr_congr (State.after_gpr _), State.readGpr_writeGpr_self _ _ _ hr]
  have hq' : t.ReachesRam false (t.effectiveAddress base hi) q :=
    haddr ▸ hq.after_use (by rw [← ht, State.after_cp0, State.writeGpr_cp0]; rfl)
      (by rw [← ht, State.after_tlb, State.writeGpr_tlb]; rfl) hbus
  rw [loadLeft_ram hsize hq' hr, finishGpr_eq_next] at hleft
  obtain ⟨-, rfl⟩ := hleft
  have hmem : t.bus.mem = s.bus.mem := by rw [hbus]; rfl
  refine ⟨?_, ?_⟩
  · rw [State.readGpr_congr (State.after_gpr _), State.readGpr_writeGpr_self _ _ _ hr, haddr, hold, hmem]
  · rw [State.after_bus, State.writeGpr_bus, ← hbus]
    rfl

end

/-- The bytes the left load keeps are those the right load delivered. -/
theorem kept_bytes (m : Memory) (a x : Nat) {b k n : Nat} (hk : k = 0 ∨ k = n - b) :
    (x * 256 ^ (n - b) + bytesAt m a (n - b)) % 256 ^ k = bytesAt m a k := by
  rcases hk with rfl | rfl
  · rw [pow_zero, Nat.mod_one]
    rfl
  · rw [Nat.mul_add_mod_self_right, Nat.mod_eq_of_lt (bytesAt_lt _ _ _)]

/-- The low word of a sign-extended number. -/
theorem toNat_ofInt_bmod_mod (x : Nat) : (BitVec.ofInt 64 (Int.bmod x (2 ^ 32))).toNat % 2 ^ 32 = x % 2 ^ 32 := by
  have hlow (y : BitVec 32) : low32 (sext32 y) = y := by
    refine BitVec.eq_of_getLsbD_eq fun i hi => ?_
    rw [low32, sext32, BitVec.getLsbD_setWidth, BitVec.getLsbD_signExtend]
    simp [hi, show i < 64 by omega]
  rw [← sext32_ofInt, ← BitVec.toNat_setWidth]
  show (low32 (sext32 _)).toNat = _
  rw [hlow, BitVec.ofInt_natCast, BitVec.toNat_ofNat]

/-- Settles O19: the left load keeps what the right load delivered, and the bytes meet. -/
theorem unalignedPairs : Obligations.UnalignedPairs := by
  intro s t u base rt lo hi p q hr hbase hp hq hpmod hqmod
  refine ⟨fun hpq hlwr hlwl => ?word, fun hpq hldr hldl => ?double⟩
  case word =>
    obtain ⟨hu, hbus⟩ := pair_done hr hbase (.inl rfl) hp hq hlwr hlwl
    refine ⟨hu.trans ?_, hbus⟩
    have hlo : (s.effectiveAddress base lo).toNat % 4 = p.toNat % 4 := by
      have : p.toNat % 8 = (s.effectiveAddress base lo).toNat % 8 := hpmod
      omega
    have hhi : (s.effectiveAddress base hi).toNat % 4 = q.toNat % 4 := by
      have : q.toNat % 8 = (s.effectiveAddress base hi).toNat % 8 := hqmod
      omega
    have hk : 3 - q.toNat % 4 = 0 ∨ 3 - q.toNat % 4 = 4 - p.toNat % 4 := by omega
    have hmod : (2 ^ 32 : Nat) = 256 ^ (3 - q.toNat % 4) * 256 ^ (4 - (3 - q.toNat % 4)) := by
      rw [← pow_add, show 3 - q.toNat % 4 + (4 - (3 - q.toNat % 4)) = 4 by omega, pow_256]
    rw [hlo, hhi, placeWordRight_eq _ (Nat.mod_lt _ (by decide)) (bytesAt_lt _ _ _),
      placeWordLeft_eq _ (Nat.mod_lt _ (by decide)) (bytesAt_lt _ _ _), ← Nat.mod_mod_of_dvd _ (Dvd.intro _ hmod.symm),
      toNat_ofInt_bmod_mod, Nat.mod_mod_of_dvd _ (Dvd.intro _ hmod.symm), kept_bytes _ _ _ hk,
      show q.toNat / 4 * 4 = p.toNat + (3 - q.toNat % 4) by omega, show q.toNat % 4 + 1 = 4 - (3 - q.toNat % 4) by omega,
      bytesAt_pair _ _ (by omega)]
  case double =>
    obtain ⟨hu, hbus⟩ := pair_done hr hbase (.inr rfl) hp hq hldr hldl
    refine ⟨hu.trans ?_, hbus⟩
    have hlo : (s.effectiveAddress base lo).toNat % 8 = p.toNat % 8 := hpmod.symm
    have hhi : (s.effectiveAddress base hi).toNat % 8 = q.toNat % 8 := hqmod.symm
    have hk : 7 - q.toNat % 8 = 0 ∨ 7 - q.toNat % 8 = 8 - p.toNat % 8 := by omega
    have hmod : (2 ^ 64 : Nat) = 256 ^ (7 - q.toNat % 8) * 256 ^ (8 - (7 - q.toNat % 8)) := by
      rw [← pow_add, show 7 - q.toNat % 8 + (8 - (7 - q.toNat % 8)) = 8 by omega, pow_256]
    rw [hlo, hhi, placeDoubleRight_eq _ (Nat.mod_lt _ (by decide)) (bytesAt_lt _ _ _),
      placeDoubleLeft_eq _ (Nat.mod_lt _ (by decide)) (bytesAt_lt _ _ _), BitVec.toNat_ofNat,
      Nat.mod_mod_of_dvd _ (Dvd.intro _ hmod.symm), kept_bytes _ _ _ hk,
      show q.toNat / 8 * 8 = p.toNat + (7 - q.toNat % 8) by omega, show q.toNat % 8 + 1 = 8 - (7 - q.toNat % 8) by omega,
      bytesAt_pair _ _ (by omega)]

end Sys2Proof.Machine
end

section
/-! Refills: the flushes in them make no line valid, and the filled line is the one that is found. Loads to register 0. -/

namespace Sys2Proof.Machine

/-! What the flushes leave alone. -/

/-- From `b` to `c` no line changes its tag and no invalid line becomes valid; the record, the gather buffer and the address
map stay, and so do the bytes of memory that `keep` holds for. -/
structure Bus.Recedes (keep : Nat → Prop) (b c : Bus) : Prop where
  dTag : ∀ k, (c.dLine k).ptag = (b.dLine k).ptag
  dInvalid : ∀ k, (b.dLine k).cs = 0#2 → (c.dLine k).cs = 0#2
  sTag : ∀ j, (c.sLine j).tag = (b.sLine j).tag
  sInvalid : ∀ j, (b.sLine j).state = 0#2 → (c.sLine j).state = 0#2
  history : c.history = b.history
  uca : c.uca = b.uca
  region : ∀ a, c.regionOf a = b.regionOf a
  mem : ∀ a, keep a → memByte c.mem a = memByte b.mem a

section
variable {keep : Nat → Prop} {b c d : Bus}

theorem Bus.Recedes.refl (b : Bus) : b.Recedes keep b :=
  ⟨fun _ => rfl, fun _ h => h, fun _ => rfl, fun _ h => h, rfl, rfl, fun _ => rfl, fun _ _ => rfl⟩

theorem Bus.Recedes.trans (h1 : b.Recedes keep c) (h2 : c.Recedes keep d) : b.Recedes keep d where
  dTag k := (h2.dTag k).trans (h1.dTag k)
  dInvalid k h := h2.dInvalid k (h1.dInvalid k h)
  sTag j := (h2.sTag j).trans (h1.sTag j)
  sInvalid j h := h2.sInvalid j (h1.sInvalid j h)
  history := h2.history.trans h1.history
  uca := h2.uca.trans h1.uca
  region a := (h2.region a).trans (h1.region a)
  mem a ha := (h2.mem a ha).trans (h1.mem a ha)

theorem Bus.Recedes.dHolds (h : b.Recedes keep c) {tag : BitVec 28} {k : Nat} (hb : b.dHolds tag k = false) :
    c.dHolds tag k = false := by
  rw [← Bool.not_eq_true, Bus.dHolds_iff, h.dTag] at *
  exact fun ⟨hcs, ht⟩ => hb ⟨mt (h.dInvalid k) hcs, ht⟩

theorem Bus.Recedes.sHolds (h : b.Recedes keep c) {tag : BitVec 23} {j : Nat} (hb : b.sHolds tag j = false) :
    c.sHolds tag j = false := by
  rw [← Bool.not_eq_true, Bus.sHolds_iff, h.sTag] at *
  exact fun ⟨hs, ht⟩ => hb ⟨mt (h.sInvalid j) hs, ht⟩

theorem Bus.invalidateD_recedes (b : Bus) (k : Nat) : b.Recedes keep (b.invalidateD k) := by
  refine ⟨fun n => ?_, fun n h => ?_, fun _ => rfl, fun _ h => h, rfl, rfl, fun _ => rfl, fun _ _ => rfl⟩
  · rw [Bus.invalidateD_dLine]
    split <;> rfl
  · rw [Bus.invalidateD_dLine]
    split
    · rfl
    · exact h

theorem Bus.mergedD_recedes {k j : Nat} (hj : (b.sLine j).state ≠ 0#2) : b.Recedes keep (b.mergedD k j) := by
  obtain ⟨d, x, hframe⟩ := b.mergedD_frame (k := k) (j := j)
  have hd := b.mergedD_dLine (k := k) (j := j)
  have hs := b.mergedD_sLine (k := k) (j := j)
  generalize b.mergedD k j = c at *
  refine ⟨fun n => ?_, fun n h => ?_, fun n => ?_, fun n h => ?_, by rw [hframe], by rw [hframe], fun a => by rw [hframe]; rfl,
    fun a _ => by rw [hframe]⟩
  · rw [hd]
    split
    · next h => rw [h]
    · rfl
  · rw [hd]
    split
    · rfl
    · exact h
  · rw [hs]
    split
    · next h => rw [h]
    · rfl
  · rw [hs]
    split
    · next hn => exact absurd (hn ▸ h) hj
    · exact h

/-! The flush of a data-cache line. -/

/-- What a successful flush of a data-cache line did. -/
theorem Bus.flushD_cases {k : Nat} (h : b.flushD k = .ok () c) : ((b.dLine k).cs ≠ 3#2 ∧ c = b.invalidateD k) ∨
    ((b.dLine k).cs = 3#2 ∧ ∃ j, b.lookupS (primaryLineAddr (b.dLine k).ptag (k / 4)) = .hit j ∧ c = b.mergedD k j) := by
  by_cases hd : (b.dLine k).cs = 3#2
  · refine .inr ⟨hd, ?_⟩
    cases hl : b.lookupS (primaryLineAddr (b.dLine k).ptag (k / 4)) with
    | hit j =>
      rw [Bus.flushD_dirty hd hl] at h
      cases h
      exact ⟨j, rfl, rfl⟩
    | miss => simp [Bus.flushD, hd, Bus.writebackD, hl, BusResult.andThen] at h
    | multiple => simp [Bus.flushD, hd, Bus.writebackD, hl, BusResult.andThen] at h
  · rw [Bus.flushD_clean hd] at h
    cases h
    exact .inl ⟨hd, rfl⟩

theorem Bus.lookupS_hit {pa : PhysAddr} {j : Nat} (h : b.lookupS pa = .hit j) :
    j / 4 = secondarySet pa ∧ (b.sLine j).state ≠ 0#2 ∧ (b.sLine j).tag = secondaryTag pa := by
  obtain ⟨hset, hholds, -⟩ := lookupSet_hit_iff.1 h
  obtain ⟨hstate, htag⟩ := Bus.sHolds_iff.1 hholds
  exact ⟨hset, hstate, htag⟩

theorem Bus.flushD_recedes {k : Nat} (h : b.flushD k = .ok () c) : b.Recedes keep c := by
  rcases Bus.flushD_cases h with ⟨-, rfl⟩ | ⟨-, j, hj, rfl⟩
  · exact b.invalidateD_recedes k
  · obtain ⟨-, hstate, -⟩ := Bus.lookupS_hit hj
    exact Bus.mergedD_recedes hstate

theorem Bus.flushAllD_recedes {ks : List Nat} (h : b.flushAllD ks = .ok () c) : b.Recedes keep c := by
  induction ks generalizing b with
  | nil => cases h; exact .refl _
  | cons k ks ih =>
    obtain ⟨u, b1, h1, h2⟩ := (BusResult.andThen_eq_ok _ _ _ _).1 h
    exact (Bus.flushD_recedes h1).trans (ih h2)

end

/-! Writes of a doubleword and of a block. -/

theorem Bus.ddrWrite_frame (b : Bus) (off : Nat) (v : BitVec 64) : ∃ d, b.ddrWrite off v = { b with ddr := d } := by
  unfold Bus.ddrWrite
  dsimp only
  split
  · split
    · exact ⟨_, rfl⟩
    · exact ⟨b.ddr, rfl⟩
  · exact ⟨b.ddr, rfl⟩

section
variable {b c : Bus} {pa : Nat}

/-- A doubleword write changes nothing but its bytes of memory, the DDR2 registers and the window registers. -/
theorem Bus.physWrite_doubleword {v : Word} (h : b.physWrite pa 8 v = .ok () c) :
    ∃ m d w, c = { b with mem := m, ddr := d, windows := w } ∧
      ∀ a, a < pa ∨ pa + 8 ≤ a → memByte m a = memByte b.mem a := by
  have hnarrow : narrowWidth pa 8 = false := rfl
  have same : ∃ m d w, b = { b with mem := m, ddr := d, windows := w } ∧
      ∀ a, a < pa ∨ pa + 8 ≤ a → memByte m a = memByte b.mem a := ⟨b.mem, b.ddr, b.windows, rfl, fun _ _ => rfl⟩
  unfold Bus.physWrite at h
  cases hr : b.regionOf pa <;>
    simp only [hr, hnarrow, if_true, Bool.false_eq_true, if_false, reduceCtorEq, BusResult.ok.injEq, true_and] at h
  case ram =>
    subst h
    exact ⟨_, b.ddr, b.windows, rfl, fun a ha => memByte_memWrite_outside _ _ _ _ _ ha⟩
  case ddr =>
    obtain ⟨d, hd⟩ := b.ddrWrite_frame (pa - 0x0FFFFE00) v
    exact ⟨b.mem, d, b.windows, h.symm.trans hd, fun _ _ => rfl⟩
  case window =>
    subst h
    exact ⟨b.mem, b.ddr, _, rfl, fun _ _ => rfl⟩
  all_goals
    subst h
    exact same

theorem Bus.blockWrite_frame {d : Line} (h : b.blockWrite pa d = .ok () c) :
    ∃ m r w, c = { b with mem := m, ddr := r, windows := w } ∧
      ∀ a, a < pa ∨ pa + 32 ≤ a → memByte m a = memByte b.mem a := by
  obtain ⟨u1, b1, h1, h⟩ := (BusResult.andThen_eq_ok _ _ _ _).1 h
  obtain ⟨u2, b2, h2, h⟩ := (BusResult.andThen_eq_ok _ _ _ _).1 h
  obtain ⟨u3, b3, h3, h4⟩ := (BusResult.andThen_eq_ok _ _ _ _).1 h
  obtain ⟨m1, r1, w1, rfl, hm1⟩ := Bus.physWrite_doubleword h1
  obtain ⟨m2, r2, w2, rfl, hm2⟩ := Bus.physWrite_doubleword h2
  obtain ⟨m3, r3, w3, rfl, hm3⟩ := Bus.physWrite_doubleword h3
  obtain ⟨m4, r4, w4, rfl, hm4⟩ := Bus.physWrite_doubleword h4
  refine ⟨m4, r4, w4, rfl, fun a ha => ?_⟩
  rw [hm4 a (by omega), hm3 a (by omega), hm2 a (by omega), hm1 a (by omega)]

end

/-! The flush of a secondary line. -/

section
variable {b e : Bus} {j : Nat}

theorem Bus.droppedS_recedes {keep : Nat → Prop} (c : Bus) (home : PhysAddr) (j : Nat) :
    c.Recedes keep (c.droppedS home j) := by
  obtain ⟨i, x, hframe⟩ := c.droppedS_frame (j := j) home
  have hd := c.droppedS_dLine (j := j) home
  have hs := c.droppedS_sLine (j := j) home
  generalize c.droppedS home j = e at *
  refine ⟨fun n => by rw [hd], fun n h => by rw [hd, h], fun n => ?_, fun n h => ?_, by rw [hframe], by rw [hframe],
    fun a => by rw [hframe]; rfl, fun a _ => by rw [hframe]⟩
  · rw [hs]
    split
    · next h => rw [h]
    · rfl
  · rw [hs]
    split
    · rfl
    · exact h

theorem Bus.blockWrite_recedes {b c : Bus} {pa : Nat} {d : Line} (h : b.blockWrite pa d = .ok () c) :
    b.Recedes (fun a => a < pa ∨ pa + 32 ≤ a) c := by
  obtain ⟨m, r, w, rfl, hm⟩ := Bus.blockWrite_frame h
  exact ⟨fun _ => rfl, fun _ h => h, fun _ => rfl, fun _ h => h, rfl, rfl, fun _ => rfl, hm⟩

/-- A flush of a secondary line makes no line valid, and changes no byte of memory but those of the line it holds. -/
theorem Bus.flushS_recedes (h : b.flushS j = .ok () e) :
    b.Recedes (fun a => (b.sLine j).state = 0#2 ∨ a / 32 ≠ (secondaryLineAddr (b.sLine j).tag (j / 4)).toNat / 32) e := by
  by_cases hs : (b.sLine j).state = 0#2
  · rw [Bus.flushS_invalid hs] at h
    cases h
    exact .refl b
  · obtain ⟨u, c, hc, -⟩ := (BusResult.andThen_eq_ok _ _ _ _).1 ((if_neg hs).symm.trans h)
    rw [Bus.flushS_valid hs hc] at h
    split at h
    · have hw := Bus.blockWrite_recedes h
      have hal := secondaryLineAddr_aligned (b.sLine j).tag (j / 4)
      refine ((Bus.flushAllD_recedes hc).trans (c.droppedS_recedes _ j)).trans ⟨hw.dTag, hw.dInvalid, hw.sTag,
        hw.sInvalid, hw.history, hw.uca, hw.region, fun a ha => hw.mem a ?_⟩
      have hne := ha.resolve_left hs
      omega
    · cases h
      exact (Bus.flushAllD_recedes hc).trans (c.droppedS_recedes _ j)

end

/-! Refills. -/

theorem cleanState_ne (cache : CacheArray) (q : Nat) : cleanState cache q ≠ 0#2 ∧ cleanState cache q ≠ 3#2 := by
  unfold cleanState
  split
  · exact ⟨by decide, by decide⟩
  · exact ⟨by decide, by decide⟩

theorem freeWay_slot (set : Nat) (cache : CacheArray) (q : Nat) : (set * 4 + freeWay cache q) / 4 = set := by
  have : freeWay cache q < 4 := Nat.mod_lt _ (by decide)
  omega

theorem Bus.Recedes.mono {keep keep' : Nat → Prop} {b c : Bus} (h : b.Recedes keep c) (hk : ∀ a, keep' a → keep a) :
    b.Recedes keep' c := { h with mem := fun a ha => h.mem a (hk a ha) }

/-- Two addresses of one secondary tag and set are in one line. -/
theorem line_of_secondary {pa pa' : PhysAddr} (htag : secondaryTag pa' = secondaryTag pa)
    (hset : secondarySet pa' = secondarySet pa) : pa'.toNat / 32 = pa.toNat / 32 := by
  have ht := congrArg BitVec.toNat htag
  rw [secondaryTag, secondaryTag, BitVec.extractLsb'_toNat, BitVec.extractLsb'_toNat, Nat.shiftRight_eq_div_pow,
    Nat.shiftRight_eq_div_pow] at ht
  rw [toNat_secondarySet, toNat_secondarySet] at hset
  have := pa.isLt
  have := pa'.isLt
  omega

theorem secondaryTag_secondaryLineAddr (tag : BitVec 23) (set : Nat) : secondaryTag (secondaryLineAddr tag set) = tag := by
  refine BitVec.eq_of_toNat_eq ?_
  rw [secondaryTag, BitVec.extractLsb'_toNat, Nat.shiftRight_eq_div_pow, toNat_secondaryLineAddr]
  have := tag.isLt
  omega

section
variable {b e : Bus} {q : Nat} {va : Word} {pa : PhysAddr}

theorem Bus.sHolds_of_miss (h : b.lookupS pa = .miss) {j : Nat} (hj : j / 4 = secondarySet pa) :
    b.sHolds (secondaryTag pa) j = false := lookupSet_miss_iff.1 h j hj

/-- What a successful refill of the secondary cache did. -/
theorem Bus.fillS_cases {j : Nat} (h : b.fillS q pa = .ok j e) : (b.lookupS pa = .hit j ∧ e = b) ∨
    (b.lookupS pa = .miss ∧ j / 4 = secondarySet pa ∧ ∃ d c, b.blockRead q (pa.toNat / 32 * 32) = .ok d b ∧
      b.Recedes (fun a => a / 32 = pa.toNat / 32) c ∧
      e = c.setSLine j { tag := secondaryTag pa, state := cleanState .secondary q, data := d }) := by
  unfold Bus.fillS at h
  cases hl : b.lookupS pa with
  | hit i =>
    simp only [hl, BusResult.ok.injEq] at h
    obtain ⟨rfl, rfl⟩ := h
    exact .inl ⟨rfl, rfl⟩
  | multiple => simp only [hl, reduceCtorEq] at h
  | miss =>
    simp only [hl, BusResult.andThen_eq_ok, BusResult.ok.injEq] at h
    obtain ⟨d, b1, hread, u, c, hflush, rfl, rfl⟩ := h
    obtain rfl := b.blockRead_bus q _ d b1 hread
    refine .inr ⟨rfl, freeWay_slot _ _ _, d, c, hread, (Bus.flushS_recedes hflush).mono fun a ha => ?_, rfl⟩
    by_contra hno
    push Not at hno
    obtain ⟨hstate, hline⟩ := hno
    have hholds := Bus.sHolds_of_miss hl (freeWay_slot (secondarySet pa) .secondary q)
    have htag : secondaryTag pa = (b1.sLine (secondarySet pa * 4 + freeWay .secondary q)).tag := by
      have hfields := lineFields_of_line (ha.symm.trans hline)
      rw [secondaryTag_secondaryLineAddr] at hfields
      exact hfields.2.1
    exact Bool.false_ne_true (hholds.symm.trans (Bus.sHolds_iff.2 ⟨hstate, htag.symm⟩))

/-- What a successful refill of the data cache did. -/
theorem Bus.fillD_cases {k : Nat} (h : b.fillD q va pa = .ok k e) : (b.lookupD va pa = .hit k ∧ e = b) ∨
    (b.lookupD va pa = .miss ∧ k / 4 = primarySet va ∧ ∃ j b1 b2, b.fillS q pa = .ok j b1 ∧ b1.flushD k = .ok () b2 ∧
      e = b2.setDLine k { cs := cleanState .data q, ptag := primaryTag pa, scway := BitVec.ofNat 2 j, w := false,
                          data := (b2.sLine j).data }) := by
  unfold Bus.fillD at h
  cases hl : b.lookupD va pa with
  | hit i =>
    simp only [hl, BusResult.ok.injEq] at h
    obtain ⟨rfl, rfl⟩ := h
    exact .inl ⟨rfl, rfl⟩
  | multiple => simp only [hl, reduceCtorEq] at h
  | miss =>
    simp only [hl, BusResult.andThen_eq_ok, BusResult.ok.injEq] at h
    obtain ⟨j, b1, hfill, u, b2, hflush, rfl, rfl⟩ := h
    exact .inr ⟨rfl, freeWay_slot _ _ _, j, b1, b2, hfill, hflush, rfl⟩

/-- A refill enters nothing in the record and leaves the gather buffer and the address map. -/
theorem Bus.fillS_keeps {j : Nat} (h : b.fillS q pa = .ok j e) :
    e.history = b.history ∧ e.uca = b.uca ∧ ∀ a, e.regionOf a = b.regionOf a := by
  rcases Bus.fillS_cases h with ⟨-, rfl⟩ | ⟨-, -, d, c, -, hc, rfl⟩
  · exact ⟨rfl, rfl, fun _ => rfl⟩
  · exact ⟨hc.history, hc.uca, hc.region⟩

/-- It makes no line of the data cache valid. -/
theorem Bus.fillS_dHolds {j k : Nat} {tag : BitVec 28} (h : b.fillS q pa = .ok j e) (hb : b.dHolds tag k = false) :
    e.dHolds tag k = false := by
  rcases Bus.fillS_cases h with ⟨-, rfl⟩ | ⟨-, -, d, c, -, hc, rfl⟩
  · exact hb
  · exact hc.dHolds hb

theorem Bus.fillD_keeps {k : Nat} (h : b.fillD q va pa = .ok k e) :
    e.history = b.history ∧ e.uca = b.uca ∧ ∀ a, e.regionOf a = b.regionOf a := by
  rcases Bus.fillD_cases h with ⟨-, rfl⟩ | ⟨-, -, j, b1, b2, hfill, hflush, rfl⟩
  · exact ⟨rfl, rfl, fun _ => rfl⟩
  · obtain ⟨hh, hu, hr⟩ := Bus.fillS_keeps hfill
    have hc : b1.Recedes (fun _ => True) b2 := Bus.flushD_recedes hflush
    exact ⟨hc.history.trans hh, hc.uca.trans hu, fun a => (hc.region a).trans (hr a)⟩

/-- The slot a refill answers is the one that is found. -/
theorem Bus.fillD_lookup {k : Nat} (h : b.fillD q va pa = .ok k e) : e.lookupD va pa = .hit k := by
  rcases Bus.fillD_cases h with ⟨hit, rfl⟩ | ⟨hmiss, hset, j, b1, b2, hfill, hflush, rfl⟩
  · exact hit
  · refine lookupSet_hit_iff.2 ⟨hset, ?_, fun n hn hholds => ?_⟩
    · rw [Bus.dHolds_iff, Bus.setDLine_dLine, if_pos rfl]
      exact ⟨(cleanState_ne .data q).1, rfl⟩
    · by_contra hne
      have hc : b1.Recedes (fun _ => True) b2 := Bus.flushD_recedes hflush
      have hb := hc.dHolds (Bus.fillS_dHolds hfill (lookupSet_miss_iff.1 hmiss n hn))
      rw [Bus.dHolds, Bus.setDLine_dLine, if_neg hne] at hholds
      exact Bool.false_ne_true (hb.symm.trans hholds)

theorem Bus.invalidateD_sLine (b : Bus) (k n : Nat) : (b.invalidateD k).sLine n = b.sLine n := rfl

theorem Bus.dataCached_eq_false : b.dataCached pa = false ↔ b.dCopies pa = [] ∧ b.lookupS pa = .miss := by
  simp [Bus.dataCached, List.isEmpty_iff]

theorem Bus.dirtyCopy_eq_none (hd : ∀ k ∈ b.dCopies pa, (b.dLine k).cs ≠ 3#2)
    (hs : ∀ j, b.lookupS pa = .hit j → (b.sLine j).state ≠ 3#2) : b.dirtyCopy pa = none := by
  have hslots : b.dirtySlots pa = [] := List.filter_eq_nil_iff.2 fun k hk => by simpa using hd k hk
  unfold Bus.dirtyCopy
  rw [hslots]
  cases hl : b.lookupS pa with
  | hit j => exact if_neg (hs j hl)
  | miss => rfl
  | multiple => rfl

/-- A slot that a flush of another line's copy goes to is not that of a line with no copy in the data cache. -/
theorem Bus.writeback_elsewhere {k j : Nat} (hnone : b.dCopies pa = []) (hk : k < 2048) (hd : (b.dLine k).cs = 3#2)
    (hj : b.lookupS (primaryLineAddr (b.dLine k).ptag (k / 4)) = .hit j) (htag : (b.sLine j).tag = secondaryTag pa)
    (hset : j / 4 = secondarySet pa) : False := by
  obtain ⟨hjset, -, hjtag⟩ := Bus.lookupS_hit hj
  have hline := line_of_secondary (hjtag.symm.trans htag) (hjset.symm.trans hset)
  have haddr := toNat_primaryLineAddr (b.dLine k).ptag (k / 4)
  have hptag : (b.dLine k).ptag = primaryTag pa := by
    refine BitVec.eq_of_toNat_eq ?_
    rw [primaryTag, BitVec.extractLsb'_toNat, Nat.shiftRight_eq_div_pow]
    have := (b.dLine k).ptag.isLt
    omega
  have hslot : k ∈ primarySlots pa := mem_primarySlots.2 ⟨hk, by omega⟩
  have hmem : k ∈ b.dCopies pa := Bus.mem_dCopies.2 ⟨hslot, by rw [hd]; decide, hptag⟩
  rw [hnone] at hmem
  exact List.not_mem_nil hmem

/-- A refill of a line with no copy in a cache keeps the line in memory, and brings no dirty copy. -/
theorem Bus.fillD_clean {k : Nat} (hcached : b.dataCached pa = false) (h : b.fillD q va pa = .ok k e) :
    e.dirtyCopy pa = none ∧ ∀ a, a / 32 = pa.toNat / 32 → memByte e.mem a = memByte b.mem a := by
  obtain ⟨hcopies, hmissS⟩ := Bus.dataCached_eq_false.1 hcached
  rcases Bus.fillD_cases h with ⟨-, rfl⟩ | ⟨-, hset, j, b1, b2, hfill, hflush, rfl⟩
  · exact ⟨Bus.dirtyCopy_uncached hcached, fun _ _ => rfl⟩
  rcases Bus.fillS_cases hfill with ⟨hit, -⟩ | ⟨-, hj, d, c, -, hc, rfl⟩
  · rw [hmissS] at hit
    exact nomatch hit
  have hrecede : Bus.Recedes (fun a => a / 32 = pa.toNat / 32) _ b2 := Bus.flushD_recedes hflush
  have hnoD (n : Nat) (hn : n ∈ primarySlots pa) : b.dHolds (primaryTag pa) n = false := by
    rw [← Bool.not_eq_true, Bus.dHolds_iff]
    intro hholds
    have hmem := Bus.mem_dCopies.2 ⟨hn, hholds⟩
    rw [hcopies] at hmem
    exact List.not_mem_nil hmem
  have hnoD1 (n : Nat) (hn : n ∈ primarySlots pa) := Bus.fillS_dHolds hfill (hnoD n hn)
  refine ⟨Bus.dirtyCopy_eq_none (fun n hn => ?_) fun i hi => ?_, fun a ha => (hrecede.mem a ha).trans (hc.mem a ha)⟩
  · obtain ⟨hslot, hholds⟩ := Bus.mem_dCopies.1 hn
    by_cases hnk : n = k
    · rw [Bus.setDLine_dLine, if_pos hnk]
      exact (cleanState_ne .data q).2
    · rw [Bus.setDLine_dLine, if_neg hnk, ← Bus.dHolds_iff, hrecede.dHolds (hnoD1 n hslot)] at hholds
      exact absurd hholds Bool.false_ne_true
  · obtain ⟨hiset, histate, hitag⟩ := Bus.lookupS_hit hi
    rw [Bus.setDLine_sLine] at histate hitag ⊢
    by_cases hij : i = j
    · subst hij
      rcases Bus.flushD_cases hflush with ⟨-, rfl⟩ | ⟨hd, j', hj', rfl⟩
      · rw [Bus.invalidateD_sLine, Bus.setSLine_sLine, if_pos rfl]
        exact (cleanState_ne .secondary q).2
      · by_cases hjj : i = j'
        · subst hjj
          exfalso
          have hlt : k < 2048 := by
            have := toNat_primarySet va
            omega
          refine Bus.writeback_elsewhere ?_ hlt hd hj' (by rw [Bus.setSLine_sLine, if_pos rfl]) hj
          refine List.filter_eq_nil_iff.2 fun n hn => ?_
          rw [hnoD1 n hn]
          exact Bool.false_ne_true
        · rw [Bus.mergedD_sLine, if_neg hjj, Bus.setSLine_sLine, if_pos rfl]
          exact (cleanState_ne .secondary q).2
    · have hnoS := hc.sHolds (Bus.sHolds_of_miss hmissS hiset)
      have hnoS1 (l : SLine) : (c.setSLine j l).sHolds (secondaryTag pa) i = false := by
        rw [Bus.sHolds, Bus.setSLine_sLine, if_neg hij]
        exact hnoS
      have hnoS2 := hrecede.sHolds (hnoS1 _)
      exact absurd (hnoS2.symm.trans (Bus.sHolds_iff.2 ⟨histate, hitag⟩)) Bool.false_ne_true

end

/-! Loads to register 0. -/

section
variable {b : Bus} {pa pa' : PhysAddr} (hline : pa'.toNat / 32 = pa.toNat / 32)
include hline

theorem Bus.dirtyCopy_line : b.dirtyCopy pa' = b.dirtyCopy pa := by
  rw [Bus.dirtyCopy, Bus.dirtyCopy, Bus.dirtySlots, Bus.dirtySlots, Bus.dCopies_line hline, Bus.lookupS_line hline]

end

/-- Settles O17 (`loadToZero` is a name of the model): each is a prefetch, which changes nothing or refills a line. -/
theorem loadToZero_obligation : Obligations.LoadToZero := by
  intro s base offset ha va i hi
  have hexec : exec i s = loadToZero s va := by
    revert i
    simp only [List.forall_mem_cons, List.not_mem_nil, false_imp_iff, implies_true, and_true]
    exact ⟨rfl, rfl, rfl, rfl, rfl, rfl, rfl, rfl, rfl, rfl, rfl⟩
  rw [hexec]
  have hcases := loadToZero_cases va ha
  have hprefetch := s.prefetch_cases va
  refine ⟨fun f hf => ?stop, fun hstop hok => ?uncached, fun pa hpa => ?cached⟩
  case stop => simp only [loadToZero, hf]
  case uncached =>
    rcases hcases with ⟨f, hf, -⟩ | ⟨-, hnext⟩
    · exact absurd hf (hstop f)
    · rcases hprefetch with hp | ⟨pa, k, hpa, -⟩
      · rw [hnext, hp]
      · exact absurd hpa (hok pa)
  case cached =>
    rcases hcases with ⟨f, hf, -⟩ | ⟨-, hnext⟩
    · rw [hpa] at hf
      exact nomatch hf
    · rcases hprefetch with hp | ⟨pa', k, hpa', hfill⟩
      · exact .inl (by rw [hnext, hp])
      · rw [hpa] at hpa'
        obtain rfl : pa = pa' := by injection hpa'
        obtain ⟨hhist, huca, hregion⟩ := Bus.fillD_keeps hfill
        refine .inr ⟨k, s.prefetch va, hfill, hnext, hhist, huca, fun hu hcached hh p n hp hn hpn hr => ?_⟩
        obtain ⟨hdirty, hmem⟩ := Bus.fillD_clean hcached hfill
        have hh' : ((s.prefetch va).historyOf (lineNumber p)).cached = false := by
          rw [Bus.historyOf, hhist, show lineNumber p = pa.toNat / 32 from hp]
          exact hh
        have hread := Bus.uncachedRead_ram s.seq p n (huca.trans hu) ((hregion _).trans hr)
          ((Bus.dirtyCopy_line hp).trans hdirty) hh'
        rw [memRead_congr s.bus.mem _ _ _ fun a hl hu => hmem a (by omega), ← bytesAt_eq_memRead] at hread
        exact ⟨_, hread⟩

end Sys2Proof.Machine
end

section
/-! The record of the data accesses, and forwarding: cached and uncached stores, and what a load or a fetch sees after them. -/

namespace Sys2Proof.Machine

/-! What stores and drains leave alone. -/

theorem Bus.SameButData.frame {b c : Bus} (h : b.SameButData c) : ∃ d s, c = { b with dcache := d, scache := s } := by
  obtain ⟨-, -, he⟩ := h
  exact ⟨c.dcache, c.scache, by rw [← he]⟩

/-- A physical write changes memory and device registers alone. -/
theorem Bus.physWrite_frame {b c : Bus} {pa n : Nat} {v : Word} (h : b.physWrite pa n v = .ok () c) :
    ∃ m d w p i x, c = { b with mem := m, ddr := d, windows := w, pciHeader := p, io := i, pulses := x } := by
  have hio (off sub : Nat) : ∃ i x, b.ioWrite off sub n v = { b with io := i, pulses := x } := by
    unfold Bus.ioWrite
    dsimp only
    split
    · exact ⟨_, b.pulses, rfl⟩
    · split
      · exact ⟨_, _, rfl⟩
      · exact ⟨_, b.pulses, rfl⟩
  unfold Bus.physWrite at h
  cases hr : b.regionOf pa <;> simp only [hr] at h
  case ram => simp only [BusResult.ok.injEq, true_and] at h; exact ⟨_, b.ddr, b.windows, b.pciHeader, b.io, b.pulses, h.symm⟩
  case ddr =>
    split at h
    · simp only [BusResult.ok.injEq, true_and] at h
      obtain ⟨d, hd⟩ := b.ddrWrite_frame (pa - 0x0FFFFE00) v
      exact ⟨b.mem, d, b.windows, b.pciHeader, b.io, b.pulses, h.symm.trans hd⟩
    · exact nomatch h
  case window =>
    split at h
    · simp only [BusResult.ok.injEq, true_and] at h
      exact ⟨b.mem, b.ddr, _, b.pciHeader, b.io, b.pulses, h.symm⟩
    · exact nomatch h
  case pciHeader =>
    split at h
    · simp only [BusResult.ok.injEq, true_and] at h
      exact ⟨b.mem, b.ddr, b.windows, _, b.io, b.pulses, h.symm⟩
    · exact nomatch h
  case io =>
    split at h
    · simp only [BusResult.ok.injEq, true_and] at h
      obtain ⟨i, x, hix⟩ := hio (pa % 256 / 4 * 4) (pa % 4)
      exact ⟨b.mem, b.ddr, b.windows, b.pciHeader, i, x, h.symm.trans hix⟩
    · exact nomatch h
  case narrowDevice =>
    split at h
    · simp only [BusResult.ok.injEq, true_and] at h
      exact ⟨b.mem, b.ddr, b.windows, b.pciHeader, b.io, b.pulses, h.symm⟩
    · exact nomatch h
  all_goals
    simp only [BusResult.ok.injEq, true_and] at h
    exact ⟨b.mem, b.ddr, b.windows, b.pciHeader, b.io, b.pulses, h.symm⟩

section
variable {b c : Bus} {q n : Nat} {pa : PhysAddr} {v : Word}

/-- A write past the copies enters nothing in the record and gathers nothing. -/
theorem Bus.writePast_keeps (h : b.writePast q pa n v = .ok () c) : c.history = b.history ∧ c.uca = b.uca := by
  simp only [Bus.writePast, BusResult.andThen_eq_ok, BusResult.ok.injEq, true_and] at h
  obtain ⟨_, b1, hw, rfl⟩ := h
  obtain ⟨d, s, hsame⟩ := (Bus.SameButData.passCopies b1 q pa n v).frame
  obtain ⟨m, r, w, p, i, x, rfl⟩ := Bus.physWrite_frame hw
  rw [hsame]
  exact ⟨rfl, rfl⟩

theorem Bus.drainBytes_keeps {u : UcaBuffer} (h : b.drainBytes q u n = .ok () c) : c.history = b.history ∧ c.uca = b.uca := by
  induction n generalizing b with
  | zero => cases h; exact ⟨rfl, rfl⟩
  | succ n ih =>
    unfold Bus.drainBytes at h
    dsimp only at h
    split at h
    · rw [BusResult.andThen_eq_ok] at h
      obtain ⟨_, b1, hw, hrest⟩ := h
      obtain ⟨hh, hu⟩ := Bus.writePast_keeps hw
      obtain ⟨hh', hu'⟩ := ih hrest
      exact ⟨hh'.trans hh, hu'.trans hu⟩
    · exact ih h

theorem Bus.drain_keeps (h : b.drain q = .ok () c) : c.history = b.history ∧ c.uca = none := by
  unfold Bus.drain at h
  split at h
  · next hu =>
    cases h
    exact ⟨rfl, hu⟩
  · exact Bus.drainBytes_keeps h

/-- After a drain of the line its bytes are not gathered. -/
theorem Bus.drainLine_keeps (h : b.drainLine q pa = .ok () c) :
    c.history = b.history ∧ ∀ u, c.uca = some u → u.line ≠ pa.extractLsb' 5 35 := by
  unfold Bus.drainLine at h
  split at h
  · next u hu =>
    split at h
    · obtain ⟨hh, hnone⟩ := Bus.drain_keeps h
      refine ⟨hh, fun u' hu' => ?_⟩
      rw [hnone] at hu'
      exact nomatch hu'
    · next hline =>
      cases h
      refine ⟨rfl, fun u' hu' => ?_⟩
      rw [hu] at hu'
      obtain rfl : u = u' := by injection hu'
      exact hline
  · next hu =>
    cases h
    refine ⟨rfl, fun u' hu' => ?_⟩
    rw [hu] at hu'
    exact nomatch hu'

theorem Bus.drainLine_skip (q : Nat) (h : ∀ u, b.uca = some u → u.line ≠ pa.extractLsb' 5 35) :
    b.drainLine q pa = .ok () b := by
  unfold Bus.drainLine
  split
  · next u hu => exact if_neg (h u hu)
  · rfl

theorem Bus.keepGathered_history {u : UcaBuffer} (h : b.keepGathered q pa u = .ok () c) : c.history = b.history := by
  unfold Bus.keepGathered at h
  split at h
  · simp only [BusResult.andThen_eq_ok, BusResult.ok.injEq, true_and] at h
    obtain ⟨_, b1, hw, rfl⟩ := h
    obtain ⟨m, r, w, hb1, -⟩ := Bus.blockWrite_frame hw
    have hstart : b1.history = b.history := by rw [hb1]
    refine Bus.eachDoubleword_keeps (fun c => c.history = b.history)
      (f := fun c p off => c.passCopies q p 8 (lineGet u.data off 8)) (fun c p off hc => ?_) hstart pa
    obtain ⟨d, s, hsame⟩ := (Bus.SameButData.passCopies c q p 8 (lineGet u.data off 8)).frame
    rw [hsame]
    exact hc
  · simp only [BusResult.ok.injEq, true_and] at h
    rw [← h]

theorem Bus.historyOf_congr (h : c.history = b.history) (k : Nat) : c.historyOf k = b.historyOf k := by
  rw [Bus.historyOf, h]
  rfl

end

/-! Colours. -/

theorem colourBit_visible (va : Word) : 15#4 &&& colourBit va ≠ 0#4 := by
  have h : ∀ c : BitVec 2, 15#4 &&& 1#4 <<< c.toNat ≠ 0#4 := by decide
  exact h _

theorem otherColour_of_used {va va' : Word} (h : va'.extractLsb' 12 2 ≠ va.extractLsb' 12 2) (x : BitVec 4) :
    (x ||| colourBit va) &&& ~~~colourBit va' ≠ 0#4 := by
  have hall : ∀ (c c' : BitVec 2) (x : BitVec 4), c' ≠ c → (x ||| 1#4 <<< c.toNat) &&& ~~~(1#4 <<< c'.toNat) ≠ 0#4 := by decide
  exact hall _ _ x h

theorem colourBit_eq_set (va : Word) : colourBit va = 1#4 <<< (va.toNat / 32 % 512 / 128) := by
  rw [colourBit, BitVec.extractLsb'_toNat, Nat.shiftRight_eq_div_pow]
  congr 1
  omega

/-! The earlier contents a fetch may see, on one line's record. -/

/-- The earlier contents that a cached fetch of colour `c` may see. -/
def LineHistory.seen (h : LineHistory) (c : BitVec 4) : List Line :=
  (h.olds.filter fun o => o.colours &&& c ≠ 0#4).map OldLine.data

/-- The earlier contents that an uncached fetch may see. -/
def LineHistory.seenUncached (h : LineHistory) : List Line :=
  (h.olds.filter fun o => o.colours = 15#4).filterMap OldLine.uncached

theorem Bus.oldLines_eq (b : Bus) (va : Word) (pa : PhysAddr) :
    b.oldLines va pa = (b.historyOf (lineNumber pa)).seen (colourBit va) := rfl

theorem Bus.oldLinesUncached_eq (b : Bus) (pa : PhysAddr) :
    b.oldLinesUncached pa = (b.historyOf (lineNumber pa)).seenUncached := rfl

section
variable (h : LineHistory) (c : BitVec 4) (d : Line) (byCached : Bool) (put : Line → Line)

@[simp] theorem LineHistory.usedCached_seen (c' : BitVec 4) : (h.usedCached c').seen c = h.seen c := rfl
@[simp] theorem LineHistory.usedUncached_seen : h.usedUncached.seen c = h.seen c := rfl
@[simp] theorem LineHistory.usedUncached_seenUncached : h.usedUncached.seenUncached = h.seenUncached := rfl

@[simp] theorem LineHistory.overwritten_seen : (h.overwritten put).seen c = h.seen c :=
  h.overwritten_data put fun x => x &&& c ≠ 0#4

theorem LineHistory.stored_seen (hc : 15#4 &&& c ≠ 0#4) :
    (h.stored d byCached).seen c = d :: ((h.stored d byCached).seen c).tail := by
  unfold LineHistory.seen LineHistory.stored
  rw [List.filter_cons_of_pos (by simpa using hc)]
  rfl

/-- What was seen before a store is still all that is seen besides the new content. -/
theorem LineHistory.stored_seen_tail {x : Line} (hx : x ∈ (h.stored d byCached).seen c) : x = d ∨ x ∈ h.seen c := by
  unfold LineHistory.seen LineHistory.stored at *
  obtain ⟨o, ho, rfl⟩ := List.mem_map.1 hx
  obtain ⟨hmem, hp⟩ := List.mem_filter.1 ho
  rcases List.mem_cons.1 hmem with rfl | hmem
  · exact .inl rfl
  · exact .inr (List.mem_map.2 ⟨o, List.mem_filter.2 ⟨(List.mem_filter.1 hmem).1, hp⟩, rfl⟩)

/-- With nothing seen before, a store exposes the content it replaces and no other. -/
theorem LineHistory.stored_seen_alone (hc : 15#4 &&& c ≠ 0#4) (hnone : h.seen c = []) :
    (h.stored d byCached).seen c = [d] := by
  unfold LineHistory.seen LineHistory.stored at *
  rw [List.filter_cons_of_pos (by simpa using hc), List.map_cons]
  rw [List.map_eq_nil_iff, List.filter_eq_nil_iff] at hnone
  rw [List.cons_inj_right, List.map_eq_nil_iff, List.filter_eq_nil_iff]
  exact fun o ho => hnone o (List.mem_filter.1 ho).1

/-- An uncached store exposes nothing to an uncached fetch that nothing was exposed to. -/
theorem LineHistory.stored_seenUncached (hnone : ∀ o ∈ h.olds, o.colours ≠ 15#4) :
    ((h.stored d false).overwritten put).seenUncached = [] := by
  unfold LineHistory.seenUncached
  rw [List.filterMap_eq_nil_iff]
  intro o ho
  obtain ⟨hmem, hcol⟩ := List.mem_filter.1 ho
  obtain ⟨o', ho', rfl⟩ := List.mem_map.1 hmem
  rcases List.mem_cons.1 ho' with rfl | ho'
  · rfl
  · exact absurd (of_decide_eq_true hcol) (hnone o' (List.mem_filter.1 ho').1)

/-- After the sequence of R138 no content is left that a fetch at every colour may see. -/
theorem LineHistory.sequence_colours {o : OldLine} (hc : 15#4 &&& c ≠ 0#4) (ho : o ∈ (h.writtenBack.invalidatedI c).olds) :
    o.colours ≠ 15#4 := by
  have hseq := List.filter_eq_nil_iff.1 (h.sequence c) o ho
  intro h15
  rw [h15] at hseq
  exact hseq (by simpa using hc)

end

/-! The accesses, and the record of their line after them. -/

/-- A cached store's bytes in the line in slot `k`, which becomes dirty. -/
def Bus.putD (b : Bus) (k off n : Nat) (v : Word) : Bus :=
  b.setDLine k { b.dLine k with cs := 3#2, w := false, data := linePut (b.dLine k).data off n v }

section
variable {b b1 : Bus} {q n : Nat} {va : Word} {pa : PhysAddr} {v : Word}

theorem Bus.confuse_historyOf (b : Bus) (q : Nat) (va : Word) (pa : PhysAddr) (m : Nat) :
    (b.confuse q va pa).historyOf m = b.historyOf m := by
  obtain ⟨d, s, hsame⟩ := (Bus.SameButData.confuse b q va pa).frame
  rw [hsame]
  rfl

theorem Bus.cachedWrite_ok (h : b.cachedWrite q va pa n v = .ok () b1) : ∃ c k b0, b.drainLine q pa = .ok () c ∧
    c.fillD q va pa = .ok k b0 ∧ b1 = ((b0.putD k (lineOffset pa) n v).confuse q va pa).record (lineNumber pa)
      fun h => (h.usedCached (colourBit va)).stored (b0.dLine k).data true := by
  simp only [Bus.cachedWrite, BusResult.andThen_eq_ok, BusResult.ok.injEq, true_and] at h
  obtain ⟨_, c, hdrain, k, b0, hfill, rfl⟩ := h
  exact ⟨c, k, b0, hdrain, hfill, rfl⟩

theorem Bus.cachedRead_ok (h : b.cachedRead q va pa n = .ok v b1) : ∃ c k b0, b.drainLine q pa = .ok () c ∧
    c.fillD q va pa = .ok k b0 ∧
      b1 = (b0.confuse q va pa).record (lineNumber pa) fun h => h.usedCached (colourBit va) := by
  simp only [Bus.cachedRead, BusResult.andThen_eq_ok, BusResult.ok.injEq] at h
  obtain ⟨_, c, hdrain, k, b0, hfill, -, rfl⟩ := h
  exact ⟨c, k, b0, hdrain, hfill, rfl⟩

/-- Draining the line and filling it enter nothing. -/
theorem Bus.fill_historyOf {c b0 : Bus} {k : Nat} (hd : b.drainLine q pa = .ok () c) (hf : c.fillD q va pa = .ok k b0)
    (m : Nat) : b0.historyOf m = b.historyOf m :=
  Bus.historyOf_congr ((Bus.fillD_keeps hf).1.trans (Bus.drainLine_keeps hd).1) m

theorem Bus.cachedWrite_historyOf (h : b.cachedWrite q va pa n v = .ok () b1) : ∃ c k b0, b.drainLine q pa = .ok () c ∧
    c.fillD q va pa = .ok k b0 ∧ b1.historyOf (lineNumber pa) =
      ((b.historyOf (lineNumber pa)).usedCached (colourBit va)).stored (b0.dLine k).data true := by
  obtain ⟨c, k, b0, hd, hf, rfl⟩ := Bus.cachedWrite_ok h
  refine ⟨c, k, b0, hd, hf, ?_⟩
  rw [Bus.record_historyOf, if_pos rfl, Bus.confuse_historyOf]
  exact congrArg (fun h : LineHistory => (h.usedCached (colourBit va)).stored (b0.dLine k).data true)
    (Bus.fill_historyOf hd hf _)

theorem Bus.cachedRead_historyOf (h : b.cachedRead q va pa n = .ok v b1) :
    b1.historyOf (lineNumber pa) = (b.historyOf (lineNumber pa)).usedCached (colourBit va) := by
  obtain ⟨c, k, b0, hd, hf, rfl⟩ := Bus.cachedRead_ok h
  rw [Bus.record_historyOf, if_pos rfl, Bus.confuse_historyOf, Bus.fill_historyOf hd hf]

theorem Bus.storedUncached_historyOf (b : Bus) (pa : PhysAddr) (put : Line → Line) :
    (b.storedUncached pa put).historyOf (lineNumber pa) = if b.regionOf pa.toNat = .ram
      then ((b.historyOf (lineNumber pa)).usedUncached.stored (b.newest pa) false).overwritten put
      else (b.historyOf (lineNumber pa)).usedUncached := by
  rw [Bus.storedUncached, Bus.record_historyOf, if_pos rfl]

theorem Bus.uncachedWrite_historyOf (h : b.uncachedWrite q pa n v = .ok () b1) (m : Nat) :
    b1.historyOf m = (b.storedUncached pa (linePut · (lineOffset pa) n v)).historyOf m :=
  Bus.historyOf_congr (Bus.writePast_keeps h).1 m

theorem Bus.gather_historyOf (h : b.gather q pa n v = .ok () b1) (hu : b.uca = none) (m : Nat) :
    b1.historyOf m = (b.storedUncached pa (linePut · (lineOffset pa) n v)).historyOf m := by
  simp only [Bus.gather, hu] at h
  exact Bus.historyOf_congr (Bus.keepGathered_history h) m

/-- An uncached store counts as an uncached access, whatever lies at its address. -/
theorem Bus.storedUncached_uncached (b : Bus) (pa : PhysAddr) (put : Line → Line) :
    ((b.storedUncached pa put).historyOf (lineNumber pa)).uncached = true := by
  rw [Bus.storedUncached_historyOf]
  split <;> rfl

theorem Bus.storedUncached_oldLines (hr : b.regionOf pa.toNat = .ram) (va : Word) (put : Line → Line) :
    (b.storedUncached pa put).oldLines va pa =
      ((b.historyOf (lineNumber pa)).usedUncached.stored (b.newest pa) false).seen (colourBit va) := by
  rw [Bus.oldLines_eq, Bus.storedUncached_historyOf, if_pos hr, LineHistory.overwritten_seen]

end

/-! Bytes of a line. -/

theorem lineGet_linePut_self (d : Line) {off n : Nat} (v : Word) (hn : n ≤ 8) (hoff : off + n ≤ 32) :
    lineGet (linePut d off n v) off n = v &&& byteMask n := by
  refine BitVec.eq_of_getLsbD_eq fun i hi => ?_
  rw [getLsbD_lineGet, BitVec.getLsbD_and, getLsbD_byteMask]
  by_cases h : i < 8 * n
  · rw [getLsbD_linePut d v hn (by omega), if_pos (by omega), Nat.add_sub_cancel_left]
    simp [h, hi]
  · simp [h]

theorem byteMask_eq_pow (n : Nat) : byteMask n = BitVec.ofNat 64 (256 ^ n - 1) := by
  rw [byteMask, Nat.pow_mul]

/-- The bytes of a line of memory are those of memory. -/
theorem lineGet_memLine (m : Memory) {a n : Nat} (hoff : a % 32 + n ≤ 32) :
    lineGet (memLine m (a / 32 * 32)) (a % 32) n = BitVec.ofNat 64 (memRead m a n) := by
  refine BitVec.eq_of_getLsbD_eq fun i hi => ?_
  rw [getLsbD_lineGet, getLsbD_ofNat_memRead m a n i hi]
  by_cases h : i < 8 * n
  · rw [memLine, getLsbD_ofNat_memRead _ _ _ _ (by omega),
      show a / 32 * 32 + (8 * (a % 32) + i) / 8 = a + i / 8 by omega, show (8 * (a % 32) + i) % 8 = i % 8 by omega]
    simp [h, hi, show 8 * (a % 32) + i < 8 * 32 by omega]
  · simp [h]

/-! A cached load after a cached store. -/

/-- Inserting twice at a key is inserting once. -/
theorem sparseInsert_twice {β : Type} (l : Sparse β) (a : Nat) (v : β) :
    sparseInsert (sparseInsert l a v) a v = sparseInsert l a v := by
  induction l with
  | nil => simp [sparseInsert]
  | cons e l ih =>
    obtain ⟨k, w⟩ := e
    rw [sparseInsert]
    split
    · simp [sparseInsert]
    · split
      · simp [sparseInsert]
      · next hlt hne => rw [sparseInsert, if_neg hlt, if_neg hne, ih]

theorem sparseWrite_twice {β : Type} [DecidableEq β] (d : β) (l : Sparse β) (a : Nat) (v : β) :
    sparseWrite d (sparseWrite d l a v) a v = sparseWrite d l a v := by
  unfold sparseWrite
  split
  · simp [List.filter_filter]
  · exact sparseInsert_twice l a v

theorem Bus.record_twice (b : Bus) (m : Nat) {f g : LineHistory → LineHistory}
    (h : g (f (b.historyOf m)) = f (b.historyOf m)) :
    (b.record m f).record m g = b.record m f := by
  have hrec : (b.record m f).historyOf m = f (b.historyOf m) := by rw [Bus.record_historyOf, if_pos rfl]
  rw [Bus.record, hrec, h]
  exact congrArg (fun l => { b with history := l }) (sparseWrite_twice ..)

theorem LineHistory.usedCached_otherColour (h : LineHistory) (c : BitVec 4) :
    (h.usedCached c).otherColour c = h.otherColour c := by
  have hc : ∀ x c : BitVec 4, (x ||| c) &&& ~~~c = x &&& ~~~c := by decide
  exact congrArg (fun x : BitVec 4 => decide (x ≠ 0#4)) (hc _ _)

theorem LineHistory.usedCached_stored_twice (h : LineHistory) (c : BitVec 4) (d : Line) (byCached : Bool) :
    ((h.usedCached c).stored d byCached).usedCached c = (h.usedCached c).stored d byCached := by
  have hc : h.colours ||| c ||| c = h.colours ||| c := by rw [BitVec.or_assoc, BitVec.or_self]
  exact congrArg (fun x => { (h.usedCached c).stored d byCached with colours := x }) hc

section
variable {b b1 : Bus} {q n : Nat} {va : Word} {pa : PhysAddr} {v : Word}

/-- A store into the slot of the line leaves it the line's only slot. -/
theorem Bus.putD_lookupD {k : Nat} (h : b.lookupD va pa = .hit k) (off n : Nat) (v : Word) :
    (b.putD k off n v).lookupD va pa = .hit k := by
  obtain ⟨hset, hholds, honly⟩ := lookupSet_hit_iff.1 h
  have htag := (Bus.dHolds_iff.1 hholds).2
  refine lookupSet_hit_iff.2 ⟨hset, ?_, fun m hm hh => ?_⟩
  · rw [Bus.dHolds_iff, Bus.putD, Bus.setDLine_dLine, if_pos rfl]
    exact ⟨(by decide : (3#2 : BitVec 2) ≠ 0#2), htag⟩
  · by_contra hne
    rw [Bus.dHolds, Bus.putD, Bus.setDLine_dLine, if_neg hne] at hh
    exact hne (honly m hm hh)

/-- A cached load that finds its line, of which nothing is gathered, at its only colour and way of access. -/
theorem Bus.cachedRead_hit {k : Nat} (q : Nat) (hu : ∀ u, b.uca = some u → u.line ≠ pa.extractLsb' 5 35)
    (hit : b.lookupD va pa = .hit k) (hmix : (b.historyOf (lineNumber pa)).mixedCached (colourBit va) = false) :
    b.cachedRead q va pa n = .ok (lineGet (b.dLine k).data (lineOffset pa) n)
      (b.record (lineNumber pa) fun h => h.usedCached (colourBit va)) := by
  have hfill : b.fillD q va pa = .ok k b := by simp only [Bus.fillD, hit]
  have hother : (b.historyOf (lineNumber pa)).otherColour (colourBit va) = false := (Bool.or_eq_false_iff.1 hmix).2
  simp only [Bus.cachedRead, Bus.drainLine_skip q hu, BusResult.andThen, hfill, Bus.confuse_alone q hother, hmix,
    Bool.false_eq_true, if_false]

/-- Store, then load: the line is in the slot the store used. -/
theorem Bus.cachedRead_of_cachedWrite (q' : Nat) (hn : n ≤ 8) (hoff : lineOffset pa + n ≤ 32)
    (h : b.cachedWrite q va pa n v = .ok () b1)
    (hmix : (b1.historyOf (lineNumber pa)).mixedCached (colourBit va) = false) :
    b1.cachedRead q' va pa n = .ok (v &&& byteMask n) b1 := by
  obtain ⟨c, k, b0, hd, hf, rfl⟩ := Bus.cachedWrite_ok h
  have hother : ((b0.putD k (lineOffset pa) n v).historyOf (lineNumber pa)).otherColour (colourBit va) = false := by
    rw [Bus.record_historyOf, if_pos rfl, Bus.confuse_historyOf] at hmix
    exact (LineHistory.usedCached_otherColour _ _).symm.trans (Bool.or_eq_false_iff.1 hmix).2
  rw [Bus.confuse_alone q hother] at hmix ⊢
  have huca : ∀ u, b0.uca = some u → u.line ≠ pa.extractLsb' 5 35 := by
    rw [(Bus.fillD_keeps hf).2.1]
    exact (Bus.drainLine_keeps hd).2
  have hit : (b0.putD k (lineOffset pa) n v).lookupD va pa = .hit k := Bus.putD_lookupD (Bus.fillD_lookup hf) _ _ _
  have hdata : ((b0.putD k (lineOffset pa) n v).dLine k).data = linePut (b0.dLine k).data (lineOffset pa) n v := by
    rw [Bus.putD, Bus.setDLine_dLine, if_pos rfl]
  rw [Bus.cachedRead_hit (b := (b0.putD k (lineOffset pa) n v).record _ _) q' huca hit hmix, Bus.record_dLine, hdata,
    lineGet_linePut_self _ v hn hoff,
    Bus.record_twice _ _ (LineHistory.usedCached_stored_twice _ _ _ _)]

end

/-! The sequence of R138: a writeback-invalidate of the line, then Index Invalidate (I) of its set. -/

/-- After the sequence. -/
def Bus.sequenced (b : Bus) (va : Word) (pa : PhysAddr) : Bus :=
  (b.hitWrittenBack pa).indexInvalidatedI (va.toNat / 32 % 512)

section
variable {b b1 : Bus} {va : Word} {pa : PhysAddr}

theorem Bus.sequenced_historyOf (h : pa.toNat % 4096 = va.toNat % 4096) : (b.sequenced va pa).historyOf (lineNumber pa) =
    (b.historyOf (lineNumber pa)).writtenBack.invalidatedI (colourBit va) := by
  rw [Bus.sequenced, Bus.indexInvalidatedI_historyOf, if_pos (by rw [lineNumber]; omega), Bus.hitWrittenBack,
    Bus.record_historyOf, if_pos rfl, colourBit_eq_set]

theorem Bus.sequenced_oldLines (h : pa.toNat % 4096 = va.toNat % 4096) : (b.sequenced va pa).oldLines va pa = [] := by
  rw [Bus.oldLines_eq, Bus.sequenced_historyOf h, LineHistory.seen, LineHistory.sequence]
  rfl

theorem Bus.sequenced_oldLinesUncached (h : pa.toNat % 4096 = va.toNat % 4096) :
    (b.sequenced va pa).oldLinesUncached pa = [] := by
  rw [Bus.oldLinesUncached_eq, Bus.sequenced_historyOf h, LineHistory.seenUncached, List.filter_eq_nil_iff.2,
    List.filterMap_nil]
  exact fun o ho => by simpa using LineHistory.sequence_colours _ _ (colourBit_visible va) ho

/-- A later uncached store: an uncached fetch sees no earlier content, a cached one that before the store. -/
theorem Bus.sequenced_uncachedWrite {q n : Nat} {v : Word} (h : pa.toNat % 4096 = va.toNat % 4096)
    (hw : (b.sequenced va pa).uncachedWrite q pa n v = .ok () b1) :
    b1.oldLinesUncached pa = [] ∧ (b.regionOf pa.toNat = .ram → b1.oldLines va pa = [b.newest pa]) := by
  have hregion : (b.sequenced va pa).regionOf pa.toNat = b.regionOf pa.toNat := rfl
  have hnewest : (b.sequenced va pa).newest pa = b.newest pa := rfl
  have hseen := Bus.sequenced_oldLines (b := b) h
  have hseenU := Bus.sequenced_oldLinesUncached (b := b) h
  rw [Bus.oldLines_eq] at hseen
  rw [Bus.oldLinesUncached_eq] at hseenU
  rw [Bus.oldLines_eq, Bus.oldLinesUncached_eq, Bus.uncachedWrite_historyOf hw, Bus.storedUncached_historyOf, hregion, hnewest]
  refine ⟨?_, fun hr => ?_⟩
  · split
    · refine LineHistory.stored_seenUncached _ _ _ fun o ho => ?_
      refine LineHistory.sequence_colours _ (colourBit_visible va) (h := b.historyOf (lineNumber pa)) ?_
      rw [← Bus.sequenced_historyOf h]
      exact ho
    · exact hseenU
  · rw [if_pos hr, LineHistory.overwritten_seen]
    exact LineHistory.stored_seen_alone _ _ _ _ (colourBit_visible va) hseen

end

/-! An uncached fetch after an uncached store. -/

section
variable {b : Bus} {pa : PhysAddr} {n : Nat} {v : Word}

/-- Put bytes into the data-cache lines of a list of slots. -/
def Bus.putAllD (b : Bus) (off n : Nat) (v : Word) (ks : List Nat) : Bus :=
  ks.foldl (fun b k => b.setDLine k { b.dLine k with data := linePut (b.dLine k).data off n v }) b

/-- A copy that has the stored bytes, whatever it held. -/
def Line.Has (d : Line) (off n : Nat) (v : Word) : Prop := ∃ d', d = linePut d' off n v

theorem Bus.putAllD_has {off : Nat} {ks : List Nat} {k : Nat} (h : k ∈ ks ∨ Line.Has (b.dLine k).data off n v) :
    Line.Has ((b.putAllD off n v ks).dLine k).data off n v := by
  induction ks generalizing b with
  | nil => exact h.resolve_left List.not_mem_nil
  | cons i ks ih =>
    refine ih ?_
    rw [Bus.setDLine_dLine]
    by_cases hk : k = i
    · rw [if_pos hk]
      exact .inr ⟨_, rfl⟩
    · rw [if_neg hk]
      exact h.imp_left fun hm => (List.mem_cons.1 hm).resolve_left hk

theorem Bus.putAllD_sLine (off : Nat) (ks : List Nat) (j : Nat) : (b.putAllD off n v ks).sLine j = b.sLine j := by
  induction ks generalizing b with
  | nil => rfl
  | cons i ks ih => exact ih.trans rfl

theorem Bus.putAllD_lookupS (off : Nat) (ks : List Nat) : (b.putAllD off n v ks).lookupS pa = b.lookupS pa := by
  have hholds : (b.putAllD off n v ks).sHolds (secondaryTag pa) = b.sHolds (secondaryTag pa) := by
    funext j
    rw [Bus.sHolds, Bus.putAllD_sLine]
    rfl
  rw [Bus.lookupS, hholds]
  rfl

theorem Bus.overwrite_eq : b.overwrite pa n v = match b.lookupS pa with
    | .hit j => (b.putAllD (lineOffset pa) n v (b.dCopies pa)).setSLine j
        { b.sLine j with data := linePut (b.sLine j).data (lineOffset pa) n v }
    | _ => b.putAllD (lineOffset pa) n v (b.dCopies pa) := by
  have hlookup := b.putAllD_lookupS (pa := pa) (n := n) (v := v) (lineOffset pa) (b.dCopies pa)
  have hline := fun j => b.putAllD_sLine (n := n) (v := v) (lineOffset pa) (b.dCopies pa) j
  unfold Bus.overwrite
  rw [Bus.putAllD] at *
  dsimp only
  rw [hlookup]
  cases b.lookupS pa with
  | hit j => dsimp only; rw [hline]
  | miss => rfl
  | multiple => rfl

theorem Bus.overwrite_dLine_has {k : Nat} (hk : k ∈ b.dCopies pa) :
    Line.Has ((b.overwrite pa n v).dLine k).data (lineOffset pa) n v := by
  have h := b.putAllD_has (n := n) (v := v) (off := lineOffset pa) (.inl hk)
  rw [Bus.overwrite_eq]
  cases b.lookupS pa <;> exact h

theorem Bus.overwrite_sLine_has {j : Nat} (hj : b.lookupS pa = .hit j) :
    Line.Has ((b.overwrite pa n v).sLine j).data (lineOffset pa) n v := by
  rw [Bus.overwrite_eq, hj]
  dsimp only
  rw [Bus.setSLine_sLine, if_pos rfl]
  exact ⟨_, rfl⟩

theorem Bus.SameButData.dCopies {c : Bus} (h : b.SameButData c) : c.dCopies pa = b.dCopies pa := by
  refine List.filter_congr fun k _ => ?_
  rw [Bus.dHolds, h.1 k]
  rfl

theorem Bus.SameButData.lookupS {c : Bus} (h : b.SameButData c) : c.lookupS pa = b.lookupS pa := by
  refine congrArg (lookupSet (secondarySet pa)) (funext fun j => ?_)
  rw [Bus.sHolds, h.2.1 j]
  rfl

/-- What a dirty copy of a line holds. -/
theorem Bus.dirtyCopy_eq_some {d : Line} (h : b.dirtyCopy pa = some d) :
    (∃ k ∈ b.dCopies pa, d = (b.dLine k).data) ∨ ∃ j, b.lookupS pa = .hit j ∧ d = (b.sLine j).data := by
  unfold Bus.dirtyCopy at h
  split at h
  · next k ks hslots =>
    have hk : k ∈ b.dirtySlots pa := by rw [hslots]; exact List.mem_cons_self
    exact .inl ⟨k, (List.mem_filter.1 hk).1, (Option.some.inj h).symm⟩
  · split at h
    · next j hj =>
      split at h
      · exact .inr ⟨j, hj, (Option.some.inj h).symm⟩
      · exact nomatch h
    · exact nomatch h

/-- Every dirty copy has the bytes that went past the copies. -/
theorem Bus.overwrite_dirtyCopy {d : Line} (h : (b.overwrite pa n v).dirtyCopy pa = some d) :
    Line.Has d (lineOffset pa) n v := by
  have hsame := Bus.SameButData.overwrite b pa n v
  rcases Bus.dirtyCopy_eq_some h with ⟨k, hk, rfl⟩ | ⟨j, hj, rfl⟩
  · exact Bus.overwrite_dLine_has (hsame.dCopies ▸ hk)
  · exact Bus.overwrite_sLine_has (hsame.lookupS ▸ hj)

/-- A line of memory without a cached access: its copies take the bytes. -/
theorem Bus.passCopies_unused {q : Nat} (hc : (b.historyOf (lineNumber pa)).cached = false)
    (hr : b.regionOf pa.toNat = .ram) : b.passCopies q pa n v = b.overwrite pa n v := by
  rw [Bus.passCopies, hc, if_neg Bool.false_ne_true, if_pos hr]

/-- An uncached store to memory, of a line without a cached access: the word is in memory and in every copy. -/
theorem Bus.uncachedWrite_uncached {b1 : Bus} {q : Nat} (hr : b.regionOf pa.toNat = .ram)
    (hc : (b.historyOf (lineNumber pa)).cached = false) (h : b.uncachedWrite q pa n v = .ok () b1) :
    b1 = Bus.overwrite { b.storedUncached pa (linePut · (lineOffset pa) n v) with mem := memWrite b.mem pa.toNat n v.toNat }
      pa n v := by
  have hc' : ((b.storedUncached pa (linePut · (lineOffset pa) n v)).historyOf (lineNumber pa)).cached = false := by
    rw [Bus.storedUncached_historyOf, if_pos hr]
    exact hc
  have hr' : (b.storedUncached pa (linePut · (lineOffset pa) n v)).regionOf pa.toNat = .ram := hr
  have hmem : (b.storedUncached pa (linePut · (lineOffset pa) n v)).mem = b.mem := rfl
  unfold Bus.uncachedWrite at h
  generalize b.storedUncached pa (linePut · (lineOffset pa) n v) = c at *
  have hpast (m : Memory) : Bus.passCopies { c with mem := m } q pa n v = Bus.overwrite { c with mem := m } pa n v :=
    Bus.passCopies_unused hc' hr'
  simp only [Bus.writePast, Bus.physWrite, hr', BusResult.andThen, hpast, BusResult.ok.injEq, true_and] at h
  rw [← h, hmem]

theorem Option.getD_map_eq {α β : Type} {o : Option α} {f : α → β} {y : β} (h : ∀ x, o = some x → f x = y) :
    (o.map f).getD y = y := by
  cases o with
  | none => rfl
  | some x => exact h x rfl

theorem Bus.fetchUncached_stored {b1 : Bus} {q : Nat} (hr : b.regionOf pa.toNat = .ram) (hal : pa.toNat % 4 = 0)
    (hu : b.uca = none) (hc : (b.historyOf (lineNumber pa)).cached = false)
    (h : b.uncachedWrite q pa 4 v = .ok () b1) (q' : Nat) : b1.fetchUncached q' pa = .ok (v.setWidth 32) b1 := by
  have hhist := Bus.uncachedWrite_historyOf h (lineNumber pa)
  rw [Bus.storedUncached_historyOf, if_pos hr] at hhist
  have hb1 := Bus.uncachedWrite_uncached hr hc h
  have huca : b1.uca = none := by
    obtain ⟨-, hu'⟩ := Bus.writePast_keeps h
    exact hu'.trans hu
  have hmem : b1.regionOf pa.toNat = .ram ∧ b1.mem = memWrite b.mem pa.toNat 4 v.toNat := by
    obtain ⟨d, s, hsame⟩ := (Bus.SameButData.overwrite { b.storedUncached pa (linePut · (lineOffset pa) 4 v) with
      mem := memWrite b.mem pa.toNat 4 v.toNat } pa 4 v).frame
    rw [hb1, hsame]
    exact ⟨hr, rfl⟩
  have hdirty : ∀ d, b1.dirtyCopy pa = some d → Line.Has d (lineOffset pa) 4 v := by
    rw [hb1]
    exact fun d => Bus.overwrite_dirtyCopy
  have hold : ∀ d ∈ b1.oldLinesUncached pa, Line.Has d (lineOffset pa) 4 v := by
    rw [Bus.oldLinesUncached_eq, hhist]
    intro d hd
    obtain ⟨o, ho, hod⟩ := List.mem_filterMap.1 hd
    exact LineHistory.overwritten_uncached (List.mem_filter.1 ho).1 hod
  have hoff : lineOffset pa + 4 ≤ 32 := by rw [toNat_lineOffset]; omega
  have hread : BitVec.ofNat 64 (memRead b1.mem pa.toNat 4) = v &&& byteMask 4 := by
    refine BitVec.eq_of_toNat_eq ?_
    rw [hmem.2, memRead_memWrite_self, BitVec.toNat_ofNat, BitVec.toNat_and, byteMask, BitVec.toNat_ofNat,
      Nat.mod_eq_of_lt (a := 2 ^ (8 * 4) - 1) (by decide), Nat.and_two_pow_sub_one_eq_mod]
    omega
  have hseen : ∀ d, (b1.oldLinesUncached pa)[Config.anyNat .fetchSeesOld q']?.or (b1.dirtyCopy pa) = some d →
      lineGet d (lineOffset pa) 4 = v &&& byteMask 4 := by
    intro d hd
    obtain ⟨d', rfl⟩ : Line.Has d (lineOffset pa) 4 v := by
      rcases Option.or_eq_some_iff.1 hd with h' | ⟨-, h'⟩
      · exact hold d (List.mem_of_getElem? h')
      · exact hdirty d h'
    exact lineGet_linePut_self d' v (by decide) hoff
  have hlow : (v &&& byteMask 4).setWidth 32 = v.setWidth 32 := by
    refine BitVec.eq_of_getLsbD_eq fun i hi => ?_
    rw [BitVec.getLsbD_setWidth, BitVec.getLsbD_setWidth, BitVec.getLsbD_and, getLsbD_byteMask]
    simp [hi, show i < 64 by omega]
  have hskip : b1.drainLine q' pa = .ok () b1 := Bus.drainLine_skip q' fun u hu' => by rw [huca] at hu'; exact nomatch hu'
  simp only [Bus.fetchUncached, hskip, BusResult.andThen, Bus.physRead_memory q' 4 (.inl hmem.1), hread,
    Option.getD_map_eq hseen, hlow]

end

/-! A cached fetch of a line of memory without a copy. -/

/-- With no earlier content and no copy in a cache, a cached fetch delivers the word of memory. -/
theorem Bus.fetchCached_memory {b b1 : Bus} {q : Nat} {va : Word} {pa : PhysAddr} {w : BitVec 32}
    (hold : b.oldLines va pa = []) (hI : b.lookupI va pa = .miss) (hcached : b.dataCached pa = false) (hu : b.uca = none)
    (hr : b.regionOf pa.toNat = .ram) (hal : pa.toNat % 4 = 0) (h : b.fetchCached q va pa = .ok w b1) :
    w.toNat = bytesAt b.mem pa.toNat 4 := by
  obtain ⟨hcopies, hmiss⟩ := Bus.dataCached_eq_false.1 hcached
  have hskip : b.drainLine q pa = .ok () b := Bus.drainLine_skip q fun u hu' => by rw [hu] at hu'; exact nomatch hu'
  simp only [Bus.fetchCached, hskip, BusResult.andThen, hold, List.getElem?_nil, hI] at h
  cases hfill : b.fillS q pa with
  | ok j e =>
    simp only [hfill, BusResult.ok.injEq] at h
    obtain ⟨hw, -⟩ := h
    obtain ⟨hit, -⟩ | ⟨-, -, d, c, hread, hc, he⟩ := Bus.fillS_cases hfill
    · exact nomatch hmiss.symm.trans hit
    have hline : b.regionOf (pa.toNat / 32 * 32) = .ram := (b.regionOf_line (by omega)).trans hr
    rw [Bus.blockRead_ram hline (by omega)] at hread
    obtain rfl : memLine b.mem (pa.toNat / 32 * 32) = d := by simpa using hread
    have hnone : e.dirtySlots pa = [] := by
      refine List.filter_eq_nil_iff.2 fun k hk => ?_
      have hslot := (Bus.mem_dCopies.1 hk).1
      have hb : b.dHolds (primaryTag pa) k = false := by
        rw [← Bool.not_eq_true]
        intro hh
        have hmem : k ∈ b.dCopies pa := Bus.mem_dCopies.2 ⟨hslot, Bus.dHolds_iff.1 hh⟩
        rw [hcopies] at hmem
        exact List.not_mem_nil hmem
      have hh := Bus.dHolds_iff.2 (Bus.mem_dCopies.1 hk).2
      exact absurd ((Bus.fillS_dHolds hfill hb).symm.trans hh) Bool.false_ne_true
    have hdata : (e.sLine j).data = memLine b.mem (pa.toNat / 32 * 32) := by rw [he, Bus.setSLine_sLine, if_pos rfl]
    have hmem : (memRead b.mem pa.toNat 4) < 256 ^ 4 := memRead_lt _ _ _
    rw [← hw, Bus.refillLine, hnone, hdata, toNat_lineOffset, lineGet_memLine _ (by omega), bytesAt_eq_memRead,
      BitVec.toNat_setWidth, BitVec.toNat_ofNat]
    omega
  | busError => simp only [hfill, reduceCtorEq] at h
  | stop f => simp only [hfill, reduceCtorEq] at h

/-- Settles O24: each access changes the record of its line by one operation on `LineHistory`, and what a fetch sees is a
function of that record. -/
theorem cachedStoreForwarded : Obligations.CachedStoreForwarded := by
  refine ⟨fun b b1 q q' va pa n v hn hoff h hmix => ?_, ?_⟩
  · rw [← byteMask_eq_pow]
    exact Bus.cachedRead_of_cachedWrite q' hn hoff h hmix
  intro b b1 q n va va' pa v line other
  refine ⟨fun h => ?cachedStore, fun h => ?cachedLoad, fun h => ?uncachedStore, fun h => (Bus.drain_keeps h).1,
    fun h hu hr => ?gathered, fun h => ?uncachedLoad, fun hva => ?sequence, fun h hr hal hu hc => ?fetchStored,
    fun w hold hI hcached hu hr hal h => ?fetchClean⟩
  case cachedStore =>
    obtain ⟨c, k, b0, hd, hf, hhist⟩ := Bus.cachedWrite_historyOf h
    have hhist' : b1.historyOf line = _ := hhist
    refine ⟨by rw [hhist']; rfl, fun ho => ?_, c, k, b0, hd, hf, ?_⟩
    · have hc := otherColour_of_used ho (b.historyOf (lineNumber pa)).colours
      rw [hhist', LineHistory.mixedCached, Bool.or_eq_true]
      exact .inr (decide_eq_true hc)
    · rw [Bus.oldLines_eq, hhist, LineHistory.stored_seen _ _ _ _ (colourBit_visible va')]
      exact List.mem_cons_self
  case cachedLoad =>
    have hhist := Bus.cachedRead_historyOf h
    have hhist' : b1.historyOf line = _ := hhist
    refine ⟨by rw [hhist']; rfl, fun ho => ?_, ?_⟩
    · have hc := otherColour_of_used ho (b.historyOf (lineNumber pa)).colours
      rw [hhist', LineHistory.mixedCached, Bool.or_eq_true]
      exact .inr (decide_eq_true hc)
    · rw [Bus.oldLines_eq, hhist]
      rfl
  case uncachedStore =>
    have hhist := Bus.uncachedWrite_historyOf h (lineNumber pa)
    refine ⟨?_, fun hr => ?_⟩
    · exact Bool.or_eq_true_iff.2 (.inl ((congrArg LineHistory.uncached hhist).trans (Bus.storedUncached_uncached _ _ _)))
    · rw [Bus.oldLines_eq, hhist, ← Bus.oldLines_eq, Bus.storedUncached_oldLines hr,
        LineHistory.stored_seen _ _ _ _ (colourBit_visible va')]
      exact List.mem_cons_self
  case gathered =>
    have hhist := Bus.gather_historyOf h hu (lineNumber pa)
    have hseen : b1.oldLines va' pa =
        ((b.historyOf (lineNumber pa)).usedUncached.stored (b.newest pa) false).seen (colourBit va') := by
      rw [Bus.oldLines_eq, hhist, ← Bus.oldLines_eq, Bus.storedUncached_oldLines hr]
    refine ⟨?_, ?_, fun d hd => ?_⟩
    · exact Bool.or_eq_true_iff.2 (.inl ((congrArg LineHistory.uncached hhist).trans (Bus.storedUncached_uncached _ _ _)))
    · rw [hseen, LineHistory.stored_seen _ _ _ _ (colourBit_visible va')]
      exact List.mem_cons_self
    · rw [hseen] at hd
      exact LineHistory.stored_seen_tail _ _ _ _ hd
  case uncachedLoad =>
    simp only [Bus.uncachedRead, BusResult.andThen_eq_ok, BusResult.ok.injEq] at h
    obtain ⟨_, b2, -, x, b3, -, -, rfl⟩ := h
    have hhist : (b3.usedUncached pa).historyOf (lineNumber pa) = (b3.historyOf (lineNumber pa)).usedUncached := by
      rw [Bus.usedUncached, Bus.record_historyOf, if_pos rfl]
    exact Bool.or_eq_true_iff.2 (.inl (congrArg LineHistory.uncached hhist))
  case sequence =>
    refine ⟨Bus.sequenced_oldLines hva, Bus.sequenced_oldLinesUncached hva, fun h => ?_,
      Bus.sequenced_uncachedWrite hva⟩
    obtain ⟨c, k, b0, hd, hf, hhist⟩ := Bus.cachedWrite_historyOf h
    refine ⟨c, k, b0, hd, hf, ?_⟩
    rw [Bus.oldLines_eq, hhist]
    exact LineHistory.stored_seen_alone _ _ _ _ (colourBit_visible va) (Bus.sequenced_oldLines hva)
  case fetchStored => exact Bus.fetchUncached_stored hr hal hu hc h
  case fetchClean =>
    have hline : b.regionOf pa.toNat = .ram := by
      rw [← hr (pa.toNat % 32) (by omega), Nat.div_add_mod']
    exact Bus.fetchCached_memory hold hI hcached hu hline hal h

end Sys2Proof.Machine
end

section
/-! The gather buffer: its drain, and the uncached-accelerated stores that fill it. -/

namespace Sys2Proof.Machine

/-- The valid gathered bytes are in `m'`, and every other byte is as in `m`. -/
def UcaBuffer.Lands (u : UcaBuffer) (m m' : Memory) : Prop := ∀ a, memByte m' a =
  if u.line.toNat * 32 ≤ a ∧ a < u.line.toNat * 32 + 32 ∧ u.valid.getLsbD (a - u.line.toNat * 32) = true
  then u.data.extractLsb' (8 * (a - u.line.toNat * 32)) 8 else memByte m a

/-- The valid gathered bytes lie in memory. -/
def Bus.GathersRam (b : Bus) (u : UcaBuffer) : Prop :=
  ∀ n < 32, u.valid.getLsbD n = true → b.regionOf (u.line.toNat * 32 + n) = .ram

/-- Writes at the line `pa` have made memory `m`, and changed nothing else that a data cache does not hold. -/
structure Bus.Wrote (b : Bus) (pa : PhysAddr) (m : Memory) (c : Bus) : Prop where
  mem : c.mem = m
  uca : c.uca = b.uca
  region : ∀ a, c.regionOf a = b.regionOf a
  uncached : b.dataCached pa = false → c = { b with mem := m }

section
variable {b c d : Bus} {pa : PhysAddr} {q : Nat}

theorem Bus.Wrote.trans {m m' : Memory} (h : b.Wrote pa m c) (h' : c.Wrote pa m' d) : b.Wrote pa m' d where
  mem := h'.mem
  uca := h'.uca.trans h.uca
  region a := (h'.region a).trans (h.region a)
  uncached hd := by
    have hc := h.uncached hd
    have hcd : c.dataCached pa = false := by
      rw [hc]
      exact hd
    rw [h'.uncached hcd, hc]

/-- Passing the cached copies changes what a data cache holds and nothing else. -/
theorem Bus.passCopies_wrote {p : PhysAddr} (hp : p.toNat / 32 = pa.toNat / 32) (q n : Nat) (v : Word) :
    b.Wrote pa b.mem (b.passCopies q p n v) := by
  obtain ⟨d, s, hframe⟩ := (Bus.SameButData.passCopies b q p n v).frame
  refine ⟨by rw [hframe], by rw [hframe], fun a => by rw [hframe]; rfl, fun hd => ?_⟩
  exact Bus.passCopies_uncached ((Bus.dataCached_line hp).trans hd) q n v

theorem Bus.writePast_ram {p : PhysAddr} (hp : p.toNat / 32 = pa.toNat / 32) (hr : b.regionOf p.toNat = .ram) (q n : Nat)
    (v : Word) : ∃ c, b.writePast q p n v = .ok () c ∧ b.Wrote pa (memWrite b.mem p.toNat n v.toNat) c := by
  have hw : b.physWrite p.toNat n v = .ok () { b with mem := memWrite b.mem p.toNat n v.toNat } := by
    simp only [Bus.physWrite, hr]
  refine ⟨Bus.passCopies { b with mem := memWrite b.mem p.toNat n v.toNat } q p n v,
    by simp only [Bus.writePast, hw, BusResult.andThen], ?_⟩
  have hpast := Bus.passCopies_wrote (b := { b with mem := memWrite b.mem p.toNat n v.toNat }) hp q n v
  have hmem : b.Wrote pa (memWrite b.mem p.toNat n v.toNat) { b with mem := memWrite b.mem p.toNat n v.toNat } :=
    ⟨rfl, rfl, fun _ => rfl, fun _ => rfl⟩
  exact hmem.trans hpast

end

/-! Bytes. -/

theorem ofNat_lineGet_byte (d : Line) (i : Nat) : BitVec.ofNat 8 (lineGet d i 1).toNat = d.extractLsb' (8 * i) 8 := by
  refine BitVec.eq_of_getLsbD_eq fun k hk => ?_
  rw [BitVec.getLsbD_ofNat, BitVec.testBit_toNat, getLsbD_lineGet, BitVec.getLsbD_extractLsb']
  simp [hk, show k < 64 by omega]

theorem toNat_byteOfLine (line : BitVec 35) {i : Nat} (hi : i < 32) :
    (line ++ BitVec.ofNat 5 i).toNat = line.toNat * 32 + i := by
  rw [BitVec.toNat_append, BitVec.toNat_ofNat, Nat.shiftLeft_eq, Nat.mod_eq_of_lt hi,
    Nat.mul_comm, ← Nat.two_pow_add_eq_or_of_lt hi]

theorem extractLsb'_linePut (d : Line) {off n : Nat} (v : Word) {i : Nat} (hn : n ≤ 8) (hi : i < 32) :
    (linePut d off n v).extractLsb' (8 * i) 8 =
      if off ≤ i ∧ i < off + n then v.extractLsb' (8 * (i - off)) 8 else d.extractLsb' (8 * i) 8 := by
  refine BitVec.eq_of_getLsbD_eq fun k hk => ?_
  rw [BitVec.getLsbD_extractLsb', getLsbD_linePut d v hn (by omega)]
  by_cases h : off ≤ i ∧ i < off + n
  · rw [if_pos (by omega), if_pos h, BitVec.getLsbD_extractLsb', show 8 * i + k - 8 * off = 8 * (i - off) + k by omega]
  · rw [if_neg (by omega), if_neg h, BitVec.getLsbD_extractLsb']

theorem getLsbD_validBits {off n i : Nat} (hi : i < 32) : (validBits off n).getLsbD i = decide (off ≤ i ∧ i < off + n) := by
  rw [validBits, BitVec.getLsbD_ofNat, Nat.testBit_mul_two_pow, Nat.testBit_two_pow_sub_one]
  simp only [hi, decide_true, Bool.true_and, ← Bool.decide_and, decide_eq_decide]
  omega

/-! Draining. -/

section
variable {b : Bus} {q : Nat} {u : UcaBuffer}

/-- The bytes from `i` on, where the first of them is `32 - n`. -/
theorem Bus.drainBytes_ram (n : Nat) (hn : n ≤ 32) (hr : b.GathersRam u) : ∃ m c, b.drainBytes q u n = .ok () c ∧
    b.Wrote (u.line ++ 0#5) m c ∧ ∀ a, memByte m a =
      if u.line.toNat * 32 + (32 - n) ≤ a ∧ a < u.line.toNat * 32 + 32 ∧ u.valid.getLsbD (a - u.line.toNat * 32) = true
      then u.data.extractLsb' (8 * (a - u.line.toNat * 32)) 8 else memByte b.mem a := by
  induction n generalizing b with
  | zero =>
    refine ⟨b.mem, b, rfl, ⟨rfl, rfl, fun _ => rfl, fun _ => rfl⟩, fun a => ?_⟩
    rw [if_neg (by omega)]
  | succ n ih =>
    have hi : 31 - n < 32 := by omega
    have hpa := toNat_byteOfLine u.line hi
    by_cases hv : u.valid.getLsbD (31 - n) = true
    · have hline : (u.line ++ BitVec.ofNat 5 (31 - n)).toNat / 32 = (u.line ++ 0#5).toNat / 32 := by
        have h0 : (u.line ++ 0#5).toNat = u.line.toNat * 32 + 0 := toNat_byteOfLine u.line (by decide : 0 < 32)
        omega
      have hram : b.regionOf (u.line ++ BitVec.ofNat 5 (31 - n)).toNat = .ram := by rw [hpa]; exact hr _ hi hv
      obtain ⟨c, hc, hwrote⟩ := Bus.writePast_ram hline hram q 1 (lineGet u.data (31 - n) 1)
      obtain ⟨m, d, hd, hwrote', hm⟩ := ih (b := c) (by omega) fun k hk hvk => (hwrote.region _).trans (hr k hk hvk)
      refine ⟨m, d, ?_, hwrote.trans hwrote', fun a => ?_⟩
      · rw [Bus.drainBytes]
        simp only [hv, if_true, hc, BusResult.andThen, hd]
      · rw [hm, hwrote.mem, memByte_memWrite, hpa]
        by_cases ha : a = u.line.toNat * 32 + (31 - n)
        · subst ha
          rw [if_neg (by omega), if_pos (by omega), Nat.sub_self, Nat.pow_zero, Nat.div_one, ofNat_lineGet_byte,
            Nat.add_sub_cancel_left, if_pos ⟨by omega, by omega, hv⟩]
        · rw [if_neg (c := u.line.toNat * 32 + (31 - n) ≤ a ∧ _) (by omega)]
          refine if_congr ?_ rfl rfl
          constructor <;> rintro ⟨hl, hu, hb⟩ <;> exact ⟨by omega, hu, hb⟩
    · obtain ⟨m, d, hd, hwrote, hm⟩ := ih (by omega) hr
      refine ⟨m, d, ?_, hwrote, fun a => ?_⟩
      · rw [Bus.drainBytes]
        simp only [hv, hd, Bool.false_eq_true, if_false]
      · rw [hm]
        refine if_congr ⟨fun ⟨hl, hu, hb⟩ => ⟨by omega, hu, hb⟩, fun ⟨hl, hu, hb⟩ => ⟨?_, hu, hb⟩⟩ rfl rfl
        by_contra hlt
        have ha : a = u.line.toNat * 32 + (31 - n) := by omega
        rw [ha, Nat.add_sub_cancel_left] at hb
        exact hv hb

/-- A drain to memory: exactly the valid gathered bytes, and the empty buffer. -/
theorem Bus.drain_ram (hu : b.uca = some u) (hr : b.GathersRam u) : ∃ c, b.drain q = .ok () c ∧ c.uca = none ∧
    u.Lands b.mem c.mem ∧ (∀ a, c.regionOf a = b.regionOf a) ∧
    (b.dataCached (u.line ++ 0#5) = false → { c with mem := b.mem, uca := b.uca } = b) := by
  obtain ⟨m, c, hc, hwrote, hm⟩ := Bus.drainBytes_ram (b := { b with uca := none }) (q := q) 32 le_rfl hr
  refine ⟨c, by simp only [Bus.drain, hu, hc], hwrote.uca, ?_, hwrote.region, fun hd => ?_⟩
  · rw [hwrote.mem]
    exact hm
  · rw [hwrote.uncached hd]

end

/-! Gathering. -/

/-- `u'` has the bytes of `u` and over them the `n` low bytes of `v` from byte `off`. -/
def UcaBuffer.Joins (u u' : UcaBuffer) (off n : Nat) (v : Word) : Prop :=
  ∀ i < 32, (u'.valid.getLsbD i = true ↔ u.valid.getLsbD i = true ∨ (off ≤ i ∧ i < off + n)) ∧
    u'.data.extractLsb' (8 * i) 8 =
      if off ≤ i ∧ i < off + n then v.extractLsb' (8 * (i - off)) 8 else u.data.extractLsb' (8 * i) 8

/-- The gathered bytes after a store. -/
def UcaBuffer.join (u : UcaBuffer) (off n : Nat) (v : Word) : UcaBuffer :=
  { u with valid := u.valid ||| validBits off n, data := linePut u.data off n v }

/-- The empty gather buffer for the line at `pa`. -/
def UcaBuffer.empty (pa : PhysAddr) : UcaBuffer := { line := pa.extractLsb' 5 35, valid := 0#32, data := 0#256 }

theorem UcaBuffer.joins_join (u : UcaBuffer) (off : Nat) {n : Nat} (v : Word) (hn : n ≤ 8) :
    u.Joins (u.join off n v) off n v := by
  refine fun i hi => ⟨?_, extractLsb'_linePut u.data v hn hi⟩
  rw [UcaBuffer.join, BitVec.getLsbD_or, getLsbD_validBits hi, Bool.or_eq_true, decide_eq_true_iff]

theorem toNat_lineOf (pa : PhysAddr) : (pa.extractLsb' 5 35).toNat = pa.toNat / 32 := by
  rw [BitVec.extractLsb'_toNat, Nat.shiftRight_eq_div_pow]
  have := pa.isLt
  omega

theorem lineOf_iff {u : UcaBuffer} {pa : PhysAddr} : u.line = pa.extractLsb' 5 35 ↔ u.line.toNat = pa.toNat / 32 := by
  rw [← toNat_lineOf, BitVec.toNat_inj]

section
variable {b : Bus} {q n : Nat} {pa : PhysAddr} {v : Word} {u : UcaBuffer}

/-- A store that joins the bytes of its line, or starts an empty buffer. -/
theorem Bus.gather_join (hu : b.uca = some u ∨ (b.uca = none ∧ u = .empty pa)) (hline : u.line.toNat = pa.toNat / 32) :
    b.gather q pa n v =
      (b.storedUncached pa (linePut · (lineOffset pa) n v)).keepGathered q pa (u.join (lineOffset pa) n v) := by
  unfold Bus.gather
  rcases hu with hu | ⟨hu, rfl⟩
  · simp only [hu]
    exact if_pos (lineOf_iff.2 hline)
  · simp only [hu]
    rfl

/-- The bytes of another line go to memory first. -/
theorem Bus.gather_other {c : Bus} (hu : b.uca = some u) (hline : u.line.toNat ≠ pa.toNat / 32) (hd : b.drain q = .ok () c) :
    b.gather q pa n v =
      (c.storedUncached pa (linePut · (lineOffset pa) n v)).keepGathered q pa
        ((UcaBuffer.empty pa).join (lineOffset pa) n v) := by
  unfold Bus.gather
  simp only [hu, hd, BusResult.andThen]
  exact if_neg (mt lineOf_iff.1 hline)

theorem Bus.keepGathered_part (h : ∃ i < 32, u.valid.getLsbD i = false) :
    b.keepGathered q pa u = .ok () { b with uca := some u } := by
  unfold Bus.keepGathered
  rw [if_neg]
  intro hall
  obtain ⟨i, hi, hf⟩ := h
  rw [hall, BitVec.getLsbD_allOnes, decide_eq_true hi] at hf
  exact Bool.noConfusion hf

/-- A full line goes to memory as one block. -/
theorem Bus.keepGathered_full (h : ∀ i < 32, u.valid.getLsbD i = true) (hline : u.line.toNat = pa.toNat / 32)
    (hr : b.regionOf (u.line.toNat * 32) = .ram) :
    ∃ c, b.keepGathered q pa u = .ok () c ∧ c.uca = none ∧ u.Lands b.mem c.mem := by
  have hall : u.valid = BitVec.allOnes 32 := by
    refine BitVec.eq_of_getLsbD_eq fun i hi => ?_
    rw [h i hi, BitVec.getLsbD_allOnes, decide_eq_true hi]
  have hpa : (u.line ++ 0#5).toNat = u.line.toNat * 32 := toNat_byteOfLine u.line (by decide : 0 < 32)
  have hblock := Bus.blockWrite_ram (b := { b with uca := none }) (pa := u.line.toNat * 32) hr (by omega) u.data
  unfold Bus.keepGathered
  rw [if_pos hall, hpa, hblock, BusResult.andThen]
  refine ⟨_, rfl, ?_⟩
  let f (c : Bus) (p : PhysAddr) (off : Nat) : Bus := c.passCopies q p 8 (lineGet u.data off 8)
  have hkeep := Bus.eachDoubleword_keeps (f := f)
    (fun c => c.uca = none ∧ c.mem = memWrite b.mem (u.line.toNat * 32) 32 u.data.toNat) (fun c p off ⟨hcu, hcm⟩ => by
      have hp := Bus.passCopies_wrote (b := c) (pa := p) (p := p) rfl q 8 (lineGet u.data off 8)
      exact ⟨hp.uca.trans hcu, hp.mem.trans hcm⟩)
    (b := { b with uca := none, mem := memWrite b.mem (u.line.toNat * 32) 32 u.data.toNat }) ⟨rfl, rfl⟩ pa
  obtain ⟨hnone, hmem⟩ := hkeep
  refine ⟨hnone, fun a => ?_⟩
  refine (congrArg (memByte · a) hmem).trans ?_
  rw [memByte_memWrite]
  by_cases ha : u.line.toNat * 32 ≤ a ∧ a < u.line.toNat * 32 + 32
  · obtain ⟨hl, hu⟩ := ha
    rw [if_pos ⟨hl, hu⟩, if_pos ⟨hl, hu, h _ (by omega)⟩]
    refine BitVec.eq_of_toNat_eq ?_
    rw [BitVec.toNat_ofNat, BitVec.extractLsb'_toNat, Nat.shiftRight_eq_div_pow, pow_256]
  · rw [if_neg ha, if_neg fun hh => ha ⟨hh.1, hh.2.1⟩]

end

theorem storeData_gathers {s : State} {va : Word} {pa : PhysAddr} {n : Nat} {v : Word} (hal : va.toNat % n = 0)
    (ht : s.translateData true va = .ok pa 7#3) (hw : s.watchHit true va = false) :
    storeData s va n v = (s.bus.gather s.seq pa n v).toMem := by
  rw [storeData, dataAccess_translated s true n va _ pa _ hal ht hw]
  rfl

/-- Settles O23: the drain writes the valid bytes one by one, and a store joins the gathered bytes of its line. -/
theorem syncDrains : Obligations.SyncDrains := by
  unfold Obligations.SyncDrains
  intro full inRam
  refine ⟨fun s ha => ⟨fun hu => ?nothing, fun b hd => ?drained, fun u hu hr => ?memory⟩, ?_⟩
  case nothing =>
    show (s.bus.drain s.seq).toMem.finish s _ = _
    simp only [Bus.drain, hu, BusResult.toMem_ok, MemResult.finish_ok]
    exact finishBus_done ha s.bus
  case drained =>
    refine ⟨?_, (Bus.drain_keeps hd).2⟩
    show (s.bus.drain s.seq).toMem.finish s _ = _
    simp only [hd, BusResult.toMem_ok, MemResult.finish_ok]
    exact finishBus_done ha b
  case memory =>
    obtain ⟨b, hd, hnone, hlands, -, hrest⟩ := Bus.drain_ram (q := s.seq) hu hr
    refine ⟨b, ?_, hnone, hlands, hrest⟩
    show (s.bus.drain s.seq).toMem.finish s _ = _
    simp only [hd, BusResult.toMem_ok, MemResult.finish_ok]
    exact finishBus_done ha b
  intro s base rt offset pa ha va ht hw hmod off gathers
  have hoff : lineOffset pa = off := toNat_lineOffset pa
  have gathered (i : Instr) (n : Nat) (w : Word) (hn : n ∈ [1, 2, 4, 8])
      (hi : ∀ b, storeData s va n w = .ok () b → exec i s = .next (s.withBus b).after) : gathers i n w := by
    intro hal mine joins empty ends
    have hn8 : n ≤ 8 ∧ off + n ≤ 32 := by
      simp only [List.mem_cons, List.not_mem_nil, or_false] at hn
      rcases hn with rfl | rfl | rfl | rfl <;> omega
    have hends (b : Bus) (h : s.bus.gather s.seq pa n w = .ok () b) : ends b := by
      refine hi b ?_
      rw [storeData_gathers hal ht hw, h, BusResult.toMem_ok]
    have hjoins (u : UcaBuffer) (hline : u.line.toNat = pa.toNat / 32) : joins u (u.join off n w) :=
      ⟨hline, u.joins_join off w hn8.1⟩
    refine ⟨fun u hu hline => ⟨?part, ?full⟩, fun u hu hline hr => ?other⟩
    case part =>
      rintro ⟨i, hi32, hv, hnot⟩
      have hsome : ∃ k < 32, (u.join off n w).valid.getLsbD k = false := by
        refine ⟨i, hi32, Bool.eq_false_iff.2 fun hh => ?_⟩
        rcases ((hjoins u hline).2 i hi32).1.1 hh with h | h
        · exact Bool.noConfusion (hv.symm.trans h)
        · exact hnot h
      have hjoin : s.bus.gather s.seq pa n w = _ := Bus.gather_join hu hline
      rw [hoff, Bus.keepGathered_part hsome] at hjoin
      exact ⟨_, _, hends _ hjoin, rfl, hjoins u hline, rfl⟩
    case full =>
      intro hall hr
      have hvalid (i : Nat) (hi32 : i < 32) : (u.join off n w).valid.getLsbD i = true :=
        ((hjoins u hline).2 i hi32).1.2 (hall i hi32)
      obtain ⟨c, hc, hnone, hlands⟩ := Bus.keepGathered_full (q := s.seq) (pa := pa)
        (b := s.bus.storedUncached pa (linePut · (lineOffset pa) n w)) hvalid hline (hr 0 (by decide))
      exact ⟨c, _, hends c ((Bus.gather_join hu hline).trans (by rw [hoff] at hc ⊢; exact hc)), hnone, hjoins u hline, hlands⟩
    case other =>
      obtain ⟨c, hd, -, hlands, -⟩ := Bus.drain_ram (q := s.seq) hu hr
      have hempty : (UcaBuffer.empty pa).line.toNat = pa.toNat / 32 := toNat_lineOf pa
      have hsome : ∃ k < 32, ((UcaBuffer.empty pa).join off n w).valid.getLsbD k = false := by
        obtain ⟨k, hk32, hk⟩ : ∃ k < 32, ¬(off ≤ k ∧ k < off + n) := by
          by_cases h : off = 0
          · exact ⟨31, by decide, by omega⟩
          · exact ⟨0, by decide, by omega⟩
        refine ⟨k, hk32, Bool.eq_false_iff.2 fun hh => ?_⟩
        rcases ((hjoins _ hempty).2 k hk32).1.1 hh with h | h
        · simp [UcaBuffer.empty] at h
        · exact hk h
      have hother : s.bus.gather s.seq pa n w = _ := Bus.gather_other hu hline hd
      rw [hoff, Bus.keepGathered_part hsome] at hother
      exact ⟨_, _, hends _ hother, rfl, hjoins _ hempty, hlands⟩
  intro v
  have plain (n : Nat) (b : Bus) (h : storeData s va n v = .ok () b) := (accessCompletes s base rt offset n 0 b ha).2.1 h
  refine ⟨gathered _ 1 _ (by decide) fun b h => ?sb, gathered _ 2 _ (by decide) fun b h => ?sh,
    gathered _ 4 _ (by decide) fun b h => ?sw, gathered _ 8 _ (by decide) fun b h => ?sd,
    fun hu => ⟨gathered _ 4 _ (by decide) fun b h => ?swc1, fun hok => gathered _ 8 _ (by decide) fun b h => ?sdc1⟩⟩
  case sb =>
    obtain ⟨byte, -⟩ := plain 1 b h
    exact byte rfl
  case sh =>
    obtain ⟨-, half, -⟩ := plain 2 b h
    exact half rfl
  case sw =>
    obtain ⟨-, -, word, -⟩ := plain 4 b h
    exact word rfl
  case sd =>
    obtain ⟨-, -, -, double⟩ := plain 8 b h
    exact double rfl
  case swc1 =>
    obtain ⟨word, -⟩ := (accessCompletes s base rt offset 4 0 b ha).2.2 hu
    exact word rfl h
  case sdc1 =>
    obtain ⟨-, double⟩ := (accessCompletes s base rt offset 8 0 b ha).2.2 hu
    exact double rfl hok h

end Sys2Proof.Machine
end

section
/-! The floating-point registers and the moves. -/

namespace Sys2Proof.Machine

/-! A 32-bit register is one half of a 64-bit one. -/

/-- The 64-bit register that holds 32-bit register `f`. -/
def fprSlot (fr : Bool) (f : RegNum) : RegNum := if fr then f else evenFpr f

/-- The position of 32-bit register `f` in it. -/
def fprHalf (fr : Bool) (f : RegNum) : Nat := if !fr && f.getLsbD 0 then 32 else 0

theorem evenFpr_of_even : ∀ f : RegNum, f.getLsbD 0 = false → evenFpr f = f := by decide

/-- Two 32-bit registers of a pair are its two halves. -/
theorem fprHalf_of_slot {f g : RegNum} (hne : g ≠ f) {fr : Bool} (h : fprSlot fr g = fprSlot fr f) :
    fr = false ∧ fprHalf fr g = 32 - fprHalf fr f := by
  have hpair : ∀ f g : RegNum, g ≠ f → evenFpr g = evenFpr f → g.getLsbD 0 = !f.getLsbD 0 := by decide
  cases fr with
  | true => exact absurd h hne
  | false =>
    refine ⟨rfl, ?_⟩
    have hbit := hpair f g hne h
    unfold fprHalf
    rw [hbit]
    cases f.getLsbD 0 <;> rfl

section
variable (s : State) (f : RegNum)

theorem State.readFpr32_eq :
    s.readFpr32 f = (s.readFpr (fprSlot (statusFr s.cp0.status) f)).extractLsb' (fprHalf (statusFr s.cp0.status) f) 32 := by
  unfold State.readFpr32 fprSlot fprHalf
  cases statusFr s.cp0.status with
  | true => rfl
  | false =>
    cases hf : f.getLsbD 0 with
    | true => rfl
    | false => simp [evenFpr_of_even f hf]

theorem extractLsb'_append_low (u v : BitVec 32) : (u ++ v).extractLsb' 0 32 = v := by
  rw [BitVec.extractLsb'_append_eq_of_add_le (by decide), BitVec.extractLsb'_eq_self]

theorem extractLsb'_append_high (u v : BitVec 32) : (u ++ v).extractLsb' 32 32 = u := by
  rw [BitVec.extractLsb'_append_eq_of_le (by decide), Nat.sub_self, BitVec.extractLsb'_eq_self]

/-- A 32-bit write puts the value in its half; with FR = 0 the other half stays. -/
theorem State.writeFpr32_eq (w : BitVec 32) : ∃ v, s.writeFpr32 f w = s.writeFpr (fprSlot (statusFr s.cp0.status) f) v ∧
    v.extractLsb' (fprHalf (statusFr s.cp0.status) f) 32 = w ∧
      (statusFr s.cp0.status = false → v.extractLsb' (32 - fprHalf (statusFr s.cp0.status) f) 32 =
        (s.readFpr (fprSlot (statusFr s.cp0.status) f)).extractLsb' (32 - fprHalf (statusFr s.cp0.status) f) 32) := by
  unfold State.writeFpr32 fprSlot fprHalf
  cases statusFr s.cp0.status with
  | true => exact ⟨_, rfl, extractLsb'_append_low _ w, fun h => nomatch h⟩
  | false =>
    cases hf : f.getLsbD 0 with
    | true => exact ⟨_, rfl, extractLsb'_append_high w _, fun _ => extractLsb'_append_low w _⟩
    | false =>
      rw [evenFpr_of_even f hf]
      exact ⟨_, rfl, extractLsb'_append_low _ w, fun _ => extractLsb'_append_high _ w⟩

theorem State.readFpr_writeFpr (g : RegNum) (v : Word) :
    (s.writeFpr f v).readFpr g = if g = f then v else s.readFpr g := by
  split
  · next h => rw [h, State.readFpr_writeFpr_self]
  · next h => exact s.readFpr_writeFpr_other f g v h

theorem State.writeFpr32_frame (w : BitVec 32) : { s.writeFpr32 f w with fpr := s.fpr } = s := by
  obtain ⟨v, hv, -⟩ := s.writeFpr32_eq f w
  rw [hv]
  rfl

theorem State.readFpr32_writeFpr32 (g : RegNum) (w : BitVec 32) :
    (s.writeFpr32 f w).readFpr32 g = if g = f then w else s.readFpr32 g := by
  obtain ⟨v, hv, hhalf, hother⟩ := s.writeFpr32_eq f w
  rw [State.readFpr32_eq, hv, State.writeFpr_cp0, State.readFpr_writeFpr]
  by_cases hg : g = f
  · rw [if_pos hg, hg, if_pos rfl, hhalf]
  · rw [if_neg hg, s.readFpr32_eq g]
    by_cases hslot : fprSlot (statusFr s.cp0.status) g = fprSlot (statusFr s.cp0.status) f
    · obtain ⟨hfr, hpos⟩ := fprHalf_of_slot hg hslot
      rw [if_pos hslot, hslot, hpos, hother hfr]
    · rw [if_neg hslot]

/-- With FR = 0 an even register is the pair of its 32-bit registers. -/
theorem State.readFpr_pair {g : RegNum} (hfr : statusFr s.cp0.status = false) (hf : f.toNat % 2 = 0)
    (hg : g.toNat = f.toNat + 1) : s.readFpr f = s.readFpr32 g ++ s.readFpr32 f := by
  have hpair : ∀ f g : RegNum, f.toNat % 2 = 0 → g.toNat = f.toNat + 1 →
      f.getLsbD 0 = false ∧ g.getLsbD 0 = true ∧ evenFpr g = f := by decide
  obtain ⟨hf0, hg0, heven⟩ := hpair f g hf hg
  simp only [State.readFpr32, hfr, hf0, hg0, heven, Bool.false_eq_true, if_false, if_true]
  refine BitVec.eq_of_getLsbD_eq fun i hi => ?_
  rw [BitVec.getLsbD_append]
  by_cases h : i < 32
  · simp [h]
  · simp [h, show i - 32 < 32 by omega, show 32 + (i - 32) = i by omega]

end

/-! What an FCSR value calls for. -/

theorem fpTraps_eq_false {f : BitVec 32} {c : FpCauses} :
    fpTraps f c = false ↔ c.getLsbD 5 = false ∧ (c.setWidth 5 &&& fcsrEnables f) = 0#5 := by
  simp [fpTraps]

theorem fpTraps_fcsrCauses (f : BitVec 32) : fpTraps f (fcsrCauses f) = false ↔
    f.getLsbD 17 = false ∧ f.extractLsb' 12 5 &&& f.extractLsb' 7 5 = 0#5 := by
  have hbit : (fcsrCauses f).getLsbD 5 = f.getLsbD 17 := by rw [fcsrCauses, BitVec.getLsbD_extractLsb']; rfl
  have hfive : (fcsrCauses f).setWidth 5 = f.extractLsb' 12 5 := by
    rw [fcsrCauses, BitVec.setWidth_extractLsb'_of_le (by decide)]
  rw [fpTraps_eq_false, hbit, hfive]
  rfl

/-- Settles O47: a 32-bit register is a half of a 64-bit one, and the moves copy. -/
theorem floatingMoves : Obligations.FloatingMoves := by
  refine ⟨fun s f g v w => ⟨s.readFpr_writeFpr f g v, rfl, s.readFpr32_writeFpr32 f g w,
    s.writeFpr32_frame f w, fun hfr => ?fr1, fun hfr hf hg => s.readFpr_pair f hfr hf hg⟩, ?_⟩
  case fr1 =>
    have hfr' : statusFr s.cp0.status = true := hfr
    refine ⟨by rw [s.readFpr32_eq f, hfr']; rfl, fun hg => ?_⟩
    obtain ⟨x, hx, -⟩ := s.writeFpr32_eq f w
    rw [hx, hfr']
    exact s.readFpr_writeFpr_other f g x hg
  intro s rt fs fd hu ha f
  have move (k : State → State) (hpc : (k s).pc = s.pc) (hdelay : (k s).delay = s.delay) :
      advance (k s) = .next (k s).after := advance_of_canAdvance (ha.congr hpc hdelay)
  have usable (k : Outcome) : withCp1 s k = k := withCp1_of_usable k hu
  refine ⟨(usable _).trans (move (State.writeFpr32 · fd (s.readFpr32 fs)) (by simp) (by simp)),
    (usable _).trans (finishGpr_of_canAdvance _ _ ha),
    (usable _).trans (move (State.writeFpr32 · fs _) (by simp) (by simp)), fun hfs => ⟨?dmfc1, ?dmtc1, fun hfd => ?wide⟩,
    (usable _).trans (finishGpr_of_canAdvance _ _ ha), (usable _).trans (finishGpr_of_canAdvance _ _ ha),
    (usable _).trans (advance_of_canAdvance ha), fun h => ?plain, fun h => ?trap⟩
  case dmfc1 =>
    exact (usable _).trans ((withFpr64_of_ok _ (by simp [hfs])).trans (finishGpr_of_canAdvance _ _ ha))
  case dmtc1 =>
    exact (usable _).trans ((withFpr64_of_ok _ (by simp [hfs])).trans (move (State.writeFpr · fs _) rfl rfl))
  case wide =>
    have hmov := (usable _).trans ((withFpr64_of_ok (s := s) (fs := [fs, fd]) _ (by simp [hfs, hfd])).trans
      (move (State.writeFpr · fd (s.readFpr fs)) rfl rfl))
    exact ⟨hmov, hmov⟩
  case plain =>
    have hexec : exec (.ctc1 rt 31#5) s = withCp1 s (if fpTraps f (fcsrCauses f) then raise .floatingPoint { s with fcsr := f }
      else advance { s with fcsr := f }) := rfl
    rw [hexec, usable, (fpTraps_fcsrCauses f).2 h]
    exact move (fun s => { s with fcsr := f }) rfl rfl
  case trap =>
    have hexec : exec (.ctc1 rt 31#5) s = withCp1 s (if fpTraps f (fcsrCauses f) then raise .floatingPoint { s with fcsr := f }
      else advance { s with fcsr := f }) := rfl
    rw [hexec, usable, if_pos ((Bool.eq_false_or_eq_true _).resolve_right (mt (fpTraps_fcsrCauses f).1 h))]
    rfl

end Sys2Proof.Machine
end

section
/-! The fields of FCSR, how a floating-point operation ends, and the comparisons. -/

namespace Sys2Proof.Machine

/-! The fields of FCSR, bit by bit. -/

theorem getLsbD_mergeBits {w : Nat} (mask old new : BitVec w) (n : Nat) (hn : n < w) : (mergeBits mask old new).getLsbD n =
    if mask.getLsbD n then new.getLsbD n else old.getLsbD n := by
  rw [mergeBits, BitVec.getLsbD_or, BitVec.getLsbD_and, BitVec.getLsbD_and, BitVec.getLsbD_not]
  cases mask.getLsbD n <;> simp [hn]

section
variable (f : BitVec 32) (c : FpCauses) (b : Bool)

theorem getLsbD_fcsrSetCauses {n : Nat} (hn : n < 32) :
    (fcsrSetCauses f c).getLsbD n = if 12 ≤ n ∧ n ≤ 17 then c.getLsbD (n - 12) else f.getLsbD n := by
  have hmask : ∀ n < 32, (0x0003F000#32).getLsbD n = decide (12 ≤ n ∧ n ≤ 17) := by decide
  rw [fcsrSetCauses, getLsbD_mergeBits _ _ _ n hn, hmask n hn]
  refine if_ctx_congr decide_eq_true_iff (fun h => ?_) fun _ => rfl
  rw [BitVec.getLsbD_shiftLeft, BitVec.getLsbD_setWidth]
  simp [hn, show ¬n < 12 by omega, show n - 12 < 32 by omega]

theorem getLsbD_fcsrAddFlags {n : Nat} (hn : n < 32) : (fcsrAddFlags f c).getLsbD n =
    if 2 ≤ n ∧ n ≤ 6 then f.getLsbD n || c.getLsbD (n - 2) else f.getLsbD n := by
  rw [fcsrAddFlags, BitVec.getLsbD_or, BitVec.getLsbD_shiftLeft, BitVec.getLsbD_setWidth, BitVec.getLsbD_setWidth]
  by_cases h : 2 ≤ n ∧ n ≤ 6
  · simp [h, hn, show ¬n < 2 by omega, show n - 2 < 32 by omega, show n - 2 < 5 by omega]
  · rw [if_neg h]
    by_cases h2 : n < 2
    · simp [h2]
    · simp [show ¬n - 2 < 5 by omega]

theorem getLsbD_fcsrSetCc0 {n : Nat} (hn : n < 32) : (fcsrSetCc0 f b).getLsbD n = if n = 23 then b else f.getLsbD n := by
  have hmask : ∀ n < 32, (0x00800000#32).getLsbD n = decide (n = 23) := by decide
  rw [fcsrSetCc0, getLsbD_mergeBits _ _ _ n hn, hmask n hn]
  refine if_ctx_congr decide_eq_true_iff (fun h => ?_) fun _ => rfl
  subst h
  cases b <;> rfl

theorem getLsbD_fcsrSetCc1 {n : Nat} (hn : n < 32) : (fcsrSetCc1 f b).getLsbD n = if n = 25 then b else f.getLsbD n := by
  have hmask : ∀ n < 32, (0x02000000#32).getLsbD n = decide (n = 25) := by decide
  rw [fcsrSetCc1, getLsbD_mergeBits _ _ _ n hn, hmask n hn]
  refine if_ctx_congr decide_eq_true_iff (fun h => ?_) fun _ => rfl
  subst h
  cases b <;> rfl

theorem getLsbD_fcsrEnables {n : Nat} (hn : n < 5) : (fcsrEnables f).getLsbD n = f.getLsbD (7 + n) := by
  rw [fcsrEnables, BitVec.getLsbD_extractLsb', decide_eq_true hn, Bool.true_and]

theorem fcsrEnables_setCauses : fcsrEnables (fcsrSetCauses f c) = fcsrEnables f := by
  refine BitVec.eq_of_getLsbD_eq fun n hn => ?_
  rw [getLsbD_fcsrEnables _ hn, getLsbD_fcsrEnables _ hn, getLsbD_fcsrSetCauses f c (by omega), if_neg (by omega)]

end

/-! How a floating-point operation ends. -/

section
variable {s : State} {i : Instr} {fd : RegNum} {r : FpResult}

theorem fpTraps_eq_false_iff {c : FpCauses} : fpTraps (fcsrSetCauses s.fcsr c) c = false ↔ s.Untrapped c := by
  rw [fpTraps_eq_false, fcsrEnables_setCauses]

theorem fpTraps_of_not_untrapped {c : FpCauses} (h : ¬s.Untrapped c) : fpTraps (fcsrSetCauses s.fcsr c) c = true :=
  (Bool.eq_false_or_eq_true _).resolve_right (mt fpTraps_eq_false_iff.1 h)

theorem endsSingle_of (ha : s.CanAdvance) (hi : exec i s = fpFinishS s fd r) : EndsSingle i s fd r :=
  ⟨fun h => hi.trans (fpFinishS_done fd r ha (fpTraps_eq_false_iff.2 h)),
    fun h => hi.trans (fpComplete_trap _ (fpTraps_of_not_untrapped h))⟩

theorem endsDouble_of (ha : s.CanAdvance) (hi : exec i s = fpFinishD s fd r) : EndsDouble i s fd r :=
  ⟨fun h => hi.trans (fpFinishD_done fd r ha (fpTraps_eq_false_iff.2 h)),
    fun h => hi.trans (fpComplete_trap _ (fpTraps_of_not_untrapped h))⟩

theorem endsCompare_of {invalid : Bool} {update : BitVec 32 → BitVec 32} (ha : s.CanAdvance)
    (hi : exec i s = fpFinishCompare s invalid update) : EndsCompare i s invalid update :=
  ⟨fun h => hi.trans (fpFinishCompare_done invalid update ha (fpTraps_eq_false_iff.2 h)),
    fun h => hi.trans (fpComplete_trap _ (fpTraps_of_not_untrapped h))⟩

/-- An operation on 32-bit registers, where CP1 is usable. -/
theorem withCp1_endsSingle {k : Outcome} (hu : s.Cp1Usable) (ha : s.CanAdvance) (hi : exec i s = withCp1 s k)
    (hk : k = fpFinishS s fd r) : EndsSingle i s fd r :=
  endsSingle_of ha (hi.trans ((withCp1_of_usable k hu).trans hk))

/-- An operation on 64-bit registers, where CP1 is usable and each of them may be named. -/
theorem withFpr64_eq {k : Outcome} {regs : List RegNum} (hu : s.Cp1Usable)
    (hok : ∀ g ∈ regs, fpr64Ok s.cp0.status g = true) : withCp1 s (withFpr64 s regs k) = k :=
  (withCp1_of_usable _ hu).trans (withFpr64_of_ok k (List.all_eq_true.2 hok))

end

/-! Relations and conditions. -/

/-- The conditions of number `k`, from the bits of `k` (R452). -/
def holdsNumber (k : Nat) (a b : FpValue) : Bool :=
  (k / 4 % 2 = 1 && fpRelation a b = .less) || (k / 2 % 2 = 1 && fpRelation a b = .equal) ||
    (k % 2 = 1 && fpRelation a b = .unordered)

/-- Whether the comparison of number `k` is invalid. -/
def invalidNumber (k : Nat) (a b : FpValue) : Bool :=
  a.signaling || b.signaling || (8 ≤ k && fpRelation a b = .unordered)

section
variable {k : Nat} (hk : k < 16) (a b : FpValue)
include hk

theorem conditionHolds_ofNat : conditionHolds (BitVec.ofNat 4 k) (fpRelation a b) = holdsNumber k a b := by
  have hless : ∀ k < 16, (BitVec.ofNat 4 k).getLsbD 2 = decide (k / 4 % 2 = 1) := by decide
  have hequal : ∀ k < 16, (BitVec.ofNat 4 k).getLsbD 1 = decide (k / 2 % 2 = 1) := by decide
  have hunordered : ∀ k < 16, (BitVec.ofNat 4 k).getLsbD 0 = decide (k % 2 = 1) := by decide
  unfold holdsNumber conditionHolds
  cases fpRelation a b <;> simp only [hless k hk, hequal k hk, hunordered k hk] <;> simp

theorem compareInvalid_ofNat : compareInvalid (BitVec.ofNat 4 k) a b = invalidNumber k a b := by
  have h8 : ∀ k < 16, (BitVec.ofNat 4 k).getLsbD 3 = decide (8 ≤ k) := by decide
  rw [compareInvalid, h8 k hk]
  rfl

end

/-- The exact value of a number, as an integer times a power of two. -/
theorem toRat_compareKey (a : FpValue) : a.toRat = (compareKey a).1 * 2 ^ (compareKey a).2 := by
  cases a <;> simp [FpValue.toRat, compareKey]

/-- Two values scaled to one power of two. -/
theorem scaled_eq (m e low : Int) (h : low ≤ e) : ((m * 2 ^ (e - low).toNat : Int) : ℚ) * 2 ^ low = m * 2 ^ e := by
  have hpow : ((2 : ℚ) ^ (e - low).toNat) * 2 ^ low = 2 ^ e := by
    rw [← zpow_natCast, ← zpow_add₀ (by norm_num), Int.toNat_of_nonneg (by omega), Int.sub_add_cancel]
  push_cast
  rw [mul_assoc, hpow]

/-- A zero or a finite number. -/
def FpValue.IsNumber (x : FpValue) : Prop := (∃ s, x = .zero s) ∨ ∃ s d m e, x = .finite s d m e

theorem fpRelation_number {a b : FpValue} (ha : a.IsNumber) (hb : b.IsNumber) : fpRelation a b =
    if a.toRat < b.toRat then .less else if a.toRat = b.toRat then .equal else .greater := by
  obtain ⟨low, hlow⟩ : ∃ low, low = min (compareKey a).2 (compareKey b).2 := ⟨_, rfl⟩
  have hpos : (0 : ℚ) < 2 ^ low := by positivity
  have hx := scaled_eq (compareKey a).1 (compareKey a).2 low (by omega)
  have hy := scaled_eq (compareKey b).1 (compareKey b).2 low (by omega)
  rw [← toRat_compareKey] at hx hy
  have hrel : fpRelation a b =
      if (compareKey a).1 * 2 ^ ((compareKey a).2 - low).toNat < (compareKey b).1 * 2 ^ ((compareKey b).2 - low).toNat
      then .less
      else if (compareKey a).1 * 2 ^ ((compareKey a).2 - low).toNat = (compareKey b).1 * 2 ^ ((compareKey b).2 - low).toNat
      then .equal else .greater := by
    rw [hlow]
    rcases ha with ⟨s, rfl⟩ | ⟨s, d, m, e, rfl⟩ <;> rcases hb with ⟨t, rfl⟩ | ⟨t, d', n, e', rfl⟩ <;> rfl
  simp only [hrel, ← hx, ← hy, mul_lt_mul_iff_left₀ hpos, mul_left_inj' hpos.ne', Int.cast_lt, Int.cast_inj]

theorem fpRelation_infinity_number {s : Bool} {b : FpValue} (hb : b.IsNumber) :
    fpRelation (.infinity s) b = if s then .less else .greater := by
  rcases hb with ⟨t, rfl⟩ | ⟨t, d, n, e, rfl⟩ <;> rfl

theorem fpRelation_number_infinity {s : Bool} {a : FpValue} (ha : a.IsNumber) :
    fpRelation a (.infinity s) = if s then .greater else .less := by
  rcases ha with ⟨t, rfl⟩ | ⟨t, d, n, e, rfl⟩ <;> rfl

theorem fpRelation_nan {a b : FpValue} (h : a.isNan = true ∨ b.isNan = true) : fpRelation a b = .unordered := by
  have hnan : (a.isNan || b.isNan) = true := Bool.or_eq_true_iff.2 h
  unfold fpRelation
  exact if_pos hnan

theorem not_signaling_of_ordered {a b : FpValue} (h : fpRelation a b ≠ .unordered) :
    a.signaling = false ∧ b.signaling = false := by
  have hsig (x : FpValue) (hx : x.isNan = false) : x.signaling = false := by
    cases x with
    | signalingNan t => exact nomatch hx
    | _ => rfl
  have hnan : ¬(a.isNan = true ∨ b.isNan = true) := mt fpRelation_nan h
  push Not at hnan
  exact ⟨hsig a (Bool.eq_false_iff.2 hnan.1), hsig b (Bool.eq_false_iff.2 hnan.2)⟩

theorem State.untrapped_none (s : State) : s.Untrapped causeNone := ⟨rfl, by simp [causeNone]⟩

/-- Settles O51: the fields bit by bit, each comparison by its number, and the relation by the exact values. -/
theorem floatingComparisons : Obligations.FloatingComparisons := by
  refine ⟨fun f c b => ⟨fun n hn => ⟨getLsbD_fcsrSetCauses f c hn, getLsbD_fcsrAddFlags f c hn, getLsbD_fcsrSetCc0 f b hn,
    getLsbD_fcsrSetCc1 f b hn⟩, fun n hn => getLsbD_fcsrEnables f hn⟩, by decide, fun s ft fs hu ha => ?compare,
    fun s ft fs imm hu ha => ?branch, fun a b => ?relation⟩
  case compare =>
    intro holds invalid single double low high
    have isSingle (k : Nat) (hk : k < 16) {i : Instr} (hi : exec i s = fpCompareS s (BitVec.ofNat 4 k) ft fs) :
        EndsCompare i s (invalid k (single fs) (single ft)) fun f => fcsrSetCc0 f (holds k (single fs) (single ft)) := by
      refine endsCompare_of ha (hi.trans ((withCp1_of_usable _ hu).trans ?_))
      rw [fpCompareValues, compareInvalid_ofNat hk, conditionHolds_ofNat hk]
      rfl
    refine ⟨?single, fun hfs hft => ?_⟩
    case single =>
      simp only [List.forall_mem_cons, List.not_mem_nil, false_imp_iff, implies_true, and_true]
      exact ⟨isSingle 0 (by decide) rfl, isSingle 1 (by decide) rfl, isSingle 2 (by decide) rfl, isSingle 3 (by decide) rfl,
        isSingle 4 (by decide) rfl, isSingle 5 (by decide) rfl, isSingle 6 (by decide) rfl, isSingle 7 (by decide) rfl,
        isSingle 8 (by decide) rfl, isSingle 9 (by decide) rfl, isSingle 10 (by decide) rfl, isSingle 11 (by decide) rfl,
        isSingle 12 (by decide) rfl, isSingle 13 (by decide) rfl, isSingle 14 (by decide) rfl, isSingle 15 (by decide) rfl⟩
    have hok : ∀ g ∈ [ft, fs], fpr64Ok s.cp0.status g = true := by
      simp only [List.forall_mem_cons, List.not_mem_nil, false_imp_iff, implies_true, and_true]
      exact ⟨hft, hfs⟩
    have isDouble (k : Nat) (hk : k < 16) {i : Instr} (hi : exec i s = fpCompareD s (BitVec.ofNat 4 k) ft fs) :
        EndsCompare i s (invalid k (double fs) (double ft)) fun f => fcsrSetCc0 f (holds k (double fs) (double ft)) := by
      refine endsCompare_of ha (hi.trans ((withFpr64_eq hu hok).trans ?_))
      rw [fpCompareValues, compareInvalid_ofNat hk, conditionHolds_ofNat hk]
      rfl
    have isPaired (k : Nat) (hk : k < 16) {i : Instr} (hi : exec i s = fpComparePs s (BitVec.ofNat 4 k) ft fs) :
        EndsCompare i s (invalid k (low fs) (low ft) || invalid k (high fs) (high ft)) fun f =>
          fcsrSetCc1 (fcsrSetCc0 f (holds k (low fs) (low ft))) (holds k (high fs) (high ft)) := by
      refine endsCompare_of ha (hi.trans ((withFpr64_eq hu hok).trans ?_))
      simp only [compareInvalid_ofNat hk, conditionHolds_ofNat hk]
      rfl
    simp only [List.forall_mem_cons, List.not_mem_nil, false_imp_iff, implies_true, and_true]
    exact ⟨⟨isDouble 0 (by decide) rfl, isDouble 1 (by decide) rfl, isDouble 2 (by decide) rfl, isDouble 3 (by decide) rfl,
      isDouble 4 (by decide) rfl, isDouble 5 (by decide) rfl, isDouble 6 (by decide) rfl, isDouble 7 (by decide) rfl,
      isDouble 8 (by decide) rfl, isDouble 9 (by decide) rfl, isDouble 10 (by decide) rfl, isDouble 11 (by decide) rfl,
      isDouble 12 (by decide) rfl, isDouble 13 (by decide) rfl, isDouble 14 (by decide) rfl, isDouble 15 (by decide) rfl⟩,
      isPaired 0 (by decide) rfl, isPaired 1 (by decide) rfl, isPaired 2 (by decide) rfl, isPaired 3 (by decide) rfl,
      isPaired 4 (by decide) rfl, isPaired 5 (by decide) rfl, isPaired 6 (by decide) rfl, isPaired 7 (by decide) rfl,
      isPaired 8 (by decide) rfl, isPaired 9 (by decide) rfl, isPaired 10 (by decide) rfl, isPaired 11 (by decide) rfl,
      isPaired 12 (by decide) rfl, isPaired 13 (by decide) rfl, isPaired 14 (by decide) rfl, isPaired 15 (by decide) rfl⟩
  case branch =>
    intro r hr
    obtain ⟨hsa, hsb⟩ := not_signaling_of_ordered hr
    have hi : exec (.cEqS ft fs) s = fpFinishCompare s false fun f => fcsrSetCc0 f (conditionHolds 2#4 r) := by
      refine (withCp1_of_usable _ hu).trans ?_
      rw [fpCompareValues, compareInvalid]
      exact congrArg (fun b => fpFinishCompare s b fun f => fcsrSetCc0 f (conditionHolds 2#4 r))
        (by rw [show (2#4 : BitVec 4).getLsbD 3 = false from rfl, Bool.false_and, Bool.or_false]
            exact Bool.or_eq_false_iff.2 ⟨hsa, hsb⟩)
    obtain ⟨hdone, -⟩ := endsCompare_of ha hi
    refine ⟨_, hdone s.untrapped_none, fun hb => ?_⟩
    obtain ⟨-, -, -, -, -, -, hcc⟩ := conditionalBranches _ 0#5 0#5 imm hb
    obtain ⟨-, htaken, hnot⟩ := hcc hu
    have hbit : (fcsrSetCc0 (s.withCauses causeNone).fcsr (conditionHolds 2#4 r)).getLsbD 23 = true ↔ r = .equal := by
      rw [getLsbD_fcsrSetCc0 _ _ (by decide), if_pos rfl]
      cases r <;> decide
    by_cases hequal : r = .equal
    · rw [if_pos hequal]
      exact (htaken (hbit.2 hequal)).1
    · rw [if_neg hequal]
      exact (hnot (mt hbit.1 hequal)).1
  case relation =>
    intro nan number
    have isNan (x : FpValue) (h : nan x) : x.isNan = true := by rcases h with ⟨s, rfl⟩ | ⟨s, rfl⟩ <;> rfl
    refine ⟨fun h => fpRelation_nan (h.imp (isNan a) (isNan b)), fun ha hb => fpRelation_number ha hb,
      fun s => ⟨fun hb ha => ?_, fun ha hb => ?_, fun t ha hb => ?_⟩⟩
    · rw [ha, fpRelation_infinity_number hb]
    · rw [hb, fpRelation_number_infinity ha]
    · rw [ha, hb]
      rfl

end Sys2Proof.Machine
end

section
/-! Operands: what the bits stand for, and the special ones. -/

namespace Sys2Proof.Machine

/-! The two formats. -/

theorem FpFormat.width_pred (f : FpFormat) : f.width - 1 = f.fracBits + f.expBits := by cases f <;> rfl
theorem FpFormat.width_pos (f : FpFormat) : 0 < f.width := by cases f <;> decide
theorem FpFormat.width_le (f : FpFormat) : f.width ≤ 64 := by cases f <;> decide
theorem FpFormat.precision_eq (f : FpFormat) : f.precision = f.fracBits + 1 := by cases f <;> rfl
theorem FpFormat.two_le_precision (f : FpFormat) : 2 ≤ f.precision := by cases f <;> decide
theorem FpFormat.emin_eq (f : FpFormat) : f.emin = 1 - f.emax := by cases f <;> rfl
theorem FpFormat.two_pow_expBits (f : FpFormat) : ((2 ^ f.expBits : Nat) : Int) = 2 * f.emax + 2 := by cases f <;> rfl
theorem FpFormat.emax_pos (f : FpFormat) : 1 < f.emax := by cases f <;> decide

/-- What a sign, an exponent field and a fraction field stand for (R412, R413). -/
def fpClassify (f : FpFormat) (sign : Bool) (ex frac : Nat) : FpValue :=
  if ex = 2 ^ f.expBits - 1 then
    if frac = 0 then .infinity sign
    else if frac / 2 ^ (f.fracBits - 1) = 1 then .signalingNan sign
    else .quietNan sign
  else if ex = 0 then
    if frac = 0 then .zero sign else .finite sign true frac (f.emin - f.fracBits)
  else .finite sign false (frac + 2 ^ f.fracBits) (ex - f.emax - f.fracBits)

theorem fpUnpack_eq (f : FpFormat) (w : Word) : fpUnpack f w = fpClassify f (w.getLsbD (f.width - 1))
    (w.extractLsb' f.fracBits f.expBits).toNat (w.extractLsb' 0 f.fracBits).toNat := by
  have hsign : w.getLsbD (f.width - 1) = decide (w.toNat / 2 ^ (f.width - 1) % 2 = 1) := by
    rw [← BitVec.testBit_toNat, Nat.testBit_eq_decide_div_mod_eq]
  rw [hsign, BitVec.extractLsb'_toNat, BitVec.extractLsb'_toNat, Nat.shiftRight_eq_div_pow, Nat.shiftRight_zero]
  rfl

/-- The fields of a word put together from them. -/
theorem fpUnpack_fpBits (f : FpFormat) (sign : Bool) {ex frac : Nat} (hex : ex < 2 ^ f.expBits)
    (hfrac : frac < 2 ^ f.fracBits) : fpUnpack f (fpBits f sign ex frac) = fpClassify f sign ex frac := by
  obtain ⟨hlt, hfracField, hexField, hsign⟩ :
      (if sign then 2 ^ (f.width - 1) else 0) + ex * 2 ^ f.fracBits + frac < 2 ^ 64 ∧
      ((if sign then 2 ^ (f.width - 1) else 0) + ex * 2 ^ f.fracBits + frac) % 2 ^ f.fracBits = frac ∧
      ((if sign then 2 ^ (f.width - 1) else 0) + ex * 2 ^ f.fracBits + frac) / 2 ^ f.fracBits % 2 ^ f.expBits = ex ∧
      decide (((if sign then 2 ^ (f.width - 1) else 0) + ex * 2 ^ f.fracBits + frac) / 2 ^ (f.width - 1) % 2 = 1) = sign := by
    cases f <;> cases sign <;>
      simp [FpFormat.width, FpFormat.fracBits, FpFormat.precision, FpFormat.expBits] at * <;> omega
  have hnat : (fpBits f sign ex frac).toNat = (if sign then 2 ^ (f.width - 1) else 0) + ex * 2 ^ f.fracBits + frac := by
    rw [fpBits, BitVec.toNat_ofNat, Nat.mod_eq_of_lt hlt]
  show fpClassify f (decide ((fpBits f sign ex frac).toNat / 2 ^ (f.width - 1) % 2 = 1)) _ _ = _
  rw [hnat, hfracField, hexField, hsign]

section
variable (f : FpFormat) (sign : Bool)

theorem fpUnpack_fpInfinity : fpUnpack f (fpInfinity f sign) = .infinity sign := by
  rw [fpInfinity, fpUnpack_fpBits f sign (by cases f <;> decide) (by cases f <;> decide), fpClassify, if_pos rfl, if_pos rfl]

theorem fpUnpack_fpZero : fpUnpack f (fpZero f sign) = .zero sign := by
  rw [fpZero, fpUnpack_fpBits f sign (by cases f <;> decide) (by cases f <;> decide), fpClassify,
    if_neg (by cases f <;> decide), if_pos rfl, if_pos rfl]

/-- A normal number from its exponent field and significand. -/
theorem fpUnpack_normal {ex q : Nat} (h0 : 0 < ex) (hex : ex < 2 ^ f.expBits - 1) (hl : 2 ^ f.fracBits ≤ q)
    (hu : q < 2 ^ f.precision) :
    fpUnpack f (fpBits f sign ex (q - 2 ^ f.fracBits)) = .finite sign false q (ex - f.emax - f.fracBits) := by
  rw [f.precision_eq, Nat.pow_succ] at hu
  rw [fpUnpack_fpBits f sign (by omega) (by omega), fpClassify, if_neg (by omega), if_neg (by omega), Nat.sub_add_cancel hl]

theorem fpUnpack_fpLargest : fpUnpack f (fpLargest f sign) =
    .finite sign false (2 ^ f.precision - 1) (f.emax - (f.precision - 1)) := by
  have h := fpUnpack_normal f sign (ex := 2 ^ f.expBits - 2) (q := 2 ^ f.precision - 1) (by cases f <;> decide)
    (by cases f <;> decide) (by cases f <;> decide) (by cases f <;> decide)
  cases f <;> exact h

theorem fpUnpack_fpSmallestNormal : fpUnpack f (fpSmallestNormal f sign) =
    .finite sign false (2 ^ (f.precision - 1)) (f.emin - (f.precision - 1)) := by
  have h := fpUnpack_normal f sign (ex := 1) (q := 2 ^ (f.precision - 1)) (by decide) (by cases f <;> decide) le_rfl
    (by cases f <;> decide)
  cases f <;> exact h

end

/-! Kinds of operands. -/

section
variable (a b : FpValue)

theorem FpValue.unimplemented_iff : a.unimplemented = true ↔ a.Unimplemented := by
  cases a with
  | quietNan s => exact iff_of_true rfl (.inl ⟨s, rfl⟩)
  | finite s d m e => cases d <;> simp [FpValue.unimplemented, FpValue.Unimplemented]
  | _ => simp [FpValue.unimplemented, FpValue.Unimplemented]

theorem FpValue.signaling_iff : a.signaling = true ↔ a.Signals := by
  cases a <;> simp [FpValue.signaling, FpValue.Signals]

theorem FpValue.signals_iff : (a.signaling || b.signaling) = true ↔ a.Signals ∨ b.Signals := by
  rw [Bool.or_eq_true, a.signaling_iff, b.signaling_iff]

theorem FpValue.bad_iff : (a.unimplemented || b.unimplemented) = true ↔ a.Unimplemented ∨ b.Unimplemented := by
  rw [Bool.or_eq_true, a.unimplemented_iff, b.unimplemented_iff]

/-- An operand that stops no operation. -/
theorem FpValue.cases_of_ok {a : FpValue} (hu : a.unimplemented = false) (hs : a.signaling = false) :
    (∃ s, a = .infinity s) ∨ (∃ s, a = .zero s) ∨ ∃ s m e, a = .finite s false m e := by
  cases a with
  | quietNan s => exact nomatch hu
  | signalingNan s => exact nomatch hs
  | infinity s => exact .inl ⟨s, rfl⟩
  | zero s => exact .inr (.inl ⟨s, rfl⟩)
  | finite s d m e =>
    obtain rfl : d = false := hu
    exact .inr (.inr ⟨s, m, e, rfl⟩)

@[simp] theorem FpValue.negate_negate : a.negate.negate = a := by cases a <;> simp [FpValue.negate]

theorem FpValue.negate_eq_iff : a.negate = b ↔ a = b.negate :=
  ⟨fun h => by rw [← h, a.negate_negate], fun h => by rw [h, b.negate_negate]⟩

@[simp] theorem FpValue.negate_unimplemented : a.negate.unimplemented = a.unimplemented := by cases a <;> rfl
@[simp] theorem FpValue.negate_signaling : a.negate.signaling = a.signaling := by cases a <;> rfl

theorem addInvalid_iff : addInvalid a b = true ↔
    (a.Signals ∨ b.Signals) ∨ ∃ s, a = .infinity s ∧ b = .infinity (!s) := by
  rw [← FpValue.signals_iff]
  cases a with
  | infinity s =>
    cases b with
    | infinity t => cases s <;> cases t <;> simp [addInvalid, FpValue.signaling]
    | _ => simp [addInvalid]
  | _ => simp [addInvalid]

theorem mulInvalid_iff : mulInvalid a b = true ↔ (a.Signals ∨ b.Signals) ∨
    ∃ s t, (a = .infinity s ∧ b = .zero t) ∨ (a = .zero s ∧ b = .infinity t) := by
  rw [← FpValue.signals_iff]
  cases a <;> cases b <;> simp [mulInvalid]

theorem divInvalid_iff : divInvalid a b = true ↔ (a.Signals ∨ b.Signals) ∨
    ∃ s t, (a = .infinity s ∧ b = .infinity t) ∨ (a = .zero s ∧ b = .zero t) := by
  rw [← FpValue.signals_iff]
  cases a <;> cases b <;> simp [divInvalid]

theorem sqrtInvalid_iff : sqrtInvalid a = true ↔
    a.Signals ∨ a = .infinity true ∨ ∃ d m e, a = .finite true d m e := by
  cases a <;> simp [sqrtInvalid, FpValue.Signals]

end

/-! How an operation looks at its operands first. -/

theorem fpCheck_checked {f : FpFormat} {v unimplemented invalid : Bool} {k : FpResult} {U I R : Prop}
    (hU : unimplemented = true ↔ U) (hI : invalid = true ↔ I)
    (hR : unimplemented = false → invalid = false → R) : (fpCheck f v unimplemented invalid k).Checked f U I R := by
  refine ⟨fun hu => ?bad, fun hu hi => ?invalid, fun hu hi =>
    hR (Bool.eq_false_iff.2 (mt hU.1 hu)) (Bool.eq_false_iff.2 (mt hI.1 hi))⟩
  case bad =>
    rw [fpCheck, if_pos (hU.2 hu)]
    cases hv : (invalid && v) with
    | false => exact .inl rfl
    | true => exact .inr ⟨hI.1 (Bool.and_eq_true_iff.1 hv).1, rfl⟩
  case invalid =>
    rw [fpCheck, if_neg (mt hU.1 hu), if_pos (hI.2 hi)]
    refine ⟨rfl, ?_⟩
    cases f <;> decide

theorem fpCheck_ok {f : FpFormat} {v unimplemented invalid : Bool} {k : FpResult} (hu : unimplemented = false)
    (hi : invalid = false) : fpCheck f v unimplemented invalid k = k := by
  rw [fpCheck, hu, hi]
  rfl

theorem exactly_infinity (f : FpFormat) (s : Bool) :
    FpResult.Exactly { causes := causeNone, value := fpInfinity f s } f (.infinity s) := ⟨rfl, fpUnpack_fpInfinity f s⟩

theorem exactly_zero (f : FpFormat) (s : Bool) :
    FpResult.Exactly { causes := causeNone, value := fpZero f s } f (.zero s) := ⟨rfl, fpUnpack_fpZero f s⟩

section
variable (f : FpFormat) (env : FpEnv) (v : Bool) (a b : FpValue)

theorem fpAdd_ok (hu : (a.unimplemented || b.unimplemented) = false) (hi : addInvalid a b = false) :
    fpAdd f env v a b = fpAddValues f env a b := fpCheck_ok hu hi

/-- Sums with an infinity, and of two zeros. -/
theorem fpAddValues_exact (hu : (a.unimplemented || b.unimplemented) = false) (hi : addInvalid a b = false) :
    (∀ s, a = .infinity s ∨ b = .infinity s → (fpAddValues f env a b).Exactly f (.infinity s)) ∧
      ∀ s t, a = .zero s → b = .zero t →
        (fpAddValues f env a b).Exactly f (.zero (if s = t then s else decide (env.rm = .down))) := by
  obtain ⟨hua, -⟩ := Bool.or_eq_false_iff.1 hu
  have hnot := mt (addInvalid_iff a b).2 (Bool.eq_false_iff.1 hi)
  push Not at hnot
  obtain ⟨⟨hsa, -⟩, hinf⟩ := hnot
  refine ⟨fun s h => ?_, fun s t ha hb => ?_⟩
  · rcases h with rfl | rfl
    · exact exactly_infinity f s
    · rcases FpValue.cases_of_ok hua (Bool.eq_false_iff.2 (mt a.signaling_iff.1 hsa)) with ⟨t, rfl⟩ | ⟨t, rfl⟩ | ⟨t, m, e, rfl⟩
      · obtain rfl : s = t := by
          by_contra hne
          exact hinf t rfl (congrArg FpValue.infinity (Bool.eq_not.2 hne))
        exact exactly_infinity f s
      · exact exactly_infinity f s
      · exact exactly_infinity f s
  · subst ha hb
    exact exactly_zero f _

theorem fpAdd_checked : (fpAdd f env v a b).Checked f (a.Unimplemented ∨ b.Unimplemented)
    ((a.Signals ∨ b.Signals) ∨ ∃ s, a = .infinity s ∧ b = .infinity (!s))
    ((∀ s, a = .infinity s ∨ b = .infinity s → (fpAdd f env v a b).Exactly f (.infinity s)) ∧
      ∀ s t, a = .zero s → b = .zero t →
        (fpAdd f env v a b).Exactly f (.zero (if s = t then s else decide (env.rm = .down)))) :=
  fpCheck_checked (FpValue.bad_iff a b) (addInvalid_iff a b) fun hu hi => by
    rw [fpAdd_ok f env v a b hu hi]
    exact fpAddValues_exact f env a b hu hi

theorem fpSub_checked : (fpSub f env v a b).Checked f (a.Unimplemented ∨ b.Unimplemented)
    ((a.Signals ∨ b.Signals) ∨ ∃ s, a = .infinity s ∧ b = .infinity s)
    ((∀ s, a = .infinity s ∨ b = .infinity (!s) → (fpSub f env v a b).Exactly f (.infinity s)) ∧
      ∀ s t, a = .zero s → b = .zero t →
        (fpSub f env v a b).Exactly f (.zero (if s = !t then s else decide (env.rm = .down)))) := by
  have hadd := fpAdd_checked f env v a b.negate
  have hU : b.negate.Unimplemented ↔ b.Unimplemented := by
    rw [← b.unimplemented_iff, ← b.negate_unimplemented, FpValue.unimplemented_iff]
  have hS : b.negate.Signals ↔ b.Signals := by
    rw [← b.signaling_iff, ← b.negate_signaling, FpValue.signaling_iff]
  have hinf (s : Bool) : b.negate = .infinity s ↔ b = .infinity (!s) := b.negate_eq_iff _
  simp only [hU, hS, hinf, Bool.not_not] at hadd
  obtain ⟨hbad, hinvalid, hok⟩ := hadd
  refine ⟨hbad, hinvalid, fun hu hi => ?_⟩
  obtain ⟨hinfinity, hzero⟩ := hok hu hi
  exact ⟨hinfinity, fun s t ha hb => hzero s (!t) ha (by rw [hb]; rfl)⟩

/-- An infinity or a zero as a factor, in a valid product. -/
theorem mulValue_special (hu : (a.unimplemented || b.unimplemented) = false) (hi : mulInvalid a b = false) :
    (∀ s, a = .infinity s ∨ b = .infinity s → mulValue a b = .infinity (a.sign != b.sign)) ∧
      ∀ s, a = .zero s ∨ b = .zero s → mulValue a b = .zero (a.sign != b.sign) := by
  obtain ⟨hua, hub⟩ := Bool.or_eq_false_iff.1 hu
  have hnot := mt (mulInvalid_iff a b).2 (Bool.eq_false_iff.1 hi)
  push Not at hnot
  obtain ⟨⟨hsa, hsb⟩, hinf⟩ := hnot
  have hsa' := Bool.eq_false_iff.2 (mt a.signaling_iff.1 hsa)
  have hsb' := Bool.eq_false_iff.2 (mt b.signaling_iff.1 hsb)
  refine ⟨fun s h => ?_, fun s h => ?_⟩
  · rcases h with rfl | rfl
    · rcases FpValue.cases_of_ok hub hsb' with ⟨t, rfl⟩ | ⟨t, rfl⟩ | ⟨t, m, e, rfl⟩ <;> rfl
    · rcases FpValue.cases_of_ok hua hsa' with ⟨t, rfl⟩ | ⟨t, rfl⟩ | ⟨t, m, e, rfl⟩ <;> rfl
  · rcases h with rfl | rfl
    · rcases FpValue.cases_of_ok hub hsb' with ⟨t, rfl⟩ | ⟨t, rfl⟩ | ⟨t, m, e, rfl⟩
      · exact absurd rfl ((hinf s t).2 rfl)
      · rfl
      · rfl
    · rcases FpValue.cases_of_ok hua hsa' with ⟨t, rfl⟩ | ⟨t, rfl⟩ | ⟨t, m, e, rfl⟩
      · exact absurd rfl ((hinf t s).1 rfl)
      · rfl
      · rfl

theorem fpMul_checked : (fpMul f env v a b).Checked f (a.Unimplemented ∨ b.Unimplemented)
    ((a.Signals ∨ b.Signals) ∨ ∃ s t, (a = .infinity s ∧ b = .zero t) ∨ (a = .zero s ∧ b = .infinity t))
    (∀ s, (a = .infinity s ∨ b = .infinity s → (fpMul f env v a b).Exactly f (.infinity (a.sign != b.sign))) ∧
      (a = .zero s ∨ b = .zero s → (fpMul f env v a b).Exactly f (.zero (a.sign != b.sign)))) :=
  fpCheck_checked (FpValue.bad_iff a b) (mulInvalid_iff a b) fun hu hi s => by
    rw [fpMul, fpCheck_ok hu hi]
    obtain ⟨hinf, hzero⟩ := mulValue_special a b hu hi
    refine ⟨fun h => ?_, fun h => ?_⟩
    · rw [hinf s h]
      exact exactly_infinity f _
    · rw [hzero s h]
      exact exactly_zero f _

theorem fpDiv_checked : (fpDiv f env v a b).Checked f (a.Unimplemented ∨ b.Unimplemented)
    ((a.Signals ∨ b.Signals) ∨ ∃ s t, (a = .infinity s ∧ b = .infinity t) ∨ (a = .zero s ∧ b = .zero t))
    (∀ s, (a = .infinity s → (fpDiv f env v a b).Exactly f (.infinity (a.sign != b.sign))) ∧
      (b = .infinity s ∨ a = .zero s → (fpDiv f env v a b).Exactly f (.zero (a.sign != b.sign))) ∧
      ∀ t m e, a = .finite s false m e → b = .zero t →
        (fpDiv f env v a b).causes = causeZ ∧ fpUnpack f (fpDiv f env v a b).value = .infinity (a.sign != b.sign)) := by
  refine fpCheck_checked (FpValue.bad_iff a b) (divInvalid_iff a b) fun hu hi s => ?_
  rw [fpDiv, fpCheck_ok hu hi]
  obtain ⟨hua, hub⟩ := Bool.or_eq_false_iff.1 hu
  have hnot := mt (divInvalid_iff a b).2 (Bool.eq_false_iff.1 hi)
  push Not at hnot
  obtain ⟨⟨hsa, hsb⟩, hinf⟩ := hnot
  have hsa' := Bool.eq_false_iff.2 (mt a.signaling_iff.1 hsa)
  have hsb' := Bool.eq_false_iff.2 (mt b.signaling_iff.1 hsb)
  refine ⟨?infinite, ?zero, ?byZero⟩
  case infinite =>
    rintro rfl
    exact exactly_infinity f _
  case zero =>
    rintro (rfl | rfl)
    · rcases FpValue.cases_of_ok hua hsa' with ⟨t, rfl⟩ | ⟨t, rfl⟩ | ⟨t, m, e, rfl⟩
      · exact absurd rfl ((hinf t s).1 rfl)
      · exact exactly_zero f _
      · exact exactly_zero f _
    · rcases FpValue.cases_of_ok hub hsb' with ⟨t, rfl⟩ | ⟨t, rfl⟩ | ⟨t, m, e, rfl⟩ <;> exact exactly_zero f _
  case byZero =>
    rintro t m e rfl rfl
    exact ⟨rfl, fpUnpack_fpInfinity f _⟩

theorem fpSqrt_checked : (fpSqrt f env v a).Checked f a.Unimplemented
    (a.Signals ∨ a = .infinity true ∨ ∃ d m e, a = .finite true d m e)
    ((a = .infinity false → (fpSqrt f env v a).Exactly f (.infinity false)) ∧
      ∀ s, a = .zero s → (fpSqrt f env v a).Exactly f (.zero s)) := by
  refine fpCheck_checked a.unimplemented_iff (sqrtInvalid_iff a) fun hu hi => ?_
  rw [fpSqrt, fpCheck_ok hu hi]
  refine ⟨?_, fun s => ?_⟩ <;> rintro rfl
  · exact exactly_infinity f _
  · exact exactly_zero f _

end

section
variable (f : FpFormat) (v : Bool) (bits : Word)

/-- ABS clears the sign bit. -/
theorem fpAbs_checked : (fpAbs f v bits).Checked f (fpUnpack f bits).Unimplemented (fpUnpack f bits).Signals
    ((fpAbs f v bits).causes = causeNone ∧
      ∀ n < f.width, (fpAbs f v bits).value.getLsbD n = (decide (n ≠ f.width - 1) && bits.getLsbD n)) := by
  refine fpCheck_checked (FpValue.unimplemented_iff _) (FpValue.signaling_iff _) fun hu hi => ?_
  simp only [fpAbs, fpCheck_ok hu hi]
  refine ⟨trivial, fun n hn => ?_⟩
  have hw := f.width_le
  rw [BitVec.getLsbD_ofNat, Nat.testBit_mod_two_pow, BitVec.testBit_toNat,
    decide_eq_true (show n < 64 by omega), Bool.true_and]
  exact congrArg (· && bits.getLsbD n) (decide_eq_decide.2 (by omega))

/-- NEG turns the sign bit. -/
theorem fpNeg_checked : (fpNeg f v bits).Checked f (fpUnpack f bits).Unimplemented (fpUnpack f bits).Signals
    ((fpNeg f v bits).causes = causeNone ∧ ∀ n < f.width,
      (fpNeg f v bits).value.getLsbD n = if n = f.width - 1 then !bits.getLsbD n else bits.getLsbD n) := by
  refine fpCheck_checked (FpValue.unimplemented_iff _) (FpValue.signaling_iff _) fun hu hi => ?_
  simp only [fpNeg, fpCheck_ok hu hi]
  refine ⟨trivial, fun n hn => ?_⟩
  have hw := f.width_le
  rw [BitVec.getLsbD_xor, BitVec.getLsbD_ofNat, Nat.testBit_two_pow, decide_eq_true (show n < 64 by omega), Bool.true_and]
  by_cases h : n = f.width - 1
  · rw [if_pos h, decide_eq_true h.symm, Bool.xor_true]
  · rw [if_neg h, decide_eq_false (fun hh => h hh.symm), Bool.xor_false]

end

/-- What an operand of these fields stands for. -/
def FpValue.Reads (x : FpValue) (sign : Bool) (ex frac fracBits top : Nat) (bias : Int) : Prop :=
  (ex = top → frac = 0 → x = .infinity sign) ∧
    (ex = top → 2 ^ (fracBits - 1) ≤ frac → x = .signalingNan sign) ∧
    (ex = top → frac ≠ 0 → frac < 2 ^ (fracBits - 1) → x = .quietNan sign) ∧
    (ex = 0 → frac = 0 → x = .zero sign) ∧
    (ex = 0 → frac ≠ 0 → ∃ m e, x = .finite sign true m e ∧ (m : ℚ) * 2 ^ e = frac * 2 ^ (1 - bias - fracBits)) ∧
    (0 < ex → ex < top → ∃ m e, x = .finite sign false m e ∧
      (m : ℚ) * 2 ^ e = (2 ^ fracBits + frac) * 2 ^ (ex - bias - fracBits))

theorem fpClassify_reads (f : FpFormat) (sign : Bool) (ex : Nat) {frac : Nat} (hfrac : frac < 2 ^ f.fracBits) :
    (fpClassify f sign ex frac).Reads sign ex frac f.fracBits (2 ^ f.expBits - 1) f.emax := by
  have htop : 0 < 2 ^ f.expBits - 1 := by cases f <;> decide
  have hhalf : 2 ^ f.fracBits = 2 * 2 ^ (f.fracBits - 1) := by cases f <;> rfl
  have hpos : 0 < 2 ^ (f.fracBits - 1) := Nat.two_pow_pos _
  unfold fpClassify
  refine ⟨fun h h0 => ?_, fun h hs => ?_, fun h h0 hq => ?_, fun h h0 => ?_, fun h h0 => ?_, fun h0 h => ?_⟩
  · rw [if_pos h, if_pos h0]
  · rw [if_pos h, if_neg (by omega), if_pos (Nat.div_eq_of_lt_le (by omega) (by omega))]
  · rw [if_pos h, if_neg h0, if_neg (by rw [Nat.div_eq_of_lt hq]; decide)]
  · rw [if_neg (by omega), if_pos h, if_pos h0]
  · rw [if_neg (by omega), if_pos h, if_neg h0]
    exact ⟨_, _, rfl, by rw [f.emin_eq]⟩
  · rw [if_neg (by omega), if_neg (by omega)]
    refine ⟨_, _, rfl, ?_⟩
    push_cast
    rw [add_comm]

theorem fpUnpack_reads (f : FpFormat) (w : Word) : (fpUnpack f w).Reads (w.getLsbD (f.width - 1))
    (w.extractLsb' f.fracBits f.expBits).toNat (w.extractLsb' 0 f.fracBits).toNat f.fracBits (2 ^ f.expBits - 1) f.emax := by
  rw [fpUnpack_eq]
  exact fpClassify_reads f _ _ (BitVec.isLt _)

/-- Settles O48: each operation ends with its result, and the operands decide the special ones. -/
theorem floatingArithmetic : Obligations.FloatingArithmetic := by
  refine ⟨fun w => ⟨fpUnpack_reads .single w, fpUnpack_reads .double w⟩, ⟨by decide, by decide⟩, fun s ft fs fd hu ha => ?ends,
    fun f env v a b bits => ⟨fpAdd_checked f env v a b, fpSub_checked f env v a b, fpMul_checked f env v a b,
      fpDiv_checked f env v a b, fpSqrt_checked f env v a, fpAbs_checked f v bits, fpNeg_checked f v bits⟩⟩
  intro env v a b c d
  have single {i : Instr} {r : FpResult} (hi : exec i s = withCp1 s (fpFinishS s fd r)) : EndsSingle i s fd r :=
    withCp1_endsSingle hu ha hi rfl
  refine ⟨single rfl, single rfl, single rfl, single rfl, single rfl, fun hdiv => ?div, fun hsqrt => ?sqrt,
    fun hfs hfd => ?wide⟩
  case div =>
    have hoff : statusNofdiv s.cp0.status = false := hdiv
    have hexec : exec (.divS ft fs fd) s = withCp1 s (if statusNofdiv s.cp0.status then .refused .fpUnitDisabled
      else fpBinaryS s fpDiv ft fs fd) := rfl
    rw [hoff, withCp1_of_usable _ hu] at hexec
    exact single hexec
  case sqrt =>
    have hoff : statusNofsqr s.cp0.status = false := hsqrt
    have hexec : exec (.sqrtS fs fd) s = withCp1 s (if statusNofsqr s.cp0.status then .refused .fpUnitDisabled
      else fpUnaryS s (fun f env v a => fpSqrt f env v (fpUnpack f a)) fs fd) := rfl
    rw [hoff, withCp1_of_usable _ hu] at hexec
    exact single hexec
  case wide =>
    have hok2 : ∀ g ∈ [fs, fd], fpr64Ok s.cp0.status g = true := by simp [hfs, hfd]
    have unary {i : Instr} {r : FpResult} (hi : exec i s = withCp1 s (withFpr64 s [fs, fd] (fpFinishD s fd r))) :
        EndsDouble i s fd r := endsDouble_of ha (hi.trans (withFpr64_eq hu hok2))
    refine ⟨unary rfl, unary rfl, fun hsqrt => ?_, fun hft => ?_⟩
    · have hoff : statusNofsqr s.cp0.status = false := hsqrt
      have hexec : exec (.sqrtD fs fd) s = withCp1 s (if statusNofsqr s.cp0.status then .refused .fpUnitDisabled
        else fpUnaryD s (fun f env v a => fpSqrt f env v (fpUnpack f a)) fs fd) := rfl
      rw [hoff, withCp1_of_usable _ hu] at hexec
      exact unary hexec
    have hok3 : ∀ g ∈ [ft, fs, fd], fpr64Ok s.cp0.status g = true := by simp [hft, hfs, hfd]
    have binary {i : Instr} {r : FpResult} (hi : exec i s = withCp1 s (withFpr64 s [ft, fs, fd] (fpFinishD s fd r))) :
        EndsDouble i s fd r := endsDouble_of ha (hi.trans (withFpr64_eq hu hok3))
    refine ⟨binary rfl, binary rfl, binary rfl, fun hdiv => ?_⟩
    have hoff : statusNofdiv s.cp0.status = false := hdiv
    have hexec : exec (.divD ft fs fd) s = withCp1 s (if statusNofdiv s.cp0.status then .refused .fpUnitDisabled
      else fpBinaryD s fpDiv ft fs fd) := rfl
    rw [hoff, withCp1_of_usable _ hu] at hexec
    exact binary hexec

end Sys2Proof.Machine
end

section
/-! Paired-single arithmetic and the multiply-add group. -/

namespace Sys2Proof.Machine

/-- The halves of a paired-single result, the Causes joined. -/
theorem fpPair_eq (u l : FpResult) : fpPair u l =
    { causes := u.causes ||| l.causes, value := u.value.extractLsb' 0 32 ++ l.value.extractLsb' 0 32 } := by
  rw [fpPair, BitVec.or_comm]
  rfl

/-! Turning the sign bit. -/

/-- A result with its sign bit turned, or not. -/
def FpResult.turnedBy (r : FpResult) (f : FpFormat) (b : Bool) : FpResult :=
  if b then { r with value := r.value ^^^ BitVec.ofNat 64 (2 ^ (f.width - 1)) } else r

theorem getLsbD_signBit (f : FpFormat) {n : Nat} (hn : n < f.width) :
    (BitVec.ofNat 64 (2 ^ (f.width - 1))).getLsbD n = decide (f.width - 1 = n) := by
  have hw := f.width_le
  rw [BitVec.getLsbD_ofNat, Nat.testBit_two_pow, decide_eq_true (show n < 64 by omega), Bool.true_and]

theorem fpClassify_not (f : FpFormat) (sign : Bool) (ex frac : Nat) :
    fpClassify f (!sign) ex frac = (fpClassify f sign ex frac).negate := by
  unfold fpClassify
  split
  · split
    · rfl
    · split <;> rfl
  · split
    · split <;> rfl
    · rfl

/-- A word with its sign bit turned stands for the negated value, a NaN included. -/
theorem fpUnpack_turned (f : FpFormat) (w : Word) :
    fpUnpack f (w ^^^ BitVec.ofNat 64 (2 ^ (f.width - 1))) = (fpUnpack f w).negate := by
  have hwidth := f.width_pred
  have hpos := f.width_pos
  have hfield (start len : Nat) (h : start + len ≤ f.width - 1) :
      (w ^^^ BitVec.ofNat 64 (2 ^ (f.width - 1))).extractLsb' start len = w.extractLsb' start len := by
    refine BitVec.eq_of_getLsbD_eq fun i hi => ?_
    rw [BitVec.getLsbD_extractLsb', BitVec.getLsbD_extractLsb', BitVec.getLsbD_xor, getLsbD_signBit f (by omega),
      decide_eq_false (p := f.width - 1 = start + i) (by omega), Bool.xor_false]
  rw [fpUnpack_eq, fpUnpack_eq, hfield _ _ (by omega), hfield _ _ (by omega), BitVec.getLsbD_xor,
    getLsbD_signBit f (by omega), decide_eq_true rfl, Bool.xor_true, fpClassify_not]

theorem FpResult.Exactly.turnedBy {r : FpResult} {f : FpFormat} {x : FpValue} (h : r.Exactly f x) (b : Bool) :
    (r.turnedBy f b).Exactly f (if b then x.negate else x) := by
  obtain ⟨hc, hv⟩ := h
  cases b with
  | false => exact ⟨hc, hv⟩
  | true => exact ⟨hc, (fpUnpack_turned f r.value).trans (congrArg FpValue.negate hv)⟩

/-! The multiply-add group. -/

/-- The addend as it is added. -/
def FpValue.addedBy (fd : FpValue) (subtracts : Bool) : FpValue := if subtracts then fd.negate else fd

section
variable (fd fs ft : FpValue) (b : Bool)

@[simp] theorem FpValue.addedBy_unimplemented : (fd.addedBy b).unimplemented = fd.unimplemented := by
  cases b with
  | false => rfl
  | true => exact fd.negate_unimplemented

@[simp] theorem FpValue.addedBy_signaling : (fd.addedBy b).signaling = fd.signaling := by
  cases b with
  | false => rfl
  | true => exact fd.negate_signaling

theorem FpValue.addedBy_signals : (fd.addedBy b).Signals ↔ fd.Signals := by
  rw [← FpValue.signaling_iff, FpValue.addedBy_signaling, FpValue.signaling_iff]

theorem FpValue.addedBy_zero (s : Bool) : (FpValue.zero s).addedBy b = .zero (s != b) := by
  cases b <;> simp [FpValue.addedBy, FpValue.negate]

theorem FpValue.addedBy_eq_infinity {s : Bool} : fd.addedBy b = .infinity s ↔ ∃ t, fd = .infinity t ∧ (t != b) = s := by
  cases fd <;> cases b <;> simp [FpValue.addedBy, FpValue.negate]

/-- An infinite product: an infinity as a factor, and no NaN. -/
def InfiniteProduct (fs ft : FpValue) : Prop :=
  (∃ s, fs = .infinity s ∨ ft = .infinity s) ∧ fs.isNan = false ∧ ft.isNan = false

theorem mulValue_eq_infinity {s : Bool} :
    mulValue fs ft = .infinity s ↔ InfiniteProduct fs ft ∧ (fs.sign != ft.sign) = s := by
  cases fs <;> cases ft <;> simp [mulValue, FpValue.isNan, InfiniteProduct, FpValue.sign]

theorem mulValue_not_signals : ¬(mulValue fs ft).Signals := by
  rintro ⟨s, h⟩
  revert h
  cases fs <;> cases ft <;> simp [mulValue, FpValue.isNan]

/-- The product of two operands that stop no operation stops none. -/
theorem mulValue_unimplemented (hs : (fs.unimplemented || ft.unimplemented) = false) (hi : mulInvalid fs ft = false) :
    (mulValue fs ft).unimplemented = false := by
  revert hs hi
  cases fs <;> cases ft <;> simp [mulValue, FpValue.isNan, FpValue.unimplemented, mulInvalid, FpValue.signaling]

/-- What makes a multiply-add invalid. -/
theorem maddInvalid_iff : (mulInvalid fs ft || (fd.addedBy b).signaling || addInvalid (mulValue fs ft) (fd.addedBy b)) = true ↔
    fd.Signals ∨ fs.Signals ∨ ft.Signals ∨ (∃ s t, (fs = .infinity s ∧ ft = .zero t) ∨ (fs = .zero s ∧ ft = .infinity t)) ∨
      (InfiniteProduct fs ft ∧ ∃ s, fd = .infinity s ∧ (s != b) ≠ (fs.sign != ft.sign)) := by
  have hadd : addInvalid (mulValue fs ft) (fd.addedBy b) = true ↔
      fd.Signals ∨ (InfiniteProduct fs ft ∧ ∃ s, fd = .infinity s ∧ (s != b) ≠ (fs.sign != ft.sign)) := by
    rw [addInvalid_iff, FpValue.addedBy_signals]
    refine or_congr (or_iff_right (mulValue_not_signals fs ft)) ⟨?_, ?_⟩
    · rintro ⟨s, hp, ha⟩
      obtain ⟨hinf, rfl⟩ := (mulValue_eq_infinity fs ft).1 hp
      obtain ⟨t, hfd, ht⟩ := (FpValue.addedBy_eq_infinity fd b).1 ha
      exact ⟨hinf, t, hfd, by rw [ht]; exact Bool.not_ne_self _⟩
    · rintro ⟨hinf, t, hfd, ht⟩
      exact ⟨_, (mulValue_eq_infinity fs ft).2 ⟨hinf, rfl⟩,
        (FpValue.addedBy_eq_infinity fd b).2 ⟨t, hfd, Bool.eq_not.2 ht⟩⟩
  have regroup (A B C D E : Prop) : (((A ∨ B) ∨ C) ∨ D) ∨ D ∨ E ↔ D ∨ A ∨ B ∨ C ∨ E := by tauto
  rw [Bool.or_eq_true, Bool.or_eq_true, mulInvalid_iff, FpValue.signaling_iff, FpValue.addedBy_signals, hadd]
  exact regroup _ _ _ _ _

end

section
variable (f : FpFormat) (env : FpEnv) (v : Bool) (kind : MaddKind) (fd fs ft : FpValue)

theorem fpMadd_eq : fpMadd f env v kind fd fs ft =
    fpCheck f v (fd.unimplemented || fs.unimplemented || ft.unimplemented)
      (mulInvalid fs ft || (fd.addedBy kind.subtracts).signaling || addInvalid (mulValue fs ft) (fd.addedBy kind.subtracts))
      ((fpAddValues f env (mulValue fs ft) (fd.addedBy kind.subtracts)).turnedBy f kind.negates) := rfl

theorem turned_infinity (s b : Bool) : (if b then (FpValue.infinity s).negate else .infinity s) = .infinity (s != b) := by
  cases b <;> simp [FpValue.negate]

theorem turned_zero (s b : Bool) : (if b then (FpValue.zero s).negate else .zero s) = .zero (s != b) := by
  cases b <;> simp [FpValue.negate]

/-- The special operands of the group. -/
theorem fpMadd_checked : (fpMadd f env v kind fd fs ft).Checked f (fd.Unimplemented ∨ fs.Unimplemented ∨ ft.Unimplemented)
    (fd.Signals ∨ fs.Signals ∨ ft.Signals ∨ (∃ s t, (fs = .infinity s ∧ ft = .zero t) ∨ (fs = .zero s ∧ ft = .infinity t)) ∨
      (InfiniteProduct fs ft ∧ ∃ s, fd = .infinity s ∧ (s != kind.subtracts) ≠ (fs.sign != ft.sign)))
    ((InfiniteProduct fs ft → (fpMadd f env v kind fd fs ft).Exactly f (.infinity ((fs.sign != ft.sign) != kind.negates))) ∧
      (∀ s, fd = .infinity s →
        (fpMadd f env v kind fd fs ft).Exactly f (.infinity ((s != kind.subtracts) != kind.negates))) ∧
      ∀ s t, fs = .zero s ∨ ft = .zero s → fd = .zero t → (fpMadd f env v kind fd fs ft).Exactly f
        (.zero ((if (fs.sign != ft.sign) = (t != kind.subtracts) then fs.sign != ft.sign else decide (env.rm = .down)) !=
          kind.negates))) := by
  have hbad : (fd.unimplemented || fs.unimplemented || ft.unimplemented) = true ↔
      fd.Unimplemented ∨ fs.Unimplemented ∨ ft.Unimplemented := by
    rw [Bool.or_eq_true, Bool.or_eq_true, FpValue.unimplemented_iff, FpValue.unimplemented_iff, FpValue.unimplemented_iff,
      or_assoc]
  rw [fpMadd_eq]
  refine fpCheck_checked hbad (maddInvalid_iff fd fs ft kind.subtracts) fun hu hi => ?_
  rw [fpCheck_ok hu hi]
  obtain ⟨hu', hut⟩ := Bool.or_eq_false_iff.1 hu
  obtain ⟨hud, hus⟩ := Bool.or_eq_false_iff.1 hu'
  obtain ⟨hi', hadd⟩ := Bool.or_eq_false_iff.1 hi
  obtain ⟨hmul, -⟩ := Bool.or_eq_false_iff.1 hi'
  have hfactors : (fs.unimplemented || ft.unimplemented) = false := Bool.or_eq_false_iff.2 ⟨hus, hut⟩
  have hsum : ((mulValue fs ft).unimplemented || (fd.addedBy kind.subtracts).unimplemented) = false :=
    Bool.or_eq_false_iff.2 ⟨mulValue_unimplemented fs ft hfactors hmul, (fd.addedBy_unimplemented _).trans hud⟩
  obtain ⟨hinfinity, hzero⟩ := fpAddValues_exact f env _ _ hsum hadd
  refine ⟨fun h => ?_, fun s h => ?_, fun s t hz hd => ?_⟩
  · rw [← turned_infinity]
    exact (hinfinity _ (.inl ((mulValue_eq_infinity fs ft).2 ⟨h, rfl⟩))).turnedBy _
  · rw [← turned_infinity]
    exact (hinfinity _ (.inr ((FpValue.addedBy_eq_infinity fd _).2 ⟨s, h, rfl⟩))).turnedBy _
  · rw [← turned_zero]
    have hproduct := (mulValue_special fs ft hfactors hmul).2 s hz
    exact (hzero _ _ hproduct (by rw [hd, FpValue.addedBy_zero])).turnedBy _

end

/-- Settles O49: each half is a single operation, and the operands of the multiply-add group decide the special results. -/
theorem pairedAndMultiplyAdd : Obligations.PairedAndMultiplyAdd := by
  refine ⟨fun s ft fs fd hu ha => ?ends, fun f env v fd fs ft => ?special⟩
  case special =>
    simp only [List.forall_mem_cons, List.not_mem_nil, false_imp_iff, implies_true, and_true]
    exact ⟨fpMadd_checked f env v .madd fd fs ft, fpMadd_checked f env v .msub fd fs ft,
      fpMadd_checked f env v .nmadd fd fs ft, fpMadd_checked f env v .nmsub fd fs ft⟩
  intro env v w single double lo hi low high pair ok
  have isSingle {i : Instr} {r : FpResult} (h : exec i s = withCp1 s (fpFinishS s fd r)) : EndsSingle i s fd r :=
    withCp1_endsSingle hu ha h rfl
  refine ⟨?_, fun hfs hfd => ?_⟩
  · simp only [List.forall_mem_cons, List.not_mem_nil, false_imp_iff, implies_true, and_true]
    exact ⟨isSingle rfl, isSingle rfl, isSingle rfl, isSingle rfl⟩
  have hok2 : ∀ g ∈ [fs, fd], fpr64Ok s.cp0.status g = true := by
    simp only [List.forall_mem_cons, List.not_mem_nil, false_imp_iff, implies_true, and_true]
    exact ⟨hfs, hfd⟩
  have unaryPair {i : Instr} {u l : FpResult} (h : exec i s = withCp1 s (withFpr64 s [fs, fd] (fpFinishD s fd (fpPair u l)))) :
      EndsDouble i s fd (pair u l) := by
    rw [fpPair_eq] at h
    exact endsDouble_of ha (h.trans (withFpr64_eq hu hok2))
  refine ⟨unaryPair rfl, unaryPair rfl, fun hft => ?_⟩
  have hok3 : ∀ g ∈ [ft, fs, fd], fpr64Ok s.cp0.status g = true := by
    simp only [List.forall_mem_cons, List.not_mem_nil, false_imp_iff, implies_true, and_true]
    exact ⟨hft, hfs, hfd⟩
  have binary {i : Instr} {r : FpResult} (h : exec i s = withCp1 s (withFpr64 s [ft, fs, fd] (fpFinishD s fd r))) :
      EndsDouble i s fd r := endsDouble_of ha (h.trans (withFpr64_eq hu hok3))
  have binaryPair {i : Instr} {u l : FpResult}
      (h : exec i s = withCp1 s (withFpr64 s [ft, fs, fd] (fpFinishD s fd (fpPair u l)))) : EndsDouble i s fd (pair u l) := by
    rw [fpPair_eq] at h
    exact binary h
  simp only [List.forall_mem_cons, List.not_mem_nil, false_imp_iff, implies_true, and_true]
  exact ⟨binaryPair rfl, binaryPair rfl, binaryPair rfl, ⟨binary rfl, binary rfl, binary rfl, binary rfl⟩,
    binaryPair rfl, binaryPair rfl, binaryPair rfl, binaryPair rfl⟩

end Sys2Proof.Machine
end

section
/-! Rounding: a magnitude between two integers, and then in a format. -/

namespace Sys2Proof.Machine

/-! Rounding a magnitude to an integer. -/

section
variable {K : Type} [Field K] [LinearOrder K] [IsStrictOrderedRing K]

/-- `q` is the largest integer not above `t`. -/
def RoundsDown (t : K) (q : ℕ) : Prop := q ≤ t ∧ t < q + 1

/-- `q` is the smallest integer not below `t`. -/
def RoundsAway (t : K) (q : ℕ) : Prop := t ≤ q ∧ q < t + 1

/-- `q` is what the magnitude `t` of a value of this sign rounds to (R415). -/
def RoundsMag (rm : RoundingMode) (sign : Bool) (t : K) (q : ℕ) : Prop :=
  match rm with
  | .nearest => |(q : K) - t| ≤ 1 / 2 ∧ (|(q : K) - t| = 1 / 2 → q % 2 = 0)
  | .towardZero => RoundsDown t q
  | .up => if sign then RoundsDown t q else RoundsAway t q
  | .down => if sign then RoundsAway t q else RoundsDown t q

/-- `T` lies among the multiples of `unit` where `m` does. -/
def Locates (T : K) (m unit : ℕ) : Prop := ∀ k, unit ∣ k → ((k : K) ≤ T ↔ k ≤ m) ∧ (T ≤ k ↔ m ≤ k)

theorem locates_self (m unit : ℕ) : Locates (m : K) m unit := fun _ _ => ⟨Nat.cast_le, Nat.cast_le⟩

/-- An odd number stands for every value between its even neighbours. -/
theorem locates_odd {T : K} {m unit : ℕ} (hm : m % 2 = 1) (hu : 2 ∣ unit) (hl : (m : K) - 1 < T) (hr : T < m + 1) :
    Locates T m unit := by
  intro k hk
  obtain ⟨j, rfl⟩ := hu.trans hk
  refine ⟨⟨fun h => ?_, fun h => ?_⟩, ⟨fun h => ?_, fun h => ?_⟩⟩
  · have hlt : ((2 * j : ℕ) : K) < ((m + 1 : ℕ) : K) := by push_cast; push_cast at h; linarith
    have := Nat.cast_lt.1 hlt
    omega
  · have hle : ((2 * j + 1 : ℕ) : K) ≤ m := Nat.cast_le.2 (by omega)
    push_cast at hle ⊢
    linarith
  · have hlt : (m : K) < ((2 * j + 1 : ℕ) : K) := by push_cast; push_cast at h; linarith
    have := Nat.cast_lt.1 hlt
    omega
  · have hle : ((m + 1 : ℕ) : K) ≤ ((2 * j : ℕ) : K) := Nat.cast_le.2 (by omega)
    push_cast at hle ⊢
    linarith

/-- `t` lies above the integer `q` as the remainder `rem` lies above 0, `half` standing for one half. -/
structure Splits (t : K) (q rem half : ℕ) : Prop where
  low : (q : K) ≤ t
  high : t < q + 1
  exact_iff : rem = 0 ↔ t = q
  below_iff : rem < half ↔ t < q + 1 / 2
  above_iff : half < rem ↔ (q : K) + 1 / 2 < t

theorem splits_of_locates {t : K} {m k : ℕ} (h : Locates (t * 2 ^ (k + 1)) m (2 ^ k)) :
    Splits t (m / 2 ^ (k + 1)) (m % 2 ^ (k + 1)) (2 ^ k) := by
  have hpos : (0 : K) < 2 ^ k * 2 := by positivity
  have hscale (a : K) : (a * (2 ^ k * 2) ≤ t * 2 ^ (k + 1) ↔ a ≤ t) ∧ (t * 2 ^ (k + 1) ≤ a * (2 ^ k * 2) ↔ t ≤ a) := by
    rw [pow_succ]
    exact ⟨mul_le_mul_iff_left₀ hpos, mul_le_mul_iff_left₀ hpos⟩
  have hdiv : 2 ^ k * (2 * (m / 2 ^ (k + 1))) + m % 2 ^ (k + 1) = m := by
    rw [← mul_assoc, ← pow_succ, Nat.div_add_mod]
  have hmod : m % 2 ^ (k + 1) < 2 ^ k * 2 := by
    rw [← pow_succ]
    exact Nat.mod_lt _ (Nat.two_pow_pos _)
  generalize m / 2 ^ (k + 1) = q at *
  generalize m % 2 ^ (k + 1) = rem at *
  have at_ (i : ℕ) (a : K) (ha : ((2 * q + i : ℕ) : K) = a * 2) :
      (a ≤ t ↔ 2 ^ k * (2 * q) + 2 ^ k * i ≤ m) ∧ (t ≤ a ↔ m ≤ 2 ^ k * (2 * q) + 2 ^ k * i) := by
    have hk := h (2 ^ k * (2 * q + i)) ⟨_, rfl⟩
    have hcast : ((2 ^ k * (2 * q + i) : ℕ) : K) = a * (2 ^ k * 2) := by
      rw [Nat.cast_mul, ha]
      push_cast
      ring
    rwa [hcast, (hscale a).1, (hscale a).2, Nat.mul_add] at hk
  obtain ⟨hbase, hbase'⟩ := at_ 0 q (by push_cast; ring)
  obtain ⟨hhalf, hhalf'⟩ := at_ 1 (q + 1 / 2) (by push_cast; ring)
  obtain ⟨htop, -⟩ := at_ 2 (q + 1) (by push_cast; ring)
  have low : (q : K) ≤ t := hbase.2 (by omega)
  refine ⟨low, not_le.1 (mt htop.1 (by omega)), ⟨fun h0 => le_antisymm (hbase'.2 (by omega)) low, fun ht => ?_⟩, ?_, ?_⟩
  · have := hbase'.1 ht.le
    omega
  · rw [← not_le, ← not_le (a := (q : K) + 1 / 2), hhalf]
    omega
  · rw [← not_le, ← not_le (a := t), hhalf']
    omega

section
variable {t : K} {q rem : ℕ} (rm : RoundingMode) (sign : Bool)

omit [IsStrictOrderedRing K] in
theorem Splits.roundsDown {half : ℕ} (h : Splits t q rem half) : RoundsDown t q := ⟨h.low, h.high⟩

/-- Away from zero: the next integer, unless the value is one. -/
theorem Splits.roundsAway {half : ℕ} (h : Splits t q rem half) : RoundsAway t (if rem ≠ 0 then q + 1 else q) := by
  by_cases h0 : rem = 0
  · have ht := h.exact_iff.1 h0
    rw [if_neg (not_not.2 h0), ht]
    exact ⟨le_rfl, lt_add_one _⟩
  · have hlow := lt_of_le_of_ne h.low fun ht => h0 (h.exact_iff.2 ht.symm)
    have hhigh := h.high
    rw [if_pos h0]
    exact ⟨by push_cast; exact hhigh.le, by push_cast; linarith⟩

theorem roundsUp_nearest (sign : Bool) (q rem k : ℕ) :
    roundsUp .nearest sign q rem (k + 1) = (decide (2 ^ k < rem) || (decide (rem = 2 ^ k) && decide (q % 2 = 1))) := rfl

/-- To the nearest integer: the remainder against one half, and at one half the even one. -/
theorem Splits.roundsNearest {k : ℕ} (h : Splits t q rem (2 ^ k)) :
    RoundsMag .nearest sign t (if roundsUp .nearest sign q rem (k + 1) then q + 1 else q) := by
  have hnat : 0 < 2 ^ k := Nat.two_pow_pos k
  have hlow := h.low
  have hhigh := h.high
  have strictly {q0 : ℕ} (hlt : |(q0 : K) - t| < 1 / 2) : RoundsMag .nearest sign t q0 :=
    ⟨hlt.le, fun heq => absurd heq hlt.ne⟩
  rw [roundsUp_nearest]
  rcases lt_trichotomy rem (2 ^ k) with hlt | heq | hgt
  · rw [if_neg (by simp [hlt.ne, hlt.le])]
    have hb := h.below_iff.1 hlt
    exact strictly (abs_lt.2 ⟨by linarith, by linarith⟩)
  · have hno := mt h.below_iff.2 (by omega)
    have hno' := mt h.above_iff.2 (by omega)
    have ht : t = q + 1 / 2 := le_antisymm (not_lt.1 hno') (not_lt.1 hno)
    by_cases hodd : q % 2 = 1
    · rw [if_pos (by simp [heq, hodd]), ht]
      refine ⟨?_, fun _ => by omega⟩
      push_cast
      rw [show (q : K) + 1 - (q + 1 / 2) = 1 / 2 by ring, abs_of_pos (by norm_num)]
    · rw [if_neg (by simp [heq, hodd]), ht]
      refine ⟨?_, fun _ => by omega⟩
      rw [show (q : K) - (q + 1 / 2) = -(1 / 2) by ring, abs_neg, abs_of_pos (by norm_num)]
  · rw [if_pos (by simp [hgt])]
    have ha := h.above_iff.1 hgt
    refine strictly ?_
    push_cast
    exact abs_lt.2 ⟨by linarith, by linarith⟩

theorem Splits.rounds {k : ℕ} (h : Splits t q rem (2 ^ k)) :
    RoundsMag rm sign t (if roundsUp rm sign q rem (k + 1) then q + 1 else q) := by
  have haway := h.roundsAway
  cases rm with
  | nearest => exact h.roundsNearest sign
  | towardZero => exact h.roundsDown
  | up => cases sign with
    | true => exact h.roundsDown
    | false => simpa [roundsUp, RoundsMag] using haway
  | down => cases sign with
    | false => exact h.roundsDown
    | true => simpa [roundsUp, RoundsMag] using haway

omit [IsStrictOrderedRing K] in
/-- An integer stays, and no other value becomes itself. -/
theorem Splits.inexact {k : ℕ} (h : Splits t q rem (2 ^ k)) :
    rem = 0 ↔ t = ((if roundsUp rm sign q rem (k + 1) then q + 1 else q : ℕ) : K) := by
  have hhigh := h.high
  by_cases h0 : rem = 0
  · have hno : roundsUp rm sign q rem (k + 1) = false := by
      have hnat : 0 < 2 ^ k := Nat.two_pow_pos k
      cases rm <;> simp [roundsUp, h0]
      omega
    rw [hno]
    exact h.exact_iff
  · refine iff_of_false h0 ?_
    split
    · push_cast
      exact hhigh.ne
    · exact mt h.exact_iff.2 h0

/-- A shift rounds a value by where it lies among the integers and halfway points. -/
theorem roundShift_rounds {m shift : ℕ} (h : Locates (t * 2 ^ shift) m (2 ^ (shift - 1))) :
    RoundsMag rm sign t (roundShift rm sign m shift).1 ∧
      ((roundShift rm sign m shift).2 = false ↔ t = (roundShift rm sign m shift).1) := by
  cases shift with
  | zero =>
    obtain ⟨hle, hge⟩ := h m (one_dvd _)
    rw [pow_zero, mul_one] at hle hge
    obtain rfl : t = m := le_antisymm (hge.2 le_rfl) (hle.2 le_rfl)
    refine ⟨?_, iff_of_true rfl rfl⟩
    cases rm <;> cases sign <;> simp [roundShift, RoundsMag, RoundsDown, RoundsAway]
  | succ k =>
    have hsplits := splits_of_locates h
    refine ⟨hsplits.rounds rm sign, ?_⟩
    rw [← (show _ ↔ t = ((roundShift rm sign m (k + 1)).1 : K) from hsplits.inexact rm sign)]
    show decide (m % 2 ^ (k + 1) ≠ 0) = false ↔ _
    rw [decide_eq_false_iff_not, not_not]

end

/-- Rounding does not cross an integer. -/
theorem RoundsMag.bounds {rm : RoundingMode} {sign : Bool} {t : K} {q : ℕ} (h : RoundsMag rm sign t q) {a b : ℕ}
    (ha : (a : K) ≤ t) (hb : t ≤ b) : a ≤ q ∧ q ≤ b := by
  have near : |(q : K) - t| < 1 → a ≤ q ∧ q ≤ b := fun hlt => by
    obtain ⟨h1, h2⟩ := abs_lt.1 hlt
    have hlow : (a : K) < ((q + 1 : ℕ) : K) := by push_cast; linarith
    have hhigh : (q : K) < ((b + 1 : ℕ) : K) := by push_cast; linarith
    have := Nat.cast_lt.1 hlow
    have := Nat.cast_lt.1 hhigh
    omega
  have down (h : RoundsDown t q) : |(q : K) - t| < 1 := abs_lt.2 ⟨by linarith [h.2], by linarith [h.1]⟩
  have up (h : RoundsAway t q) : |(q : K) - t| < 1 := abs_lt.2 ⟨by linarith [h.1], by linarith [h.2]⟩
  cases rm with
  | nearest => exact near (lt_of_le_of_lt h.1 (by norm_num))
  | towardZero => exact near (down h)
  | up => cases sign with
    | true => exact near (down h)
    | false => exact near (up h)
  | down => cases sign with
    | true => exact near (up h)
    | false => exact near (down h)

end

/-! Rounding in a format: `fpRound` with its parts named. -/

/-- The scaled significand, as long as the precision or as `m`. -/
def fpScaled (f : FpFormat) (m : ℕ) : ℕ := m * 2 ^ (f.precision - (m.log2 + 1))

/-- The bits of it beyond the precision. -/
def fpShift (f : FpFormat) (m : ℕ) : ℕ := m.log2 + 1 - f.precision

/-- The power of two of the last place, before a carry. -/
def fpPlace (f : FpFormat) (m : ℕ) (e : ℤ) : ℤ := e + (m.log2 + 1 : ℕ) - f.precision

theorem fpScaled_bounds (f : FpFormat) {m : ℕ} (hm : 0 < m) :
    2 ^ (f.precision - 1) * 2 ^ fpShift f m ≤ fpScaled f m ∧ fpScaled f m < 2 ^ f.precision * 2 ^ fpShift f m := by
  have hp := f.two_le_precision
  have hlo : 2 ^ m.log2 ≤ m := Nat.log2_self_le hm.ne'
  have hhi : m < 2 ^ (m.log2 + 1) := Nat.lt_log2_self
  unfold fpScaled fpShift
  rw [← pow_add, ← pow_add]
  refine ⟨?_, ?_⟩
  · calc 2 ^ (f.precision - 1 + (m.log2 + 1 - f.precision)) = 2 ^ m.log2 * 2 ^ (f.precision - (m.log2 + 1)) := by
          rw [← pow_add]; congr 1; omega
      _ ≤ _ := Nat.mul_le_mul_right _ hlo
  · calc m * 2 ^ (f.precision - (m.log2 + 1)) < 2 ^ (m.log2 + 1) * 2 ^ (f.precision - (m.log2 + 1)) :=
          Nat.mul_lt_mul_of_pos_right hhi (Nat.two_pow_pos _)
      _ = _ := by rw [← pow_add]; congr 1; omega

/-- The normal form of a rounded significand: a carry out of the precision moves the place. -/
def Normalizes (f : FpFormat) (q0 : ℕ) (g0 : ℤ) (q : ℕ) (g : ℤ) : Prop :=
  (q = q0 ∧ g = g0 ∧ 2 ^ (f.precision - 1) ≤ q0 ∧ q0 < 2 ^ f.precision) ∨
    (q0 = 2 ^ f.precision ∧ q = 2 ^ (f.precision - 1) ∧ g = g0 + 1)

/-- The outcome of a rounding to `q * 2^g`, by its exponent. -/
def fpOutcome (f : FpFormat) (env : FpEnv) (sign : Bool) (q : ℕ) (g : ℤ) (inexact : Bool) : FpResult :=
  if f.emax < g + (f.precision - 1) then fpOverflow f env.rm sign
  else if g + (f.precision - 1) < f.emin then fpTiny f env sign
  else { causes := if inexact then causeI else causeNone
         value := fpBits f sign (g + (f.precision - 1) + f.emax).toNat (q - 2 ^ f.fracBits) }

/-- That normal form. -/
def fpCarried (f : FpFormat) (q0 : ℕ) (g0 : ℤ) : ℕ × ℤ :=
  if q0 = 2 ^ f.precision then (2 ^ (f.precision - 1), g0 + 1) else (q0, g0)

theorem normalizes_carried {f : FpFormat} {q0 : ℕ} (g0 : ℤ) (hl : 2 ^ (f.precision - 1) ≤ q0) (hu : q0 ≤ 2 ^ f.precision) :
    Normalizes f q0 g0 (fpCarried f q0 g0).1 (fpCarried f q0 g0).2 := by
  unfold fpCarried
  split
  · next h => exact .inr ⟨h, rfl, rfl⟩
  · next h => exact .inl ⟨rfl, rfl, hl, lt_of_le_of_ne hu h⟩

theorem fpRound_eq (f : FpFormat) (env : FpEnv) (sign : Bool) (m : ℕ) (e : ℤ) : fpRound f env sign m e =
    let r := roundShift env.rm sign (fpScaled f m) (fpShift f m)
    fpOutcome f env sign (fpCarried f r.1 (fpPlace f m e)).1 (fpCarried f r.1 (fpPlace f m e)).2 r.2 := by
  have hround : fpRound f env sign m e =
      let r := roundShift env.rm sign (fpScaled f m) (fpShift f m)
      let carry := r.1 = 2 ^ f.precision
      let q := if carry then 2 ^ (f.precision - 1) else r.1
      let expo : ℤ := e + (m.log2 + 1 : ℕ) - 1 + (if carry then 1 else 0)
      if f.emax < expo then fpOverflow f env.rm sign
      else if expo < f.emin then fpTiny f env sign
      else { causes := if r.2 then causeI else causeNone
             value := fpBits f sign (expo + f.emax).toNat (q - 2 ^ f.fracBits) } := rfl
  rw [hround]
  dsimp only
  generalize roundShift env.rm sign (fpScaled f m) (fpShift f m) = r
  have hcarry : e + (m.log2 + 1 : ℕ) - 1 + 1 = fpPlace f m e + 1 + (f.precision - 1) := by rw [fpPlace]; ring
  have hnone : e + (m.log2 + 1 : ℕ) - 1 + 0 = fpPlace f m e + (f.precision - 1) := by rw [fpPlace]; ring
  by_cases h : r.1 = 2 ^ f.precision
  · simp only [fpCarried, fpOutcome, h, if_true, hcarry]
  · simp only [fpCarried, fpOutcome, h, if_false, hnone]

section
variable {K : Type} [Field K] [LinearOrder K] [IsStrictOrderedRing K] {f : FpFormat} {m : ℕ} {e : ℤ}

/-- `x` lies where the significand says. -/
def Represents (f : FpFormat) (x : K) (m : ℕ) (e : ℤ) : Prop :=
  Locates (x / 2 ^ fpPlace f m e * 2 ^ fpShift f m) (fpScaled f m) (2 ^ (fpShift f m - 1))

theorem represents_self (f : FpFormat) (m : ℕ) (e : ℤ) : Represents f ((m : K) * 2 ^ e) m e := by
  have hscaled : (m : K) * 2 ^ e / 2 ^ fpPlace f m e * 2 ^ fpShift f m = (fpScaled f m : ℕ) := by
    rw [fpScaled, fpPlace, fpShift, Nat.cast_mul, Nat.cast_pow, Nat.cast_ofNat, mul_div_assoc, mul_assoc,
      ← zpow_sub₀ two_ne_zero, ← zpow_natCast, ← zpow_natCast, ← zpow_add₀ two_ne_zero]
    congr 2
    omega
  rw [Represents, hscaled]
  exact locates_self _ _

/-- With its last bit a sticky one and two bits to spare, a significand stands for all values around it. -/
theorem represents_sticky {x : K} (hodd : m % 2 = 1) (hlong : f.precision + 1 ≤ m.log2) (hl : ((m : K) - 1) * 2 ^ e < x)
    (hr : x < (m + 1) * 2 ^ e) : Represents f x m e := by
  have hpos : (0 : K) < 2 ^ e := zpow_pos two_pos e
  have hx : x / 2 ^ fpPlace f m e * 2 ^ fpShift f m = x / 2 ^ e := by
    rw [fpPlace, fpShift, div_mul_eq_mul_div, mul_div_assoc, ← zpow_natCast, ← zpow_sub₀ two_ne_zero, div_eq_mul_inv,
      ← zpow_neg]
    congr 2
    omega
  have hscaled : fpScaled f m = m := by
    rw [fpScaled, Nat.sub_eq_zero_of_le (by omega), pow_zero, mul_one]
  rw [Represents, hx, hscaled]
  refine locates_odd hodd (dvd_pow_self 2 (by rw [fpShift]; omega)) ?_ ?_
  · rwa [lt_div_iff₀ hpos]
  · rwa [div_lt_iff₀ hpos]

/-- What `fpRound` does: it rounds the magnitude, normalizes, and judges the exponent. -/
theorem fpRound_spec (env : FpEnv) (sign : Bool) {x : K} (hm : 0 < m) (hx : Represents f x m e) :
    ∃ (t : K) (q0 q : ℕ) (g0 g : ℤ) (inexact : Bool), x = t * 2 ^ g0 ∧ (2 : K) ^ (f.precision - 1) ≤ t ∧
      t < 2 ^ f.precision ∧ RoundsMag env.rm sign t q0 ∧ (inexact = false ↔ t = q0) ∧ Normalizes f q0 g0 q g ∧
      fpRound f env sign m e = fpOutcome f env sign q g inexact := by
  have hp := f.two_le_precision
  obtain ⟨hlo, hhi⟩ := fpScaled_bounds f hm
  have hpow : (0 : K) < 2 ^ fpShift f m := by positivity
  obtain ⟨hrounds, hexact⟩ := roundShift_rounds env.rm sign hx
  have hunit (k : ℕ) : 2 ^ (fpShift f m - 1) ∣ k * 2 ^ fpShift f m := (pow_dvd_pow 2 (Nat.sub_le _ _)).mul_left k
  have hcast (k : ℕ) : ((2 ^ k * 2 ^ fpShift f m : ℕ) : K) = 2 ^ k * 2 ^ fpShift f m := by push_cast; rfl
  have ht1 : (2 : K) ^ (f.precision - 1) ≤ x / 2 ^ fpPlace f m e := by
    have h := (hx _ (hunit (2 ^ (f.precision - 1)))).1.2 hlo
    rwa [hcast, mul_le_mul_iff_left₀ hpow] at h
  have ht2 : x / 2 ^ fpPlace f m e < 2 ^ f.precision := by
    have h := not_le.1 (mt (hx _ (hunit (2 ^ f.precision))).1.1 (not_le.2 hhi))
    rwa [hcast, mul_lt_mul_iff_left₀ hpow] at h
  have hbounds := hrounds.bounds (a := 2 ^ (f.precision - 1)) (b := 2 ^ f.precision) (by push_cast; exact ht1)
    (by push_cast; exact ht2.le)
  have hxt : x = x / 2 ^ fpPlace f m e * 2 ^ fpPlace f m e := (div_mul_cancel₀ x (zpow_pos two_pos _).ne').symm
  exact ⟨_, _, _, _, _, _, hxt, ht1, ht2, hrounds, hexact, normalizes_carried _ hbounds.1 hbounds.2, fpRound_eq f env sign m e⟩

end

section
variable {f : FpFormat} {q0 q : ℕ} {g0 g : ℤ} (h : Normalizes f q0 g0 q g)
include h

theorem Normalizes.value (K : Type) [Field K] [CharZero K] : (q : K) * 2 ^ g = q0 * 2 ^ g0 := by
  rcases h with ⟨rfl, rfl, -⟩ | ⟨rfl, rfl, rfl⟩
  · rfl
  · rw [zpow_add_one₀ two_ne_zero]
    have hp : (2 : K) ^ f.precision = 2 ^ (f.precision - 1) * 2 := by
      rw [← pow_succ, Nat.sub_add_cancel (le_trans (by decide) f.two_le_precision)]
    push_cast
    rw [hp]
    ring

theorem Normalizes.bounds : 2 ^ (f.precision - 1) ≤ q ∧ q < 2 ^ f.precision := by
  rcases h with ⟨rfl, rfl, hl, hu⟩ | ⟨rfl, rfl, rfl⟩
  · exact ⟨hl, hu⟩
  · exact ⟨le_rfl, Nat.pow_lt_pow_right (by decide) (Nat.sub_lt (le_trans (by decide) f.two_le_precision) Nat.one_pos)⟩

theorem Normalizes.even (h0 : q0 % 2 = 0) : q % 2 = 0 := by
  rcases h with ⟨rfl, -⟩ | ⟨-, rfl, -⟩
  · exact h0
  · cases f <;> decide

theorem Normalizes.place_le : g0 ≤ g ∧ (g = g0 ∨ q % 2 = 0) := by
  rcases h with ⟨-, rfl, -⟩ | ⟨-, rfl, rfl⟩
  · exact ⟨le_rfl, .inl rfl⟩
  · exact ⟨by omega, .inr (by cases f <;> decide)⟩

end

/-! The outcome, by the exponent. -/

section
variable (f : FpFormat) (env : FpEnv) (sign : Bool) {q : ℕ} {g : ℤ} (inexact : Bool)

theorem fpOutcome_overflow (h : f.emax < g + (f.precision - 1)) :
    fpOutcome f env sign q g inexact = fpOverflow f env.rm sign := if_pos h

theorem fpOutcome_tiny (h : g + (f.precision - 1) < f.emin) :
    fpOutcome f env sign q g inexact = fpTiny f env sign := by
  have := f.emin_eq
  have := f.emax_pos
  rw [fpOutcome, if_neg (by omega), if_pos h]

theorem fpOutcome_normal (hl : f.emin ≤ g + (f.precision - 1)) (hu : g + (f.precision - 1) ≤ f.emax)
    (hq1 : 2 ^ (f.precision - 1) ≤ q) (hq2 : q < 2 ^ f.precision) :
    (fpOutcome f env sign q g inexact).causes = (if inexact then causeI else causeNone) ∧
      fpUnpack f (fpOutcome f env sign q g inexact).value = .finite sign false q g := by
  rw [fpOutcome, if_neg (by omega), if_neg (by omega)]
  refine ⟨rfl, ?_⟩
  have hmin := f.emin_eq
  have htop := f.two_pow_expBits
  have hp := f.precision_eq
  have hnat : ((g + (f.precision - 1) + f.emax).toNat : ℤ) = g + (f.precision - 1) + f.emax := Int.toNat_of_nonneg (by omega)
  rw [fpUnpack_normal f sign (by omega) (by omega) (by rwa [hp] at hq1) hq2, hnat]
  congr 1
  omega

end

end Sys2Proof.Machine
end

section
/-! What `fpRound` delivers: the rounded number of the format, and its distance from the exact value. -/

namespace Sys2Proof.Machine

section
variable {f : FpFormat} {rm : RoundingMode} {sign : Bool} {t : ℝ} {q0 q : ℕ} {g0 g : ℤ}

/-- A number of the precision is a multiple of the last place, or below every number that is not less than half the top. -/
theorem FpFormat.IsMag.multiple_or_lt {z : ℝ} (hz : f.IsMag z) (g0 : ℤ) :
    (∃ k : ℕ, z = k * 2 ^ g0) ∨ z < 2 ^ (f.precision - 1) * 2 ^ g0 := by
  obtain ⟨q, g, -, hu, rfl⟩ := hz
  by_cases h : g0 ≤ g
  · refine .inl ⟨q * 2 ^ (g - g0).toNat, ?_⟩
    push_cast
    rw [mul_assoc, ← zpow_natCast, Int.toNat_of_nonneg (by omega), ← zpow_add₀ two_ne_zero, sub_add_cancel]
  · have hp := f.two_le_precision
    have hq : (q : ℝ) < 2 ^ f.precision := by exact_mod_cast hu
    refine .inr ?_
    calc (q : ℝ) * 2 ^ g < 2 ^ f.precision * 2 ^ g := mul_lt_mul_of_pos_right hq (by positivity)
      _ = 2 ^ (f.precision - 1) * 2 ^ (g + 1) := by
          rw [zpow_add_one₀ two_ne_zero, mul_comm ((2 : ℝ) ^ g), ← mul_assoc, ← pow_succ, Nat.sub_add_cancel (by omega)]
      _ ≤ 2 ^ (f.precision - 1) * 2 ^ g0 :=
          mul_le_mul_of_nonneg_left (zpow_le_zpow_right₀ (by norm_num) (by omega)) (by positivity)

section
variable (hlo : (2 : ℝ) ^ (f.precision - 1) ≤ t) (hn : (q : ℝ) * 2 ^ g = q0 * 2 ^ g0)
include hlo hn

/-- The nearest number not above. -/
theorem rounds_below (h : RoundsDown t q0) :
    (q : ℝ) * 2 ^ g ≤ t * 2 ^ g0 ∧ ∀ z, f.IsMag z → z ≤ t * 2 ^ g0 → z ≤ (q : ℝ) * 2 ^ g := by
  have hpos : (0 : ℝ) < 2 ^ g0 := by positivity
  obtain ⟨hl, hu⟩ := h
  rw [hn]
  refine ⟨mul_le_mul_of_nonneg_right hl hpos.le, fun z hz hzt => ?_⟩
  rcases hz.multiple_or_lt g0 with ⟨k, rfl⟩ | hlt
  · have hk : (k : ℝ) < ((q0 + 1 : ℕ) : ℝ) := by
      push_cast
      exact lt_of_le_of_lt (le_of_mul_le_mul_right hzt hpos) hu
    have hk' := Nat.cast_lt.1 hk
    exact mul_le_mul_of_nonneg_right (Nat.cast_le.2 (by omega)) hpos.le
  · have hq : ((2 ^ (f.precision - 1) : ℕ) : ℝ) < ((q0 + 1 : ℕ) : ℝ) := by
      push_cast
      exact lt_of_le_of_lt hlo hu
    have hq' : 2 ^ (f.precision - 1) ≤ q0 := Nat.lt_succ_iff.1 (Nat.cast_lt.1 hq)
    refine hlt.le.trans (mul_le_mul_of_nonneg_right ?_ hpos.le)
    exact_mod_cast hq'

/-- The nearest number not below. -/
theorem rounds_above (h : RoundsAway t q0) :
    t * 2 ^ g0 ≤ (q : ℝ) * 2 ^ g ∧ ∀ z, f.IsMag z → t * 2 ^ g0 ≤ z → (q : ℝ) * 2 ^ g ≤ z := by
  have hpos : (0 : ℝ) < 2 ^ g0 := by positivity
  obtain ⟨hl, hu⟩ := h
  rw [hn]
  refine ⟨mul_le_mul_of_nonneg_right hl hpos.le, fun z hz hzt => ?_⟩
  rcases hz.multiple_or_lt g0 with ⟨k, rfl⟩ | hlt
  · have hk : (q0 : ℝ) < ((k + 1 : ℕ) : ℝ) := by
      push_cast
      linarith [le_of_mul_le_mul_right hzt hpos]
    have hk' := Nat.cast_lt.1 hk
    exact mul_le_mul_of_nonneg_right (Nat.cast_le.2 (by omega)) hpos.le
  · exact absurd (mul_le_mul_of_nonneg_right hlo hpos.le) (not_le.2 (lt_of_le_of_lt hzt hlt))

/-- The nearest number, of two the even one. -/
theorem rounds_nearest (h : RoundsMag .nearest sign t q0) (heven : q0 % 2 = 0 → q % 2 = 0) (z : ℝ) (hz : f.IsMag z) :
    |(q : ℝ) * 2 ^ g - t * 2 ^ g0| ≤ |z - t * 2 ^ g0| ∧
      (|(q : ℝ) * 2 ^ g - t * 2 ^ g0| = |z - t * 2 ^ g0| → z = (q : ℝ) * 2 ^ g ∨ q % 2 = 0) := by
  have hpos : (0 : ℝ) < 2 ^ g0 := by positivity
  obtain ⟨hhalf, htie⟩ := h
  have hscale (a : ℝ) : |a * 2 ^ g0 - t * 2 ^ g0| = |a - t| * 2 ^ g0 := by
    rw [← sub_mul, abs_mul, abs_of_pos hpos]
  have integer (k : ℕ) (hk : k ≠ q0) : 1 / 2 ≤ |(k : ℝ) - t| := by
    have hint : (1 : ℝ) ≤ |(k : ℝ) - q0| := by
      have hne : (k : ℤ) - q0 ≠ 0 := by omega
      exact_mod_cast Int.one_le_abs hne
    have htri := abs_sub_le (k : ℝ) t q0
    rw [abs_sub_comm t] at htri
    linarith
  rw [hn, hscale]
  rcases hz.multiple_or_lt g0 with ⟨k, rfl⟩ | hlt
  · rw [hscale]
    by_cases hk : k = q0
    · rw [hk]
      exact ⟨le_rfl, fun _ => .inl rfl⟩
    · have hfar := integer k hk
      refine ⟨mul_le_mul_of_nonneg_right (hhalf.trans hfar) hpos.le, fun heq => .inr (heven (htie ?_))⟩
      have := mul_right_cancel₀ hpos.ne' heq
      linarith
  · have hstrict : |(q0 : ℝ) - t| * 2 ^ g0 < |z - t * 2 ^ g0| := by
      have hle : |(q0 : ℝ) - t| ≤ t - 2 ^ (f.precision - 1) := by
        by_cases h2 : 2 ^ (f.precision - 1) = q0
        · have hcast : (2 : ℝ) ^ (f.precision - 1) = q0 := by exact_mod_cast h2
          rw [hcast, abs_sub_comm, abs_of_nonneg (by linarith)]
        · have hfar := integer _ h2
          push_cast at hfar
          rw [abs_sub_comm, abs_of_nonneg (by linarith)] at hfar
          linarith
      have hz' : z < t * 2 ^ g0 := lt_of_lt_of_le hlt (mul_le_mul_of_nonneg_right hlo hpos.le)
      have hzabs : |z - t * 2 ^ g0| = t * 2 ^ g0 - z := by rw [abs_sub_comm, abs_of_pos (by linarith)]
      rw [hzabs]
      have := mul_le_mul_of_nonneg_right hle hpos.le
      linarith [sub_mul t (2 ^ (f.precision - 1)) ((2 : ℝ) ^ g0)]
    exact ⟨hstrict.le, fun heq => absurd heq hstrict.ne⟩

/-- A rounded magnitude, in its normal form, is what the format's own terms say. -/
theorem FpFormat.rounds_of (hr : RoundsMag rm sign t q0) (hnorm : Normalizes f q0 g0 q g) :
    f.Rounds rm sign (t * 2 ^ g0) q g := by
  refine ⟨hnorm.bounds.1, hnorm.bounds.2, ?_⟩
  cases rm with
  | nearest => exact rounds_nearest hlo hn hr hnorm.even
  | towardZero => exact rounds_below hlo hn hr
  | up => cases sign with
    | true => exact rounds_below hlo hn hr
    | false => exact rounds_above hlo hn hr
  | down => cases sign with
    | true => exact rounds_above hlo hn hr
    | false => exact rounds_below hlo hn hr

end

end

/-! What is delivered. -/

/-- The directions that round a value of this sign away from zero. -/
def RoundsOut (rm : RoundingMode) (sign : Bool) : Prop := (rm = .up ∧ sign = false) ∨ (rm = .down ∧ sign = true)

section
variable (f : FpFormat) (env : FpEnv) (sign : Bool)

theorem fpOverflow_delivers (rm : RoundingMode) : (fpOverflow f rm sign).causes = causeO ||| causeI ∧
    (rm = .nearest ∨ RoundsOut rm sign → fpUnpack f (fpOverflow f rm sign).value = .infinity sign) ∧
    (¬(rm = .nearest ∨ RoundsOut rm sign) → fpUnpack f (fpOverflow f rm sign).value =
      .finite sign false (2 ^ f.precision - 1) (f.emax - (f.precision - 1))) := by
  refine ⟨rfl, fun h => ?_, fun h => ?_⟩
  · rcases h with rfl | ⟨rfl, rfl⟩ | ⟨rfl, rfl⟩ <;> exact fpUnpack_fpInfinity f _
  · cases rm with
    | nearest => exact absurd (.inl rfl) h
    | towardZero => exact fpUnpack_fpLargest f sign
    | up => cases sign with
      | true => exact fpUnpack_fpLargest f true
      | false => exact absurd (.inr (.inl ⟨rfl, rfl⟩)) h
    | down => cases sign with
      | true => exact absurd (.inr (.inr ⟨rfl, rfl⟩)) h
      | false => exact fpUnpack_fpLargest f false

theorem fpTiny_flushed (h : env.flush = true) : (fpTiny f env sign).causes = causeU ||| causeI ∧
    (RoundsOut env.rm sign → fpUnpack f (fpTiny f env sign).value =
      .finite sign false (2 ^ (f.precision - 1)) (f.emin - (f.precision - 1))) ∧
    (¬RoundsOut env.rm sign → fpUnpack f (fpTiny f env sign).value = .zero sign) := by
  rw [fpTiny, if_pos h]
  refine ⟨rfl, fun hout => ?_, fun hout => ?_⟩
  · rcases hout with ⟨hrm, rfl⟩ | ⟨hrm, rfl⟩ <;> rw [hrm] <;> exact fpUnpack_fpSmallestNormal f _
  · unfold RoundsOut at hout
    cases hrm : env.rm with
    | nearest => exact fpUnpack_fpZero f sign
    | towardZero => exact fpUnpack_fpZero f sign
    | up => cases sign with
      | true => exact fpUnpack_fpZero f true
      | false => exact absurd (.inl ⟨hrm, rfl⟩) hout
    | down => cases sign with
      | true => exact absurd (.inr ⟨hrm, rfl⟩) hout
      | false => exact fpUnpack_fpZero f false

/-- `fpRound` delivers the rounding of every value its significand stands for. -/
theorem fpRound_delivers_of {x : ℝ} {m : ℕ} {e : ℤ} (hm : 0 < m) (hx : Represents f x m e) :
    f.Delivers env sign x (fpRound f env sign m e) := by
  obtain ⟨t, q0, q, g0, g, inexact, rfl, hlo, -, hr, hexact, hnorm, hround⟩ := fpRound_spec env sign hm hx
  have hn := hnorm.value ℝ
  obtain ⟨hq1, hq2⟩ := hnorm.bounds
  refine ⟨q, g, FpFormat.rounds_of hlo hn hr hnorm, fun hover => ?overflowed,
    fun htiny => ⟨fun hflush => ?flushed, fun hflush => ?tiny⟩,
    fun hl hu => ?normal⟩
  case overflowed =>
    rw [hround, fpOutcome_overflow f env sign inexact hover]
    exact fpOverflow_delivers f sign env.rm
  case flushed =>
    rw [hround, fpOutcome_tiny f env sign inexact htiny]
    exact fpTiny_flushed f env sign hflush
  case tiny =>
    rw [hround, fpOutcome_tiny f env sign inexact htiny, fpTiny, hflush]
    rfl
  case normal =>
    obtain ⟨hcauses, hvalue⟩ := fpOutcome_normal f env sign inexact hl hu hq1 hq2
    have hiff : inexact = false ↔ t * 2 ^ g0 = (q : ℝ) * 2 ^ g := by
      rw [hexact, hn, mul_left_inj' (zpow_pos two_pos g0).ne']
    rw [hround, hcauses]
    refine ⟨hvalue, fun heq => by rw [hiff.2 heq]; rfl, fun hne => ?_⟩
    rw [if_pos (Bool.eq_true_of_not_eq_false (mt hiff.1 hne))]

theorem fpRound_delivers {m : ℕ} (e : ℤ) (hm : 0 < m) : f.Delivers env sign (m * 2 ^ e) (fpRound f env sign m e) :=
  fpRound_delivers_of f env sign hm (represents_self f m e)

end

/-! The distance from the exact value. -/

/-- `y` is the rounding of the magnitude `x` in steps of `ulp`. -/
def NearBy (rm : RoundingMode) (sign : Bool) (x y ulp : ℚ) (q : ℕ) : Prop :=
  match rm with
  | .nearest => |y - x| ≤ ulp / 2 ∧ (|y - x| = ulp / 2 → q % 2 = 0)
  | .towardZero => y ≤ x ∧ x < y + ulp
  | .up => if sign then y ≤ x ∧ x < y + ulp else x ≤ y ∧ y < x + ulp
  | .down => if sign then x ≤ y ∧ y < x + ulp else y ≤ x ∧ x < y + ulp

theorem nearBy_of {f : FpFormat} {rm : RoundingMode} {sign : Bool} {t : ℚ} {q0 q : ℕ} {g0 g : ℤ} (hr : RoundsMag rm sign t q0)
    (hnorm : Normalizes f q0 g0 q g) : NearBy rm sign (t * 2 ^ g0) (q * 2 ^ g) (2 ^ g) q := by
  have hpos : (0 : ℚ) < 2 ^ g0 := by positivity
  obtain ⟨hle, heven⟩ := hnorm.place_le
  have hulp : (2 : ℚ) ^ g0 ≤ 2 ^ g := zpow_le_zpow_right₀ (by norm_num) hle
  rw [hnorm.value ℚ]
  have down (h : RoundsDown t q0) : (q0 : ℚ) * 2 ^ g0 ≤ t * 2 ^ g0 ∧ t * 2 ^ g0 < q0 * 2 ^ g0 + 2 ^ g := by
    have hlt := mul_lt_mul_of_pos_right h.2 hpos
    exact ⟨mul_le_mul_of_nonneg_right h.1 hpos.le, by linarith⟩
  have up (h : RoundsAway t q0) : t * 2 ^ g0 ≤ (q0 : ℚ) * 2 ^ g0 ∧ (q0 : ℚ) * 2 ^ g0 < t * 2 ^ g0 + 2 ^ g := by
    have hlt := mul_lt_mul_of_pos_right h.2 hpos
    exact ⟨mul_le_mul_of_nonneg_right h.1 hpos.le, by linarith⟩
  cases rm with
  | nearest =>
    obtain ⟨hhalf, htie⟩ := hr
    have hscaled := mul_le_mul_of_nonneg_right hhalf hpos.le
    have habs : |(q0 : ℚ) * 2 ^ g0 - t * 2 ^ g0| = |(q0 : ℚ) - t| * 2 ^ g0 := by
      rw [← sub_mul, abs_mul, abs_of_pos hpos]
    refine ⟨by rw [habs]; linarith, fun heq => heven.elim (fun hg => ?_) id⟩
    rw [habs, hg, div_eq_inv_mul, mul_left_inj' hpos.ne'] at heq
    exact hnorm.even (htie (by rw [heq]; norm_num))
  | towardZero => exact down hr
  | up => cases sign with
    | true => exact down hr
    | false => exact up hr
  | down => cases sign with
    | true => exact up hr
    | false => exact down hr

/-- A result without a cause but I is a normal number near the exact one. -/
theorem fpRound_near (f : FpFormat) (env : FpEnv) (sign : Bool) {m : ℕ} (e : ℤ) (hm : 0 < m)
    (hc : (fpRound f env sign m e).causes = causeNone ∨ (fpRound f env sign m e).causes = causeI) :
    ∃ (q : ℕ) (g : ℤ), fpUnpack f (fpRound f env sign m e).value = .finite sign false q g ∧
      2 ^ (f.precision - 1) ≤ q ∧ q < 2 ^ f.precision ∧
      ((fpRound f env sign m e).causes = causeI ↔ (m : ℚ) * 2 ^ e ≠ q * 2 ^ g) ∧
      NearBy env.rm sign (m * 2 ^ e) (q * 2 ^ g) (2 ^ g) q := by
  obtain ⟨t, q0, q, g0, g, inexact, ht, -, -, hr, hexact, hnorm, hround⟩ :=
    fpRound_spec (K := ℚ) env sign hm (represents_self f m e)
  obtain ⟨hq1, hq2⟩ := hnorm.bounds
  rw [hround] at hc ⊢
  have hu : g + (f.precision - 1) ≤ f.emax := by
    by_contra h
    rw [fpOutcome_overflow f env sign inexact (not_le.1 h)] at hc
    exact absurd hc (by decide : ¬(causeO ||| causeI = causeNone ∨ causeO ||| causeI = causeI))
  have hl : f.emin ≤ g + (f.precision - 1) := by
    by_contra h
    rw [fpOutcome_tiny f env sign inexact (not_le.1 h)] at hc
    cases hflush : env.flush with
    | true =>
      rw [(fpTiny_flushed f env sign hflush).1] at hc
      exact absurd hc (by decide : ¬(causeU ||| causeI = causeNone ∨ causeU ||| causeI = causeI))
    | false =>
      rw [fpTiny, hflush] at hc
      exact absurd hc (by decide : ¬(causeE = causeNone ∨ causeE = causeI))
  obtain ⟨hcauses, hvalue⟩ := fpOutcome_normal f env sign inexact hl hu hq1 hq2
  refine ⟨q, g, hvalue, hq1, hq2, ?_, by rw [ht]; exact nearBy_of hr hnorm⟩
  have hiff : inexact = false ↔ (m : ℚ) * 2 ^ e = q * 2 ^ g := by
    rw [hexact, ht, hnorm.value ℚ, mul_left_inj' (zpow_pos two_pos g0).ne']
  rw [hcauses, Ne, ← hiff]
  cases inexact <;> decide

/-! The direction and the flush condition of FCSR. -/

theorem roundingModeOf_eq_iff (x : BitVec 2) (rm : RoundingMode) : roundingModeOf x = rm ↔
    x = (match rm with | .nearest => 0#2 | .towardZero => 1#2 | .up => 2#2 | .down => 3#2) := by
  revert x
  cases rm <;> decide

/-- Settles O52: `fpRound` is one shift, rounded by its remainder, and then judged by its exponent. -/
theorem roundingDirections : Obligations.RoundingDirections := by
  refine ⟨fun f rm flush sign m e hm => ?_, fun f env sign m e hm => fpRound_delivers f env sign e hm,
    fun fcsr rm => ⟨roundingModeOf_eq_iff _ rm, ?_⟩⟩
  · intro r hc
    obtain ⟨q, g, hvalue, hl, hu, hiff, hnear⟩ := fpRound_near f { rm := rm, flush := flush } sign e hm hc
    refine ⟨q, g, hvalue, hl, hu, hiff, ?_⟩
    cases rm <;> exact hnear
  · have h0 := getLsbD_fcsrEnables fcsr (n := 0) (by decide)
    have h1 := getLsbD_fcsrEnables fcsr (n := 1) (by decide)
    simp only [fpEnvOf, fcsrFs, h0, h1, Bool.and_eq_true, Bool.not_eq_true']
    tauto

end Sys2Proof.Machine
end

section
/-! Arithmetic is exact and rounded once. -/

namespace Sys2Proof.Machine

/-! The rounding depends on the exact value alone, not on how it is written. -/

theorem log2_mul_two_pow {m : ℕ} (hm : 0 < m) (k : ℕ) : (m * 2 ^ k).log2 = m.log2 + k := by
  refine (Nat.log2_eq_iff (Nat.mul_pos hm (Nat.two_pow_pos k)).ne').2 ⟨?_, ?_⟩
  · rw [pow_add]
    exact Nat.mul_le_mul_right _ (Nat.log2_self_le hm.ne')
  · rw [show m.log2 + k + 1 = m.log2 + 1 + k by omega, pow_add]
    exact Nat.mul_lt_mul_of_pos_right Nat.lt_log2_self (Nat.two_pow_pos k)

theorem roundsUp_zero (rm : RoundingMode) (sign : Bool) (q shift : ℕ) :
    roundsUp rm sign q 0 shift = false := by
  have hpos : 2 ^ (shift - 1) ≠ 0 := (Nat.two_pow_pos _).ne'
  cases rm <;> simp [roundsUp, hpos.symm]

theorem roundsUp_scale (rm : RoundingMode) (sign : Bool) (q rem k j : ℕ) :
    roundsUp rm sign q (rem * 2 ^ j) (k + 1 + j) = roundsUp rm sign q rem (k + 1) := by
  have hpos : 0 < 2 ^ j := Nat.two_pow_pos j
  have hzero : rem * 2 ^ j ≠ 0 ↔ rem ≠ 0 := by simp
  cases rm with
  | nearest =>
    have hhalf : 2 ^ (k + 1 + j - 1) = 2 ^ k * 2 ^ j := by rw [← pow_add]; congr 1; omega
    simp only [roundsUp, hhalf, Nat.add_sub_cancel, Nat.mul_lt_mul_right hpos, Nat.mul_right_cancel_iff hpos]
  | towardZero => rfl
  | up => simp only [roundsUp, hzero]
  | down => simp only [roundsUp, hzero]

theorem roundShift_of_ne (rm : RoundingMode) (sign : Bool) (m : ℕ) {shift : ℕ} (hs : shift ≠ 0) : roundShift rm sign m shift =
    (if roundsUp rm sign (m / 2 ^ shift) (m % 2 ^ shift) shift then m / 2 ^ shift + 1 else m / 2 ^ shift,
      decide (m % 2 ^ shift ≠ 0)) := if_neg hs

theorem roundShift_scale (rm : RoundingMode) (sign : Bool) (m shift j : ℕ) :
    roundShift rm sign (m * 2 ^ j) (shift + j) = roundShift rm sign m shift := by
  have hpos : 0 < 2 ^ j := Nat.two_pow_pos j
  cases shift with
  | zero =>
    cases j with
    | zero => rw [pow_zero, mul_one]
    | succ j =>
      rw [Nat.zero_add, roundShift_of_ne _ _ _ (Nat.succ_ne_zero j), Nat.mul_div_cancel _ hpos, Nat.mul_mod_left,
        roundsUp_zero]
      rfl
  | succ k =>
    have hdiv : m * 2 ^ j / 2 ^ (k + 1 + j) = m / 2 ^ (k + 1) := by rw [pow_add _ (k + 1), Nat.mul_div_mul_right _ _ hpos]
    have hmod : m * 2 ^ j % 2 ^ (k + 1 + j) = m % 2 ^ (k + 1) * 2 ^ j := by rw [pow_add _ (k + 1), Nat.mul_mod_mul_right]
    have hzero : m % 2 ^ (k + 1) * 2 ^ j ≠ 0 ↔ m % 2 ^ (k + 1) ≠ 0 := by simp
    rw [roundShift_of_ne _ _ _ (by omega), roundShift_of_ne _ _ _ (by omega), hdiv, hmod, roundsUp_scale]
    simp only [hzero]

section
variable (f : FpFormat) (env : FpEnv) (sign : Bool)

theorem fpRound_scale {m : ℕ} (hm : 0 < m) (e : ℤ) (k : ℕ) :
    fpRound f env sign (m * 2 ^ k) (e - k) = fpRound f env sign m e := by
  have hlog := log2_mul_two_pow hm k
  obtain ⟨j, hj⟩ : ∃ j, j = k - (f.precision - (m.log2 + 1)) := ⟨_, rfl⟩
  have hshift : fpShift f (m * 2 ^ k) = fpShift f m + j := by
    rw [fpShift, fpShift, hlog]
    omega
  have hscaled : fpScaled f (m * 2 ^ k) = fpScaled f m * 2 ^ j := by
    rw [fpScaled, fpScaled, hlog, mul_assoc, mul_assoc, ← pow_add, ← pow_add]
    congr 2
    omega
  have hplace : fpPlace f (m * 2 ^ k) (e - k) = fpPlace f m e := by
    rw [fpPlace, fpPlace, hlog]
    push_cast
    ring
  rw [fpRound_eq, fpRound_eq, hshift, hscaled, hplace, roundShift_scale]

/-- Two ways to write one value round alike. -/
theorem fpRound_congr {m n : ℕ} {e d : ℤ} (hm : 0 < m) (hn : 0 < n) (h : (m : ℚ) * 2 ^ e = n * 2 ^ d) :
    fpRound f env sign m e = fpRound f env sign n d := by
  have scaled {m n : ℕ} {e d : ℤ} (hde : d ≤ e) (hm : 0 < m) (h : (m : ℚ) * 2 ^ e = n * 2 ^ d) :
      fpRound f env sign m e = fpRound f env sign n d := by
    obtain ⟨k, rfl⟩ : ∃ k : ℕ, e = d + k := ⟨(e - d).toNat, by omega⟩
    have hpos : (2 : ℚ) ^ d ≠ 0 := (zpow_pos two_pos d).ne'
    rw [zpow_add₀ two_ne_zero, mul_comm ((2 : ℚ) ^ d), ← mul_assoc, mul_left_inj' hpos, zpow_natCast] at h
    have hn : m * 2 ^ k = n := by exact_mod_cast h
    rw [← hn, ← fpRound_scale f env sign hm (d + k) k, add_sub_cancel_right]
  rcases le_total d e with hde | hde
  · exact scaled hde hm h
  · exact (scaled hde hn h.symm).symm

theorem scaled_neg_iff (S e : ℤ) : (S : ℚ) * 2 ^ e < 0 ↔ S < 0 := by
  rw [← not_le, mul_nonneg_iff_of_pos_right (zpow_pos two_pos e), not_le, Int.cast_lt_zero]

/-- An exact value as an integer times a power of two, rounded by its sign and magnitude. -/
theorem fpRound_int {S : ℤ} {e d : ℤ} {x : ℚ} {n : ℕ} (hx : (S : ℚ) * 2 ^ e = x) (hn : 0 < n) (hmag : |x| = n * 2 ^ d) :
    S ≠ 0 ∧ fpRound f env (decide (S < 0)) S.natAbs e = fpRound f env (decide (x < 0)) n d := by
  have hpos : (0 : ℚ) < 2 ^ e := zpow_pos two_pos e
  have hS : S ≠ 0 := by
    rintro rfl
    have hpos' : (0 : ℚ) < n * 2 ^ d := by positivity
    rw [← hx, Int.cast_zero, zero_mul, abs_zero] at hmag
    exact hpos'.ne hmag
  refine ⟨hS, ?_⟩
  have hneg : x < 0 ↔ S < 0 := by
    rw [← hx, scaled_neg_iff]
  have habs : (S.natAbs : ℚ) * 2 ^ e = n * 2 ^ d := by
    rw [← hmag, ← hx, abs_mul, abs_of_pos hpos, Nat.cast_natAbs, Int.cast_abs]
  simp only [hneg]
  exact fpRound_congr f env _ (Int.natAbs_pos.2 hS) hn habs

end

/-! Operands that are zeros or normal numbers. -/

/-- How an operation rounds an exact result. -/
def FpResult.IsRoundingOf (r : FpResult) (f : FpFormat) (env : FpEnv) (x : ℚ) : Prop :=
  ∀ (n : ℕ) (d : ℤ), 0 < n → |x| = n * 2 ^ d → r = fpRound f env (decide (x < 0)) n d

section
variable {f : FpFormat} {env : FpEnv} {a b c : FpValue}

theorem signedMag_eq_zero {s : Bool} {m : ℕ} (hm : 0 < m) : signedMag s m ≠ 0 := by
  cases s <;> simp [signedMag, hm.ne']

theorem signedMag_neg {s : Bool} {m : ℕ} (hm : 0 < m) : decide (signedMag s m < 0) = s := by
  cases s <;> simp [signedMag, hm]

theorem natAbs_signedMag (s : Bool) (m : ℕ) : (signedMag s m).natAbs = m := by cases s <;> simp [signedMag]

theorem abs_toRat_finite (s d : Bool) (m : ℕ) (e : ℤ) : |(FpValue.finite s d m e).toRat| = m * 2 ^ e := by
  rw [FpValue.toRat, abs_mul, abs_of_pos (a := (2 : ℚ) ^ e) (zpow_pos two_pos e), ← Int.cast_abs, Int.abs_eq_natAbs,
    natAbs_signedMag, Int.cast_natCast]

theorem toRat_finite_neg {s d : Bool} {m : ℕ} {e : ℤ} (hm : 0 < m) : decide ((FpValue.finite s d m e).toRat < 0) = s := by
  refine Eq.trans (decide_eq_decide.2 ?_) (signedMag_neg hm)
  exact scaled_neg_iff _ e

theorem FpValue.Plain.ok (h : a.Plain) : a.unimplemented = false ∧ a.signaling = false := by
  rcases h with ⟨s, rfl⟩ | ⟨s, m, e, -, rfl⟩ <;> exact ⟨rfl, rfl⟩

theorem FpValue.Plain.finite_of_ne (h : a.Plain) (h0 : a.toRat ≠ 0) : ∃ s m e, 0 < m ∧ a = .finite s false m e := by
  rcases h with ⟨s, rfl⟩ | h
  · exact absurd rfl h0
  · exact h

theorem FpValue.Plain.negate (h : a.Plain) : a.negate.Plain := by
  rcases h with ⟨s, rfl⟩ | ⟨s, m, e, hm, rfl⟩
  · exact .inl ⟨_, rfl⟩
  · exact .inr ⟨_, m, e, hm, rfl⟩

theorem FpValue.Plain.toRat_negate (h : a.Plain) : a.negate.toRat = -a.toRat := by
  rcases h with ⟨s, rfl⟩ | ⟨s, m, e, -, rfl⟩
  · exact (neg_zero).symm
  · cases s <;> simp [FpValue.negate, FpValue.toRat, signedMag]

theorem FpValue.Plain.addedBy (h : c.Plain) (sub : Bool) : (c.addedBy sub).Plain := by
  cases sub with
  | false => exact h
  | true => exact h.negate

theorem FpValue.Plain.toRat_addedBy (h : c.Plain) (sub : Bool) :
    (c.addedBy sub).toRat = if sub then -c.toRat else c.toRat := by
  cases sub with
  | false => rfl
  | true => exact h.toRat_negate

theorem FpValue.Plain.bad (ha : a.Plain) (hb : b.Plain) : (a.unimplemented || b.unimplemented) = false :=
  Bool.or_eq_false_iff.2 ⟨ha.ok.1, hb.ok.1⟩

theorem FpValue.Plain.addInvalid (ha : a.Plain) (hb : b.Plain) : addInvalid a b = false := by
  rcases ha with ⟨s, rfl⟩ | ⟨s, m, e, -, rfl⟩ <;> rcases hb with ⟨t, rfl⟩ | ⟨t, n, d, -, rfl⟩ <;> rfl

theorem FpValue.Plain.mulInvalid (ha : a.Plain) (hb : b.Plain) : mulInvalid a b = false := by
  rcases ha with ⟨s, rfl⟩ | ⟨s, m, e, -, rfl⟩ <;> rcases hb with ⟨t, rfl⟩ | ⟨t, n, d, -, rfl⟩ <;> rfl

/-- The product of two such operands is one. -/
theorem FpValue.Plain.mulValue (ha : a.Plain) (hb : b.Plain) :
    (mulValue a b).Plain ∧ (mulValue a b).toRat = a.toRat * b.toRat := by
  rcases ha with ⟨s, rfl⟩ | ⟨s, m, e, hm, rfl⟩ <;> rcases hb with ⟨t, rfl⟩ | ⟨t, n, d, hn, rfl⟩
  · exact ⟨.inl ⟨_, rfl⟩, (zero_mul _).symm⟩
  · exact ⟨.inl ⟨_, rfl⟩, (zero_mul _).symm⟩
  · exact ⟨.inl ⟨_, rfl⟩, (mul_zero _).symm⟩
  · refine ⟨.inr ⟨_, _, _, Nat.mul_pos hm hn, rfl⟩, ?_⟩
    have hsign : (signedMag (s != t) (m * n) : ℤ) = signedMag s m * signedMag t n := by
      cases s <;> cases t <;> simp [signedMag]
    show (signedMag (s != t) (m * n) : ℚ) * 2 ^ (e + d) = signedMag s m * 2 ^ e * (signedMag t n * 2 ^ d)
    rw [hsign, zpow_add₀ two_ne_zero]
    push_cast
    ring

/-! Sums and products. -/

theorem fpRound_isRoundingOf (f : FpFormat) (env : FpEnv) (s d : Bool) {m : ℕ} (hm : 0 < m) (e : ℤ) :
    (fpRound f env s m e).IsRoundingOf f env (FpValue.finite s d m e).toRat := by
  intro n g hn hmag
  rw [toRat_finite_neg hm]
  rw [abs_toRat_finite] at hmag
  exact fpRound_congr f env s hm hn hmag

/-- The two terms of a sum, at one power of two. -/
theorem fpSum_toRat (s1 s2 : Bool) (m1 m2 : ℕ) (e1 e2 : ℤ) :
    ((signedMag s1 m1 * 2 ^ (e1 - min e1 e2).toNat + signedMag s2 m2 * 2 ^ (e2 - min e1 e2).toNat : ℤ) : ℚ) * 2 ^ min e1 e2 =
      (FpValue.finite s1 false m1 e1).toRat + (FpValue.finite s2 false m2 e2).toRat := by
  have h1 := scaled_eq (signedMag s1 m1) e1 (min e1 e2) (min_le_left _ _)
  have h2 := scaled_eq (signedMag s2 m2) e2 (min e1 e2) (min_le_right _ _)
  rw [FpValue.toRat, FpValue.toRat, ← h1, ← h2, ← add_mul]
  push_cast
  ring

theorem fpAddFinite_isRoundingOf (s1 s2 : Bool) (m1 m2 : ℕ) (e1 e2 : ℤ) :
    (fpAddFinite f env s1 m1 e1 s2 m2 e2).IsRoundingOf f env
      ((FpValue.finite s1 false m1 e1).toRat + (FpValue.finite s2 false m2 e2).toRat) := by
  intro n d hn hmag
  obtain ⟨hne, hround⟩ := fpRound_int f env (fpSum_toRat s1 s2 m1 m2 e1 e2) hn hmag
  rw [← hround]
  exact if_neg hne

theorem fpAddValues_isRoundingOf (ha : a.Plain) (hb : b.Plain) :
    (fpAddValues f env a b).IsRoundingOf f env (a.toRat + b.toRat) := by
  rcases ha with ⟨s, rfl⟩ | ⟨s, m, e, hm, rfl⟩ <;> rcases hb with ⟨t, rfl⟩ | ⟨t, n, d, hn, rfl⟩
  · intro n d hn hmag
    have hpos : (0 : ℚ) < n * 2 ^ d := by positivity
    rw [← hmag] at hpos
    simp [FpValue.toRat] at hpos
  · rw [show (FpValue.zero s).toRat = 0 from rfl, zero_add]
    exact fpRound_isRoundingOf f env t false hn d
  · rw [show (FpValue.zero t).toRat = 0 from rfl, add_zero]
    exact fpRound_isRoundingOf f env s false hm e
  · exact fpAddFinite_isRoundingOf s t m n e d

/-- The sum of two opposite numbers. -/
theorem fpAddValues_cancel (ha : a.Plain) (hb : b.Plain) (h0 : a.toRat ≠ 0) (hsum : a.toRat + b.toRat = 0) :
    (fpAddValues f env a b).Exactly f (.zero (decide (env.rm = .down))) := by
  obtain ⟨s, m, e, hm, rfl⟩ := ha.finite_of_ne h0
  obtain ⟨t, n, d, hn, rfl⟩ := hb.finite_of_ne fun hb0 => h0 (by rwa [hb0, add_zero] at hsum)
  have hzero : signedMag s m * 2 ^ (e - min e d).toNat + signedMag t n * 2 ^ (d - min e d).toNat = 0 := by
    have h := fpSum_toRat s t m n e d
    rw [hsum] at h
    exact Int.cast_eq_zero.1 ((mul_eq_zero.1 h).resolve_right (zpow_pos two_pos _).ne')
  have hvalue : fpAddValues f env (.finite s false m e) (.finite t false n d) =
      { causes := causeNone, value := fpZero f (zeroSumSign env.rm) } := if_pos hzero
  rw [hvalue]
  exact exactly_zero f _

theorem fpDeliver_isRoundingOf (ha : a.Plain) : (fpDeliver f env a).IsRoundingOf f env a.toRat := by
  rcases ha with ⟨s, rfl⟩ | ⟨s, m, e, hm, rfl⟩
  · intro n d hn hmag
    have hpos : (0 : ℚ) < n * 2 ^ d := by positivity
    rw [← hmag] at hpos
    simp [FpValue.toRat] at hpos
  · exact fpRound_isRoundingOf f env s false hm e

variable (v : Bool)

theorem fpAdd_plain (ha : a.Plain) (hb : b.Plain) : fpAdd f env v a b = fpAddValues f env a b :=
  fpAdd_ok f env v a b (ha.bad hb) (ha.addInvalid hb)

theorem fpSub_plain (ha : a.Plain) (hb : b.Plain) : fpSub f env v a b = fpAddValues f env a b.negate :=
  fpAdd_plain v ha hb.negate

theorem fpMul_plain (ha : a.Plain) (hb : b.Plain) : fpMul f env v a b = fpDeliver f env (mulValue a b) :=
  fpCheck_ok (ha.bad hb) (ha.mulInvalid hb)

theorem fpMadd_plain (kind : MaddKind) (ha : a.Plain) (hb : b.Plain) (hc : c.Plain) : fpMadd f env v kind c a b =
    (fpAddValues f env (mulValue a b) (c.addedBy kind.subtracts)).turnedBy f kind.negates := by
  rw [fpMadd_eq]
  refine fpCheck_ok ?_ ?_
  · rw [hc.ok.1, ha.ok.1, hb.ok.1]
    rfl
  · rw [ha.mulInvalid hb, FpValue.addedBy_signaling, hc.ok.2, (ha.mulValue hb).1.addInvalid (hc.addedBy _)]
    rfl

theorem fpAdd_isRoundingOf (ha : a.Plain) (hb : b.Plain) : (fpAdd f env v a b).IsRoundingOf f env (a.toRat + b.toRat) := by
  rw [fpAdd_plain v ha hb]
  exact fpAddValues_isRoundingOf ha hb

theorem fpSub_isRoundingOf (ha : a.Plain) (hb : b.Plain) : (fpSub f env v a b).IsRoundingOf f env (a.toRat - b.toRat) := by
  rw [fpSub_plain v ha hb, sub_eq_add_neg, ← hb.toRat_negate]
  exact fpAddValues_isRoundingOf ha hb.negate

theorem fpMul_isRoundingOf (ha : a.Plain) (hb : b.Plain) : (fpMul f env v a b).IsRoundingOf f env (a.toRat * b.toRat) := by
  obtain ⟨hplain, hvalue⟩ := ha.mulValue hb
  rw [fpMul_plain v ha hb, ← hvalue]
  exact fpDeliver_isRoundingOf hplain

/-- The multiply-add group: one rounding, then the sign; an exact zero. -/
theorem fpMadd_rounds (kind : MaddKind) (ha : a.Plain) (hb : b.Plain) (hc : c.Plain) :
    (∀ (n : ℕ) (d : ℤ), 0 < n → |a.toRat * b.toRat + (if kind.subtracts then -c.toRat else c.toRat)| = n * 2 ^ d →
      fpMadd f env v kind c a b =
        (fpRound f env (decide (a.toRat * b.toRat + (if kind.subtracts then -c.toRat else c.toRat) < 0)) n d).turnedBy f
          kind.negates) ∧
      (a.toRat * b.toRat ≠ 0 → a.toRat * b.toRat + (if kind.subtracts then -c.toRat else c.toRat) = 0 →
        (fpMadd f env v kind c a b).Exactly f (.zero (decide (env.rm = .down) != kind.negates))) := by
  obtain ⟨hplain, hvalue⟩ := ha.mulValue hb
  rw [fpMadd_plain v kind ha hb hc, ← hvalue, ← hc.toRat_addedBy]
  refine ⟨fun n d hn hmag => ?_, fun h0 hsum => ?_⟩
  · rw [fpAddValues_isRoundingOf hplain (hc.addedBy _) n d hn hmag]
  · rw [← turned_zero]
    exact (fpAddValues_cancel hplain (hc.addedBy _) h0 hsum).turnedBy _

end

end Sys2Proof.Machine
end

section
/-! Quotients and square roots: to two bits more than the precision, with a sticky last bit. -/

namespace Sys2Proof.Machine

/-! The sticky bit. -/

/-- A truncated magnitude with its sticky bit stands for the exact one. -/
theorem represents_truncated {f : FpFormat} {x : ℝ} {q : ℕ} {g : ℤ} {exact : Prop} [Decidable exact]
    (hlong : 2 ^ f.precision ≤ q) (hl : (q : ℝ) * 2 ^ g ≤ x) (hr : x < (q + 1) * 2 ^ g)
    (hexact : exact ↔ x = q * 2 ^ g) : Represents f x (2 * q + if exact then 0 else 1) (g - 1) := by
  have hpos : 0 < q := lt_of_lt_of_le (Nat.two_pow_pos _) hlong
  have hscale (a : ℝ) : 2 * a * 2 ^ (g - 1) = a * 2 ^ g := by
    rw [zpow_sub_one₀ two_ne_zero]
    ring
  by_cases h : exact
  · have hx : x = ((2 * q : ℕ) : ℝ) * 2 ^ (g - 1) := by
      push_cast
      rw [hscale]
      exact hexact.1 h
    rw [if_pos h, add_zero, hx]
    exact represents_self f _ _
  · have hne : (q : ℝ) * 2 ^ g ≠ x := fun heq => h (hexact.2 heq.symm)
    rw [if_neg h]
    refine represents_sticky (by omega) ?_ ?_ ?_
    · refine (Nat.le_log2 (by omega)).2 ?_
      rw [pow_succ]
      omega
    · push_cast
      rw [show (2 : ℝ) * q + 1 - 1 = 2 * q by ring, hscale]
      exact lt_of_le_of_ne hl hne
    · push_cast
      rw [show (2 : ℝ) * q + 1 + 1 = 2 * (q + 1) by ring, hscale]
      exact hr

/-! Quotients. -/

/-- The scale of the quotient keeps two bits more than the precision. -/
theorem divScale_long (f : FpFormat) {m n : ℕ} (hm : 0 < m) (hn : 0 < n) :
    2 ^ f.precision ≤ m * 2 ^ (f.precision + 2 + (n.log2 + 1 - m.log2)) / n := by
  rw [Nat.le_div_iff_mul_le hn]
  have hlo : 2 ^ m.log2 ≤ m := Nat.log2_self_le hm.ne'
  have hhi : n ≤ 2 ^ (n.log2 + 1) := Nat.lt_log2_self.le
  calc 2 ^ f.precision * n ≤ 2 ^ f.precision * 2 ^ (n.log2 + 1) := Nat.mul_le_mul_left _ hhi
    _ ≤ 2 ^ m.log2 * 2 ^ (f.precision + 2 + (n.log2 + 1 - m.log2)) := by
        rw [← pow_add, ← pow_add]
        exact Nat.pow_le_pow_right (by decide) (by omega)
    _ ≤ _ := Nat.mul_le_mul_right _ hlo

/-- A quotient of integers, truncated. -/
theorem represents_quotient {f : FpFormat} {N n : ℕ} (hn : 0 < n) (hlong : 2 ^ f.precision ≤ N / n) (g : ℤ) :
    Represents f ((N : ℝ) / n * 2 ^ g) (2 * (N / n) + if N % n = 0 then 0 else 1) (g - 1) := by
  have hnpos : (0 : ℝ) < n := Nat.cast_pos.2 hn
  have hg : (0 : ℝ) < 2 ^ g := by positivity
  have hdm : (N : ℝ) = n * ((N / n : ℕ) : ℝ) + ((N % n : ℕ) : ℝ) := by exact_mod_cast (Nat.div_add_mod N n).symm
  have hrem : ((N % n : ℕ) : ℝ) < n := Nat.cast_lt.2 (Nat.mod_lt _ hn)
  have hrem0 : (0 : ℝ) ≤ ((N % n : ℕ) : ℝ) := Nat.cast_nonneg _
  refine represents_truncated hlong (mul_le_mul_of_nonneg_right ?_ hg.le) (mul_lt_mul_of_pos_right ?_ hg) ?_
  · rw [le_div_iff₀ hnpos]
    linarith
  · rw [div_lt_iff₀ hnpos]
    linarith
  · rw [mul_left_inj' hg.ne', div_eq_iff hnpos.ne', hdm, mul_comm (n : ℝ), add_eq_left, Nat.cast_eq_zero]

/-- The sign of a quotient. -/
theorem decide_div_neg {x y : ℚ} (hx : x ≠ 0) (hy : y ≠ 0) : decide (x / y < 0) = (decide (x < 0) != decide (y < 0)) := by
  rcases hx.lt_or_gt with h | h <;> rcases hy.lt_or_gt with h' | h' <;> simp [div_neg_iff, h, h', h.not_gt, h'.not_gt]

theorem fpDiv_delivers {f : FpFormat} (env : FpEnv) (v : Bool) {a b : FpValue} (ha : a.Plain) (hb : b.Plain)
    (ha0 : a.toRat ≠ 0) (hb0 : b.toRat ≠ 0) :
    f.Delivers env (decide (a.toRat / b.toRat < 0)) |((a.toRat / b.toRat : ℚ) : ℝ)| (fpDiv f env v a b) := by
  obtain ⟨s, m, e, hm, rfl⟩ := ha.finite_of_ne ha0
  obtain ⟨t, n, d, hn, rfl⟩ := hb.finite_of_ne hb0
  obtain ⟨k, hk⟩ : ∃ k, k = f.precision + 2 + (n.log2 + 1 - m.log2) := ⟨_, rfl⟩
  have hdiv : fpDiv f env v (.finite s false m e) (.finite t false n d) = fpRound f env (s != t)
      (2 * (m * 2 ^ k / n) + if m * 2 ^ k % n = 0 then 0 else 1) (e - d - (k + 1 : ℕ)) := by
    rw [hk]
    rfl
  have hsign : decide ((FpValue.finite s false m e).toRat / (FpValue.finite t false n d).toRat < 0) = (s != t) := by
    rw [decide_div_neg ha0 hb0, toRat_finite_neg hm, toRat_finite_neg hn]
  have habs : |(((FpValue.finite s false m e).toRat / (FpValue.finite t false n d).toRat : ℚ) : ℝ)| =
      ((m * 2 ^ k : ℕ) : ℝ) / n * 2 ^ (e - d - k) := by
    rw [← Rat.cast_abs, abs_div, abs_toRat_finite, abs_toRat_finite, zpow_sub₀ two_ne_zero, zpow_sub₀ two_ne_zero,
      zpow_natCast]
    push_cast
    have hpow : (2 : ℝ) ^ k ≠ 0 := by positivity
    have hn0 : (n : ℝ) ≠ 0 := Nat.cast_ne_zero.2 hn.ne'
    field_simp
  have hlong := hk ▸ divScale_long f hm hn
  have hpos := Nat.two_pow_pos f.precision
  rw [hsign, habs, hdiv, show e - d - ((k + 1 : ℕ) : ℤ) = e - d - k - 1 by push_cast; ring]
  exact fpRound_delivers_of f env _ (by omega) (represents_quotient hn hlong _)

/-! Square roots. -/

/-- Bit by bit from above: what is found is the root. -/
theorem isqrtBits_spec {m : ℕ} (k acc : ℕ) (hl : acc * acc ≤ m) (hu : m < (acc + 2 ^ k) * (acc + 2 ^ k)) :
    isqrtBits m k acc * isqrtBits m k acc ≤ m ∧ m < (isqrtBits m k acc + 1) * (isqrtBits m k acc + 1) := by
  induction k generalizing acc with
  | zero => exact ⟨hl, hu⟩
  | succ k ih =>
    rw [isqrtBits]
    split
    · next h =>
      refine ih _ h ?_
      rwa [add_assoc, ← two_mul, ← pow_succ']
    · next h => exact ih acc hl (not_le.1 h)

theorem isqrt_spec (m : ℕ) : isqrt m * isqrt m ≤ m ∧ m < (isqrt m + 1) * (isqrt m + 1) := by
  refine isqrtBits_spec _ 0 (Nat.zero_le m) ?_
  rw [zero_add, ← pow_add]
  exact lt_of_lt_of_le Nat.lt_log2_self (Nat.pow_le_pow_right (by decide) (by omega))

theorem isqrt_long (m k : ℕ) (h : 2 ^ (2 * k) ≤ m) : 2 ^ k ≤ isqrt m := by
  by_contra hlt
  have hle : isqrt m + 1 ≤ 2 ^ k := by omega
  have := Nat.mul_le_mul hle hle
  rw [← pow_add, ← two_mul] at this
  have := (isqrt_spec m).2
  omega

/-- A root of an integer, truncated. -/
theorem represents_root {f : FpFormat} {M : ℕ} (hlong : 2 ^ f.precision ≤ isqrt M) (g : ℤ) :
    Represents f (√M * 2 ^ g) (2 * isqrt M + if isqrt M * isqrt M = M then 0 else 1) (g - 1) := by
  obtain ⟨hlo, hhi⟩ := isqrt_spec M
  have hg : (0 : ℝ) < 2 ^ g := by positivity
  have hlo' : (isqrt M : ℝ) * isqrt M ≤ M := by exact_mod_cast hlo
  have hhi' : (M : ℝ) < (isqrt M + 1) * (isqrt M + 1) := by exact_mod_cast hhi
  refine represents_truncated hlong (mul_le_mul_of_nonneg_right ?_ hg.le) (mul_lt_mul_of_pos_right ?_ hg) ?_
  · exact Real.le_sqrt_of_sq_le (by rw [sq]; exact hlo')
  · rw [Real.sqrt_lt' (by positivity), sq]
    exact hhi'
  · rw [mul_left_inj' hg.ne', Real.sqrt_eq_iff_mul_self_eq (Nat.cast_nonneg _) (Nat.cast_nonneg _)]
    exact ⟨fun heq => by exact_mod_cast heq.symm, fun heq => by exact_mod_cast heq.symm⟩

/-- The root of an even power of two times a number. -/
theorem sqrt_scaled (M : ℕ) (h : ℤ) : √((M : ℝ) * 2 ^ (2 * h)) = √M * 2 ^ h := by
  rw [Real.sqrt_mul (Nat.cast_nonneg M), mul_comm 2 h, zpow_mul, zpow_ofNat, Real.sqrt_sq (by positivity)]

theorem fpSqrt_delivers {f : FpFormat} (env : FpEnv) (v : Bool) {a : FpValue} (ha : a.Plain) (ha0 : 0 < a.toRat) :
    f.Delivers env false (√(a.toRat : ℝ)) (fpSqrt f env v a) := by
  obtain ⟨s, m, e, hm, rfl⟩ := ha.finite_of_ne ha0.ne'
  obtain rfl : s = false := by
    rw [← toRat_finite_neg (s := s) (d := false) (e := e) hm]
    exact decide_eq_false ha0.not_gt
  obtain ⟨k, hk⟩ : ∃ k, k = 2 * (f.precision + 2) + (if e % 2 = 0 then 0 else 1) := ⟨_, rfl⟩
  obtain ⟨h, hh⟩ : ∃ h : ℤ, e - k = 2 * h := by
    refine ⟨(e - k) / 2, ?_⟩
    rw [hk]
    split <;> omega
  have hsqrt : fpSqrt f env v (.finite false false m e) = fpRound f env false
      (2 * isqrt (m * 2 ^ k) + if isqrt (m * 2 ^ k) * isqrt (m * 2 ^ k) = m * 2 ^ k then 0 else 1) ((e - k) / 2 - 1) := by
    rw [hk]
    rfl
  have hvalue : √(((FpValue.finite false false m e).toRat : ℚ) : ℝ) = √((m * 2 ^ k : ℕ) : ℝ) * 2 ^ h := by
    rw [← sqrt_scaled, ← hh, FpValue.toRat]
    congr 1
    push_cast
    rw [show signedMag false m = (m : ℤ) from rfl, Int.cast_natCast, mul_assoc, ← zpow_natCast, ← zpow_add₀ two_ne_zero]
    congr 2
    ring
  have hlong : 2 ^ f.precision ≤ isqrt (m * 2 ^ k) := by
    refine le_trans (Nat.pow_le_pow_right (by decide) (Nat.le_add_right _ 2)) (isqrt_long _ (f.precision + 2) ?_)
    calc 2 ^ (2 * (f.precision + 2)) ≤ 2 ^ k := Nat.pow_le_pow_right (by decide) (by omega)
      _ ≤ m * 2 ^ k := Nat.le_mul_of_pos_left _ hm
  have hpos := Nat.two_pow_pos f.precision
  rw [hvalue, hsqrt, hh, Int.mul_ediv_cancel_left _ (by decide)]
  exact fpRound_delivers_of f env _ (by omega) (represents_root hlong h)

/-! Conversions between formats. -/

theorem fpConvert_delivers {f : FpFormat} (env : FpEnv) (v s : Bool) {m : ℕ} (e : ℤ) (hm : 0 < m) :
    f.Delivers env s (m * 2 ^ e) (fpConvert f env v (.finite s false m e)) := fpRound_delivers f env s e hm

theorem fpConvert_plain {f : FpFormat} (env : FpEnv) (v : Bool) {a : FpValue} (ha : a.Plain) (ha0 : a.toRat ≠ 0) :
    f.Delivers env (decide (a.toRat < 0)) |(a.toRat : ℝ)| (fpConvert f env v a) := by
  obtain ⟨s, m, e, hm, rfl⟩ := ha.finite_of_ne ha0
  rw [toRat_finite_neg hm, ← Rat.cast_abs, abs_toRat_finite]
  push_cast
  exact fpConvert_delivers env v s e hm

/-- Settles O53: an exact sum or product is an integer times a power of two, and how it is written does not matter to the
rounding; a quotient or a root is truncated with a sticky bit, which rounds like the exact value. -/
theorem exactThenRounded : Obligations.ExactThenRounded := by
  refine ⟨fun f env v s1 s2 m1 m2 n e1 e2 d hm1 hm2 hn => ?_, fun f env v a b c ha hb hc => ?_⟩
  · intro a b isMag
    have ha : a.Plain := .inr ⟨s1, m1, e1, hm1, rfl⟩
    have hb : b.Plain := .inr ⟨s2, m2, e2, hm2, rfl⟩
    exact ⟨fpAdd_isRoundingOf v ha hb n d hn, fpSub_isRoundingOf v ha hb n d hn, fpMul_isRoundingOf v ha hb n d hn⟩
  intro x y zero rounds
  refine ⟨fpAdd_isRoundingOf v ha hb, fpSub_isRoundingOf v ha hb, fpMul_isRoundingOf v ha hb, fun h0 h => ?sum,
    fun h0 h => ?difference, fpDiv_delivers env v ha hb, fpSqrt_delivers env v ha, fpConvert_plain env v ha, ?madd⟩
  case sum =>
    rw [fpAdd_plain v ha hb]
    exact fpAddValues_cancel ha hb h0 h
  case difference =>
    rw [fpSub_plain v ha hb]
    exact fpAddValues_cancel ha hb.negate h0 (by rw [hb.toRat_negate, ← sub_eq_add_neg]; exact h)
  case madd =>
    simp only [List.forall_mem_cons, List.not_mem_nil, false_imp_iff, implies_true, and_true]
    exact ⟨fpMadd_rounds v .madd ha hb hc, fpMadd_rounds v .msub ha hb hc, fpMadd_rounds v .nmadd ha hb hc,
      fpMadd_rounds v .nmsub ha hb hc⟩

end Sys2Proof.Machine
end

section
/-! The conversions. -/

namespace Sys2Proof.Machine

/-! To an integer. -/

section
variable {K : Type} [Field K] [LinearOrder K] [IsStrictOrderedRing K]

theorem roundsMag_self (rm : RoundingMode) (sign : Bool) (q : ℕ) : RoundsMag rm sign (q : K) q := by
  cases rm <;> cases sign <;> simp [RoundsMag, RoundsDown, RoundsAway]

end

/-- The integer magnitude of `m * 2^e`, with whether it was inexact. -/
def roundMagnitude (rm : RoundingMode) (s : Bool) (m : ℕ) (e : ℤ) : ℕ × Bool :=
  if 0 ≤ e then (m * 2 ^ e.toNat, false) else roundShift rm s m (-e).toNat

theorem roundMagnitude_rounds (rm : RoundingMode) (s : Bool) (m : ℕ) (e : ℤ) :
    RoundsMag rm s ((m : ℚ) * 2 ^ e) (roundMagnitude rm s m e).1 ∧
      ((roundMagnitude rm s m e).2 = false ↔ (m : ℚ) * 2 ^ e = (roundMagnitude rm s m e).1) := by
  unfold roundMagnitude
  split
  · next he =>
    have hint : (m : ℚ) * 2 ^ e = ((m * 2 ^ e.toNat : ℕ) : ℚ) := by
      push_cast
      rw [← zpow_natCast, Int.toNat_of_nonneg he]
    rw [hint]
    exact ⟨roundsMag_self rm s _, iff_of_true rfl rfl⟩
  · next he =>
    refine roundShift_rounds rm s ?_
    rw [mul_assoc, ← zpow_natCast, ← zpow_add₀ two_ne_zero, Int.toNat_of_nonneg (by omega), add_neg_cancel, zpow_zero, mul_one]
    exact locates_self m _

theorem roundsDown_iff_floor {t : ℚ} {q : ℕ} : RoundsDown t q ↔ ⌊t⌋ = q := by
  rw [Int.floor_eq_iff]
  rfl

theorem roundsAway_iff_ceil {t : ℚ} {q : ℕ} : RoundsAway t q ↔ ⌈t⌉ = q := by
  rw [Int.ceil_eq_iff, RoundsAway, and_comm, sub_lt_iff_lt_add]
  rfl

/-- With its sign, the rounded magnitude is the integer the value rounds to. -/
theorem roundsToInt_of {rm : RoundingMode} {s : Bool} {t : ℚ} {q : ℕ} (ht : 0 < t) (h : RoundsMag rm s t q) :
    RoundsToInt rm (if s then -t else t) (signedMag s q) := by
  cases rm with
  | nearest =>
    obtain ⟨hhalf, htie⟩ := h
    have hdist : |(if s then -t else t) - (signedMag s q : ℚ)| = |(q : ℚ) - t| := by
      cases s
      · rw [abs_sub_comm]
        rfl
      · simp only [signedMag, if_true]
        push_cast
        congr 1
        ring
    have hparity : signedMag s q % 2 = 0 ↔ q % 2 = 0 := by
      cases s
      · exact Int.natCast_mod q 2 ▸ by omega
      · simp only [signedMag, if_true]
        omega
    exact ⟨hdist.le.trans hhalf, fun heq => hparity.2 (htie (hdist.symm.trans heq))⟩
  | towardZero =>
    have hfloor := roundsDown_iff_floor.1 h
    cases s
    · exact (hfloor.symm.trans (if_pos ht.le).symm)
    · show -(q : ℤ) = if 0 ≤ -t then ⌊-t⌋ else ⌈-t⌉
      rw [if_neg (by linarith), Int.ceil_neg, hfloor]
  | up =>
    cases s
    · exact (roundsAway_iff_ceil.1 h).symm
    · show -(q : ℤ) = ⌈-t⌉
      rw [Int.ceil_neg, roundsDown_iff_floor.1 h]
  | down =>
    cases s
    · exact (roundsDown_iff_floor.1 h).symm
    · show -(q : ℤ) = ⌊-t⌋
      rw [Int.floor_neg, roundsAway_iff_ceil.1 h]

theorem toRat_finite (s d : Bool) (m : ℕ) (e : ℤ) :
    (FpValue.finite s d m e).toRat = if s then -((m : ℚ) * 2 ^ e) else m * 2 ^ e := by
  cases s <;> simp [FpValue.toRat, signedMag]

theorem intLimit_eq (w : ℕ) (s : Bool) :
    intLimit w s = BitVec.ofInt 64 (if s then -(2 ^ (w - 1)) else 2 ^ (w - 1) - 1) := by cases s <;> rfl

/-- A normal operand to an integer: the integer it rounds to, or the limit of its sign. -/
theorem fpToInt_finite (w : ℕ) (rm : RoundingMode) (v s : Bool) {m : ℕ} (e : ℤ) (hm : 0 < m) :
    ∃ z : ℤ, RoundsToInt rm (FpValue.finite s false m e).toRat z ∧
      (-(2 ^ (w - 1)) ≤ z ∧ z < 2 ^ (w - 1) → (fpConvertToInt w rm v (.finite s false m e)).value = BitVec.ofInt 64 z ∧
        (fpConvertToInt w rm v (.finite s false m e)).causes =
          if (z : ℚ) = (FpValue.finite s false m e).toRat then causeNone else causeI) ∧
      (¬(-(2 ^ (w - 1)) ≤ z ∧ z < 2 ^ (w - 1)) → (fpConvertToInt w rm v (.finite s false m e)).causes = causeV ∧
        (fpConvertToInt w rm v (.finite s false m e)).value = intLimit w s) := by
  obtain ⟨hrounds, hexact⟩ := roundMagnitude_rounds rm s m e
  have hpos : (0 : ℚ) < m * 2 ^ e := by positivity
  have hconvert : fpConvertToInt w rm v (.finite s false m e) =
      let r := roundMagnitude rm s m e
      if outOfRange w (signedMag s r.1) then convertInvalid w s
      else { causes := if r.2 then causeI else causeNone, value := BitVec.ofInt 64 (signedMag s r.1) } := rfl
  have hrange : outOfRange w (signedMag s (roundMagnitude rm s m e).1) = true ↔
      ¬(-(2 ^ (w - 1)) ≤ signedMag s (roundMagnitude rm s m e).1 ∧ signedMag s (roundMagnitude rm s m e).1 < 2 ^ (w - 1)) := by
    simp only [outOfRange, Bool.or_eq_true, decide_eq_true_eq]
    omega
  have hvalue : ((signedMag s (roundMagnitude rm s m e).1 : ℤ) : ℚ) = (FpValue.finite s false m e).toRat ↔
      (roundMagnitude rm s m e).2 = false := by
    rw [hexact, toRat_finite, eq_comm]
    cases s <;> simp [signedMag]
  refine ⟨signedMag s (roundMagnitude rm s m e).1, ?_, fun h => ?_, fun h => ?_⟩
  · rw [toRat_finite]
    exact roundsToInt_of hpos hrounds
  · have hin : ¬outOfRange w (signedMag s (roundMagnitude rm s m e).1) = true := fun ho => hrange.1 ho h
    rw [hconvert]
    dsimp only
    rw [if_neg hin]
    refine ⟨rfl, ?_⟩
    simp only [hvalue]
    cases (roundMagnitude rm s m e).2 <;> rfl
  · rw [hconvert]
    dsimp only
    rw [if_pos (hrange.2 h)]
    exact ⟨rfl, rfl⟩

theorem fpConvertToInt_unimplemented {w : ℕ} {rm : RoundingMode} {v : Bool} {a : FpValue} (h : a.Unimplemented) :
    (fpConvertToInt w rm v a).causes = causeE := by
  rcases h with ⟨s, rfl⟩ | ⟨s, m, e, rfl⟩ <;> rfl

/-! To a format. -/

theorem fpConvert_checked (f : FpFormat) (env : FpEnv) (v : Bool) (a : FpValue) :
    (fpConvert f env v a).Checked f a.Unimplemented a.Signals
      (∀ s, (a = .infinity s → (fpConvert f env v a).Exactly f (.infinity s)) ∧
        (a = .zero s → (fpConvert f env v a).Exactly f (.zero s)) ∧
        ∀ m e, 0 < m → a = .finite s false m e → f.Delivers env s (m * 2 ^ e) (fpConvert f env v a)) := by
  refine fpCheck_checked a.unimplemented_iff a.signaling_iff fun _ _ s => ⟨?_, ?_, fun m e hm => ?_⟩ <;> rintro rfl
  · exact exactly_infinity f s
  · exact exactly_zero f s
  · exact fpConvert_delivers env v s e hm

theorem fpOfInt_delivers (f : FpFormat) (env : FpEnv) {n : ℤ} (hn : n ≠ 0) :
    f.Delivers env (decide (n < 0)) |(n : ℝ)| (fpOfInt f env n) := by
  have hmag : |(n : ℝ)| = (n.natAbs : ℝ) * 2 ^ (0 : ℤ) := by rw [zpow_zero, mul_one, Nat.cast_natAbs, Int.cast_abs]
  rw [fpOfInt, if_neg hn, hmag]
  exact fpRound_delivers f env _ 0 (Int.natAbs_pos.2 hn)

/-- Settles O50: each conversion ends with its result; to an integer the magnitude is rounded and judged with its sign. -/
theorem floatingConversions : Obligations.FloatingConversions := by
  refine ⟨fun s fs fd hu ha => ?ends, fun f env rm v a n => ⟨fun w hw => ?toInt, fpConvert_checked f env v a, ?zero,
    fpOfInt_delivers f env⟩⟩
  case zero =>
    have hbits : 0#64 = fpZero f false := by cases f <;> decide
    exact ⟨rfl, (congrArg (fpUnpack f) hbits).trans (fpUnpack_fpZero f false)⟩
  case toInt =>
    intro r limit
    have hlimit (s : Bool) : intLimit w s = limit s := intLimit_eq w s
    refine ⟨fpConvertToInt_unimplemented, fun s h => ?_, fun s h => ?_, fun s m e hm h => ?_⟩
    · rw [← hlimit]
      rcases h with rfl | rfl <;> exact ⟨rfl, rfl⟩
    · subst h
      exact ⟨rfl, rfl⟩
    · subst h
      rw [← hlimit]
      exact fpToInt_finite w rm v s e hm
  intro env v a c
  have single {i : Instr} {r : FpResult} (hi : exec i s = withCp1 s (fpFinishS s fd r)) : EndsSingle i s fd r :=
    withCp1_endsSingle hu ha hi rfl
  refine ⟨?singleToWord, single rfl, fun hfs => ?fromWide, fun hfd => ?toWide⟩
  case singleToWord =>
    simp only [List.forall_mem_cons, List.not_mem_nil, false_imp_iff, implies_true, and_true]
    exact ⟨single rfl, single rfl, single rfl, single rfl, single rfl⟩
  case fromWide =>
    have wide {i : Instr} {r : FpResult} (hi : exec i s = withCp1 s (withFpr64 s [fs] (fpFinishS s fd r))) :
        EndsSingle i s fd r := endsSingle_of ha (hi.trans (withFpr64_eq hu (by simp [hfs])))
    simp only [List.forall_mem_cons, List.not_mem_nil, false_imp_iff, implies_true, and_true]
    exact ⟨⟨wide rfl, wide rfl, wide rfl, wide rfl, wide rfl⟩, wide rfl, wide rfl⟩
  case toWide =>
    have wide {i : Instr} {r : FpResult} (hi : exec i s = withCp1 s (withFpr64 s [fd] (fpFinishD s fd r))) :
        EndsDouble i s fd r := endsDouble_of ha (hi.trans (withFpr64_eq hu (by simp [hfd])))
    refine ⟨?_, wide rfl, wide rfl, fun hfs => ?_⟩
    · simp only [List.forall_mem_cons, List.not_mem_nil, false_imp_iff, implies_true, and_true]
      exact ⟨wide rfl, wide rfl, wide rfl, wide rfl, wide rfl⟩
    · have both {i : Instr} {r : FpResult} (hi : exec i s = withCp1 s (withFpr64 s [fs, fd] (fpFinishD s fd r))) :
          EndsDouble i s fd r := endsDouble_of ha (hi.trans (withFpr64_eq hu (by simp [hfs, hfd])))
      simp only [List.forall_mem_cons, List.not_mem_nil, false_imp_iff, implies_true, and_true]
      exact ⟨⟨both rfl, both rfl, both rfl, both rfl, both rfl⟩, both rfl⟩

end Sys2Proof.Machine
end
